-- ==== Sys2Proof/Word.lean ====
section
/-! DEFINITION. The word types of the port and the lines (R194), points and rectangles in µm, and the
names of the five station lines and the two spindles (R84, R97). -/

namespace Sys2Proof

/-- One byte on the command port or on a station line. -/
abbrev Byte := BitVec 8

/-- A four-byte field: panel id, magazine id, life limit, cut total, configuration value, notice mask (R194). -/
abbrev Word := BitVec 32

/-- A coordinate of a host command or a station frame: three bytes, signed, in µm (R194). -/
abbrev Coord := BitVec 24

/-- A two-byte unsigned field (R194). -/
abbrev Half := BitVec 16

/-- A point (x, y) in µm. -/
structure Point where
  x : Int
  y : Int
  deriving DecidableEq, Repr

/-- A rectangle by its low and its high corner. -/
structure Rect where
  low : Point
  high : Point
  deriving DecidableEq, Repr

/-- Spindle A or spindle B (R97). -/
inductive Spindle where
  | a
  | b
  deriving DecidableEq, Repr

/-- The five station lines by their role (R84). -/
inductive LineId where
  | spindleA
  | spindleB
  | gripper
  | vision
  | elevator
  deriving DecidableEq, Repr

/-- The line's place among the five. -/
def LineId.idx : LineId → Fin 5
  | .spindleA => 0
  | .spindleB => 1
  | .gripper => 2
  | .vision => 3
  | .elevator => 4

/-- The line of a spindle (R88). -/
def Spindle.line : Spindle → LineId
  | .a => .spindleA
  | .b => .spindleB

/-- The spindle that is not this one (R102). -/
def Spindle.other : Spindle → Spindle
  | .a => .b
  | .b => .a

end Sys2Proof
end

