-- ==== Sys2Proof/Syntax.lean ====
section
/-! DEFINITION. The commands of the part: one constructor for each row of spec/opcode_table.json, with the
row's operands at the widths of R194. A host command or a station request stands for its complete frame; the
frames that reach no row, and frames given byte for byte, are `commandFrame`, `stationFrame` and
`stationLineByte`. -/

namespace Sys2Proof

/-- One command, one row of the table. -/
inductive Instr where
  -- Recipes (file 01)
  | recipeBegin (payload : List Byte)
  | recipeSite (payload : List Byte)
  | recipeZone (payload : List Byte)
  | recipeEnd
  | validationEnd
  | recipeDrop (number : Byte)
  | recipeRead (number : Byte)
  -- Panels (file 02)
  | panelAdmit (panelId : Word) (recipe fixture : Byte)
  | panelRetire (entry force : Byte)
  | panelRead (entry : Byte)
  -- Alignment (file 03)
  | fiducial (entry : Byte) (x1 y1 x2 y2 : Coord)
  | zoneVisit (entry : Fin 4)
  | pickPointVisit (entry : Fin 4)
  | tabVisit (entry : Fin 4)
  | correctionRunEnd (entry : Fin 4)
  -- Records (file 04)
  | siteMark (entry site verdict : Byte)
  | decideVerdict (entry site verdict : Byte)
  | holdExpiry
  | tabResolve (entry site tab outcome : Byte)
  | boardResolve (entry site outcome : Byte)
  | boardRead (entry site : Byte)
  | tabRead (entry site tab : Byte)
  -- Station lines (file 05)
  | gapTimerExpiry (line : LineId)
  | stationFrame (line : LineId) (bytes : List Byte)
  | frameTransmitted (line : LineId)
  -- Cut dispatch (file 06)
  | nextTab (sp : Spindle)
  | tabDone (sp : Spindle) (entry site tab : Byte)
  | tabFault (sp : Spindle) (entry site tab reason : Byte)
  | progress (line : LineId)
  | spindleWatchdogExpiry (sp : Spindle)
  | bitChange (spindle : Byte) (lifeLimit startTotal : Word)
  | stationClear (station : Byte)
  | zoneSet (zone : Byte) (lowX lowY highX highY : Coord) (mode enable : Byte)
  -- Pick (file 07)
  | nextPick
  | holdOn (entry site : Byte)
  | placeCheck (entry site : Byte)
  | placed (entry site bay slot : Byte)
  | dropped (entry site : Byte)
  | gripperWatchdogExpiry
  -- Bays (file 08)
  | bayPoll
  | bayDoneIndex (bay ok : Byte)
  | bayDoneExchange (bay ok : Byte)
  | actionTimerExpiry (bay : Fin 4)
  | settleTimerExpiry (bay : Fin 4)
  | confirmWindowExpiry (bay : Fin 4)
  | magStage (bay : Byte) (magazineId : Word) (slotCount : Byte) (pitch clearance : Half)
  | magGo (bay : Byte)
  | magUnstage (bay : Byte)
  | bayExchange (bay : Byte)
  | bayClear (bay loaded : Byte)
  | magRelease (magazineId : Word)
  | magRead (location first count : Byte)
  | bayRoute (payload : List Byte)
  -- Sensors and pausing (file 09)
  | sample (raw : BitVec 7)
  | pause
  | resume
  -- Faults and restart (file 10)
  | faultRead
  | faultAck
  | restartWarm
  | restartCold
  | resetAssert
  | resetRelease
  | powerOn
  -- Command port (file 11)
  | commandFrame (bytes : List Byte)
  | configSet (item : Byte) (value : Word)
  | configRead (item : Byte)
  | noticeRead
  | noticeWriteSet (mask : Word)
  | noticeWriteClear (mask : Word)
  | noticeWriteEnable (mask : Word)
  | noticeWriteDisable (mask : Word)
  | noticeWriteGroupEnable (mask : Word)
  | noticeWriteGroupDisable (mask : Word)
  | stationLineByte (line : LineId) (byte : Byte) (framingError : Bool)
  deriving DecidableEq, Repr

end Sys2Proof
end

