-- ==== Sys2Proof/Config.lean ====
section
/-! DEFINITION. What the part fixes (capacities, limits, codes of R194 that are constants) and the two
free values of the model. -/

namespace Sys2Proof.Config

/-- FREE VALUE (log entry 3). Which of several events that one tick or one sample brings about is taken
next: the spec gives outcomes for either order (R106, R115, R172, R180) and no rule that picks one.
Applied to the counter `State.choice`. -/
opaque order : Nat → Nat

/-- FREE VALUE (log entry 31). What the port shifts out, RESET being negated, while the host goes on clocking a selection whose
transaction has been abandoned: by R193 the port then awaits a new selection, and no rule gives its output. Applied to the byte
position. -/
opaque idleOutput : Nat → Byte

/-- The travel envelope's upper x bound (file 00, R12, R39). -/
def envelopeX : Int := 600000

/-- The travel envelope's upper y bound (file 00, R12, R39). -/
def envelopeY : Int := 450000

/-- 2 to the power 20: 1 in Q20 (R40, R41). -/
def q20 : Int := 1048576

/-- The stretch limit of R42. -/
def stretchLimit : Int := 5243

/-- The angle limit of R42. -/
def angleLimit : Int := 36700

/-- The least squared fiducial spacing (R12, check 8). -/
def minSpacing : Int := 400000000

/-- The most tabs of a recipe (R12, check 4). -/
def maxTabs : Nat := 256

/-- The widest span a board may take (R127). -/
def maxSpan : Nat := 8

/-- The most answers that frames may find queued on a line (R87). -/
def queueRoom : Nat := 4

/-- The records the outgoing list may hold (R142, R150). -/
def outgoingRoom : Nat := 4

/-- The ticks of silence that drop a frame (R85). -/
def gapTicks : Nat := 3

/-- The start byte of a station frame (R194). -/
def startByte : Byte := 0x7E

/-- The first byte of a status read (R186). -/
def statusRead : Byte := 0xA5

/-- The first byte of a fetch (R186). -/
def fetch : Byte := 0xA6

/-- The top of a four-byte count (R97, R110). -/
def maxWord : Nat := 4294967295

/-- The least life limit (R97, R116). -/
def minLife : Nat := 1000000

/-- The greatest life limit (R97, R116). -/
def maxLife : Nat := 1000000000

end Sys2Proof.Config
end

