-- ==== Sys2Proof/Machine/State.lean ====
section
/-! DEFINITION. The state of the SM-416, block by block, as plain data; the reasons a step can stop; the machine
right after a cold restart. Where the spec derives one state from another (pause state, group summaries, ATN, status
byte, in-use counts, received counts) only the source is stored, and Machine/Flags.lean computes the view. -/

namespace Sys2Proof.Machine

/-! ### Recipes (file 01) -/

/-- The three coordinate packings (R3 to R5). -/
inductive Packing where
  | p12
  | w16
  | s24
  deriving DecidableEq, Repr

/-- The x-out mode of a recipe (R1). -/
inductive XoutMode where
  | leave
  | eject
  deriving DecidableEq, Repr

/-- A tab runs along x (H) or along y (V) (R1). -/
inductive Orientation where
  | h
  | v
  deriving DecidableEq, Repr

/-- A recipe's header (R1). -/
structure RecipeHeader where
  packing : Packing
  pitch : Nat
  siteCount : Nat
  f1 : Point
  f2 : Point
  thickness : Nat
  xout : XoutMode
  deriving DecidableEq, Repr

/-- One tab of a recipe's site (R1); its tab index is its place in the site's list. -/
structure RecipeTab where
  mid : Point
  orient : Orientation
  width : Nat
  seq : Nat
  release : Bool
  deriving DecidableEq, Repr

/-- One entry of a recipe's site table (R1). -/
structure RecipeSite where
  variant : Nat
  origin : Point
  width : Nat
  height : Nat
  topHeight : Nat
  tabs : List RecipeTab
  deriving DecidableEq, Repr

/-- A committed recipe (R1). -/
structure Recipe where
  header : RecipeHeader
  sites : List RecipeSite
  zones : Vector (Option Rect) 8
  deriving DecidableEq, Repr

/-- A staged recipe: site and zone entries begin absent (R2). -/
structure StagedRecipe where
  header : RecipeHeader
  sites : List (Option RecipeSite)
  zones : Vector (Option Rect) 8
  deriving DecidableEq, Repr

/-- The staging area (R2). -/
inductive Staging where
  | closed
  | opened (number : Fin 16) (recipe : StagedRecipe)
  | validating (number : Fin 16) (recipe : StagedRecipe)
  deriving DecidableEq, Repr

/-! ### Board and tab records (file 04) -/

/-- A handle naming a board (file 00). -/
structure BoardHandle where
  entry : Fin 4
  site : Nat
  deriving DecidableEq, Repr

/-- A handle naming a tab (file 00). -/
structure TabHandle where
  entry : Fin 4
  site : Nat
  tab : Nat
  deriving DecidableEq, Repr

/-- The board a tab belongs to. -/
def TabHandle.board (h : TabHandle) : BoardHandle := ⟨h.entry, h.site⟩

/-- The vision result for a site (file 00, R58). -/
inductive Verdict where
  | none
  | good
  | xout
  | unsure
  deriving DecidableEq, Repr

/-- The six states of a tab (R56). -/
inductive TabState where
  | intact
  | assigned
  | cut
  | skipped
  | blocked
  | suspect
  deriving DecidableEq, Repr

/-- The twelve states of a board (R59). -/
inductive BoardState where
  | awaitMark
  | unsure
  | cutting
  | ready
  | targeted
  | held
  | free
  | suspect
  | placed
  | xoutLeft
  | stranded
  | lost
  deriving DecidableEq, Repr

/-- A reservation: the bay and the first slot (R58). -/
structure Reservation where
  bay : Fin 4
  slot : Nat
  deriving DecidableEq, Repr

/-- A tab record (R56). -/
structure TabRecord where
  ownerSite : Nat
  index : Nat
  nominal : Point
  orient : Orientation
  width : Nat
  seq : Nat
  release : Bool
  corrected : Option Point
  state : TabState
  lastSpindle : Option Spindle
  deriving DecidableEq, Repr

/-- A board record with the records of its tabs in tab index order (R58, R56). -/
structure BoardRecord where
  site : Nat
  variant : Nat
  origin : Point
  width : Nat
  height : Nat
  topHeight : Nat
  pickPoint : Option Point
  verdict : Verdict
  remaining : Nat
  state : BoardState
  reservation : Option Reservation
  notedNoDest : Bool
  notedUnfit : Bool
  tabs : List TabRecord
  deriving DecidableEq, Repr

/-! ### Panels and alignment (files 02, 03) -/

/-- The states of a live panel (R20). -/
inductive PanelState where
  | queued
  | aligning
  | correcting
  | aligned
  | cleared
  deriving DecidableEq, Repr

/-- The correction record (R20, R37). -/
structure Correction where
  c : Int
  s : Int
  f1m : Point
  deriving DecidableEq, Repr

/-- The panel record of a LIVE entry (R20), with the board records the entry owns. -/
structure Panel where
  id : Word
  recipe : Fin 16
  fixture : Fin 2
  state : PanelState
  order : Word
  correction : Option Correction
  boards : List BoardRecord
  deriving DecidableEq, Repr

/-- The item a correction run visits next (R45); `finished` when the last tab has been visited. -/
inductive RunItem where
  | zone (index : Nat)
  | pick (site : Nat)
  | tab (site index : Nat)
  | finished
  deriving DecidableEq, Repr

/-- The run values of a RUNNING run state (R37). -/
structure RunValues where
  c : Int
  s : Int
  f1m : Point
  zones : List Rect
  stranding : Bool
  position : RunItem
  deriving DecidableEq, Repr

/-- The run state of a panel entry (R37). -/
inductive RunState where
  | idle
  | running (values : RunValues)
  deriving DecidableEq, Repr

/-- A timer: `none` is STOPPED, `some n` is RUNNING with n ms remaining (R113, R136, R142, R74). -/
abbrev Timer := Option Nat

/-- The Verdict Hold (R74). The held request stands on the vision line (R84). -/
inductive VerdictHold where
  | empty
  | holding (board : BoardHandle) (timer : Timer)
  deriving DecidableEq, Repr

/-! ### Station lines (file 05) -/

/-- The receiver's state (R85). -/
inductive Receiver where
  | hunt
  | length
  | body
  deriving DecidableEq, Repr

/-- A request or answer frame: its code and its field bytes. -/
structure Frame where
  code : Byte
  fields : List Byte
  deriving DecidableEq, Repr

/-- The line record (R84). The gap timer holds the ticks counted since the last byte. -/
structure Line where
  receiver : Receiver
  partialFrame : List Byte
  gap : Option Nat
  held : Option Frame
  queue : List Frame
  tx : Option Frame
  deriving DecidableEq, Repr

/-! ### Cut dispatch (file 06) -/

/-- The states of a spindle (R97). -/
inductive SpindleState where
  | ready
  | worn
  | broken
  | stalled
  deriving DecidableEq, Repr

/-- The feed class given with a tab (R99). -/
inductive FeedClass where
  | normal
  | reduced
  deriving DecidableEq, Repr

/-- A spindle's current tab (R97). -/
structure CurrentTab where
  handle : TabHandle
  feed : FeedClass
  watch : Bool
  deriving DecidableEq, Repr

/-- A spindle record (R97) with its watchdog (R113). -/
structure SpindleRecord where
  state : SpindleState
  current : Option CurrentTab
  cutTotal : Nat
  lifeLimit : Nat
  watchdog : Timer
  deriving DecidableEq, Repr

/-- The mode of a machine zone (R107). -/
inductive ZoneMode where
  | keepOut
  | watch
  deriving DecidableEq, Repr

/-- An entry of the machine zone table (R107). -/
structure MachineZone where
  rect : Rect
  mode : ZoneMode
  enabled : Bool
  deriving DecidableEq, Repr

/-! ### Pick (file 07) -/

/-- The states of the gripper (R122). -/
inductive GripperState where
  | ready
  | stalled
  deriving DecidableEq, Repr

/-- The gripper record (R122) with its watchdog (R136). -/
structure GripperRecord where
  state : GripperState
  current : Option BoardHandle
  watchdog : Timer
  deriving DecidableEq, Repr

/-- The pick priority mode (R124). -/
inductive PickMode where
  | fixed
  | rotating
  | preferred
  deriving DecidableEq, Repr

/-! ### Bays (file 08) -/

/-- What an OCCUPIED or DOUBTFUL slot holds (R143). -/
structure PlacedBoard where
  panelId : Word
  site : Nat
  variant : Nat
  verdict : Verdict
  deriving DecidableEq, Repr

/-- A slot entry (R143). -/
inductive Slot where
  | empty
  | reserved (board : BoardHandle)
  | spanned (head : Nat)
  | occupied (board : PlacedBoard)
  | doubtful (board : PlacedBoard)
  deriving DecidableEq, Repr

/-- A magazine record (R143); its slot count is the length of its slot table. -/
structure Magazine where
  id : Word
  pitch : Nat
  clearance : Nat
  fill : Nat
  slots : List Slot
  deriving DecidableEq, Repr

/-- The states of a bay (R142). -/
inductive BayState where
  | empty
  | active
  | indexWanted
  | indexing
  | settling
  | atSlot
  | full
  | exchanging
  | faulted
  deriving DecidableEq, Repr

/-- An elevator action (R142). -/
inductive BayAction where
  | index
  | exchange
  deriving DecidableEq, Repr

/-- An OPEN confirm window (R142). -/
structure ConfirmWindow where
  slot : Nat
  remaining : Nat
  deriving DecidableEq, Repr

/-- A bay record (R142). -/
structure Bay where
  state : BayState
  current : Option Magazine
  next : Option Magazine
  go : Bool
  target : Option Nat
  action : Option BayAction
  actionTimer : Timer
  settleTimer : Timer
  confirm : Option ConfirmWindow
  deriving DecidableEq, Repr

/-! ### Inputs and pausing (file 09) -/

/-- A filter record (R163): `level` is true for the named level of raw high. -/
structure FilterRecord where
  level : Bool
  run : Nat
  deriving DecidableEq, Repr

/-- The pause cause set (R167). -/
structure PauseCauses where
  host : Bool
  guardOpen : Bool
  restart : Bool
  deriving DecidableEq, Repr

/-! ### Faults (file 10) -/

/-- The seven fault classes, in the order of R194. -/
inductive FaultClass where
  | align
  | cut
  | bit
  | watchdog
  | bay
  | handling
  | clamp
  deriving DecidableEq, Repr

/-- The fault causes, in the order of R194. -/
inductive FaultCause where
  | range
  | scale
  | angle
  | stall
  | bitBreak
  | spindleExpiry
  | gripperExpiry
  | indexFailed
  | exchangeFailed
  | actionTimeout
  | drop
  | dropUnderCut
  | mismatch
  | unseen
  | openedUnderWork
  deriving DecidableEq, Repr

/-- A fault's context, as handed over and as captured (R175). -/
structure Context where
  cls : FaultClass
  cause : FaultCause
  station : Option LineId
  bay : Option (Fin 4)
  entry : Option (Fin 4)
  panelId : Option Word
  site : Option Nat
  tab : Option Nat
  recoverable : Bool
  deriving DecidableEq, Repr

/-- The Fault Unit (R176). -/
structure FaultUnit where
  enables : BitVec 7
  armed : Bool
  primary : Option Context
  lockdownRec : Option Context
  pendingSet : BitVec 7
  locked : Bool
  deriving DecidableEq, Repr

/-! ### Command port, notices, settings (file 11) -/

/-- The notices, in the bit order of R194. -/
inductive Notice where
  | aligned
  | stranded
  | cleared
  | clampOpen
  | bitWorn
  | bitBroken
  | stalled
  | watchZone
  | verdictHeld
  | verdictDefaulted
  | noDest
  | unfit
  | needMagazine
  | outgoingFull
  | magazineOut
  | bayFaulted
  | captured
  | pending
  | lockdown
  | classFlag (k : FaultClass)
  deriving DecidableEq, Repr

/-- The Notice Unit (R191), its flags as the masks of R194. -/
structure NoticeUnit where
  flags : BitVec 26
  enables : BitVec 26
  groupEnables : BitVec 5
  deriving DecidableEq, Repr

/-- The host answer codes, in the order of R194. -/
inductive HostCode where
  | ok
  | range
  | length
  | locked
  | busy
  | state
  | notOpen
  | inUse
  | invalid
  | noRecipe
  | full
  | duplicate
  | noPanel
  | noRecord
  | late
  | releaseCut
  | order
  | noNext
  | noMagazine
  | outgoingFull
  | notFound
  | notRecoverable
  | badFrame
  | unknown
  deriving DecidableEq, Repr

/-- The answer buffer (R188); `code` is `none` for the code NONE of the empty buffer. -/
structure AnswerBuffer where
  sequence : Byte
  command : Byte
  code : Option HostCode
  fields : List Byte
  deriving DecidableEq, Repr

/-- Settings 0 to 13 of R190 (item 14, the class enables, stands in the Fault Unit). -/
structure Settings where
  holdTime : Nat
  defaultVerdict : Verdict
  clearance : Nat
  spindleTimeout : Nat
  rejectBay : Option (Fin 4)
  pickMode : PickMode
  preferredBay : Fin 4
  gripperTimeout : Nat
  settleTime : Nat
  actionTimeout : Nat
  confirmTime : Nat
  sampleInterval : Nat
  riseCount : Nat
  fallCount : Nat
  deriving DecidableEq, Repr

/-! ### The whole part -/

/-- The state of the SM-416: every block's records, the pins, and the queue of waiting commands. -/
structure State where
  -- Recipe Store
  slots : Vector (Option Recipe) 16
  staging : Staging
  -- Panel Table, Alignment Unit, Record Array
  panels : Vector (Option Panel) 4
  admitCounter : Word
  runs : Vector RunState 4
  -- Verdict Hold
  hold : VerdictHold
  -- Station lines
  lines : Vector Line 5
  -- Cut Dispatcher
  spindleA : SpindleRecord
  spindleB : SpindleRecord
  zones : Vector MachineZone 4
  -- Pick Scheduler
  gripper : GripperRecord
  routing : Vector (Option (Fin 4)) 16
  lastServed : Fin 4
  -- Bay Manager
  bays : Vector Bay 4
  outgoing : List Magazine
  -- Input Filter
  filters : Vector FilterRecord 7
  sampleClock : Nat
  -- The model's own: a tick has found the sample clock at the interval, and its sample is still to be taken (log entry 30)
  sampleDue : Bool
  pins : BitVec 7
  -- Pause Control
  causes : PauseCauses
  -- Fault Unit
  fault : FaultUnit
  -- Notice Unit
  notices : NoticeUnit
  -- Command Port
  answer : AnswerBuffer
  ovr : Bool
  busy : Bool
  settings : Settings
  -- The RESET input
  resetAsserted : Bool
  -- The model's own: the argument of the free value Config.order (log entry 3)
  choice : Nat
  -- The commands waiting, first in, first out
  pending : List Instr
  deriving DecidableEq, Repr

/-- The reasons a command could stop the model. There is none: the spec gives every command an effect or an answer,
so the type is empty, and no meaning can raise a fault (safe: nothing is stopped). -/
inductive Fault : Type
  deriving DecidableEq, Repr

/-- The refusals of the model. -/
inductive Refusal where
  /-- Raised only by an arm of `exec` for a command without a meaning yet; no arm raises it (safe). -/
  | notModelled (mnemonic : String)
  deriving DecidableEq, Repr

/-! ### Cold values -/

/-- A line record with nothing in it (R84). -/
def Line.cold : Line := ⟨.hunt, [], none, none, [], none⟩

/-- The cold spindle record (R97, R121). -/
def SpindleRecord.cold : SpindleRecord := ⟨.ready, none, 0, 60000000, none⟩

/-- The cold machine zone entry (R107). -/
def MachineZone.cold : MachineZone := ⟨⟨⟨0, 0⟩, ⟨0, 0⟩⟩, .keepOut, false⟩

/-- The cold bay record (R142). -/
def Bay.cold : Bay := ⟨.empty, none, none, false, none, none, none, none, none⟩

/-- The cold settings (R190). -/
def Settings.cold : Settings :=
  { holdTime := 5000, defaultVerdict := .xout, clearance := 60000, spindleTimeout := 4000, rejectBay := none,
    pickMode := .fixed, preferredBay := 0, gripperTimeout := 3000, settleTime := 50, actionTimeout := 8000,
    confirmTime := 300, sampleInterval := 2, riseCount := 3, fallCount := 3 }

/-- The part right after a cold restart at power-on (R19, R36, R54, R83, R95, R121, R141, R162, R166, R167, R185, R188,
R190, R191). The raw input pins stand low and RESET is negated (inputs: log entries 4 and 17). -/
def State.reset : State where
  slots := Vector.replicate 16 none
  staging := .closed
  panels := Vector.replicate 4 none
  admitCounter := 0
  runs := Vector.replicate 4 .idle
  hold := .empty
  lines := Vector.replicate 5 Line.cold
  spindleA := SpindleRecord.cold
  spindleB := SpindleRecord.cold
  zones := Vector.replicate 4 MachineZone.cold
  gripper := ⟨.ready, none, none⟩
  routing := Vector.replicate 16 none
  lastServed := 3
  bays := Vector.replicate 4 Bay.cold
  outgoing := []
  filters := Vector.replicate 7 ⟨false, 0⟩
  sampleClock := 0
  sampleDue := false
  pins := 0
  causes := ⟨false, false, true⟩
  fault := ⟨0x7F, true, none, none, 0, false⟩
  notices := ⟨0, BitVec.allOnes 26, BitVec.allOnes 5⟩
  answer := ⟨0, 0, none, []⟩
  ovr := false
  busy := false
  settings := Settings.cold
  resetAsserted := false
  choice := 0
  pending := []

end Sys2Proof.Machine
end

