-- ==== Sys2Proof/Machine/Operands.lean ====
section
/-! DEFINITION. The operand forms of the port and the lines (R3 to R6, R194): how field bytes become values, how values
become answer fields, and the numeric codes of every enumeration. -/

namespace Sys2Proof.Machine

/-! ### Reading fields -/

/-- A one-byte index, when it is below its bound. -/
def fin? (n k : Nat) : Option (Fin n) := if h : k < n then some ⟨k, h⟩ else none

/-- A flag byte: 0 is clear, any other value is set (R194). -/
def flagSet (b : Byte) : Bool := decide (b ≠ 0)

/-- A machine coordinate of a host command or a station frame: signed two's complement (R194). -/
def coordPoint (x y : Coord) : Point := ⟨x.toInt, y.toInt⟩

/-- The byte at a place of a payload, as a number. -/
def byteAt (payload : List Byte) (i : Nat) : Nat := (payload.getD i 0).toNat

/-- A two-byte unsigned field, high byte first. -/
def halfAt (payload : List Byte) (i : Nat) : Nat := byteAt payload i * 256 + byteAt payload (i + 1)

/-- A three-byte field, high byte first. -/
def coordAt (payload : List Byte) (i : Nat) : Coord :=
  BitVec.ofNat 24 (byteAt payload i * 65536 + byteAt payload (i + 1) * 256 + byteAt payload (i + 2))

/-- A four-byte field, high byte first. -/
def wordAt (payload : List Byte) (i : Nat) : Word :=
  BitVec.ofNat 32 (byteAt payload i * 16777216 + byteAt payload (i + 1) * 65536 + byteAt payload (i + 2) * 256
    + byteAt payload (i + 3))

/-! ### Recipe frames (R3 to R6) -/

/-- The packing a code names (R194). -/
def packingOf (code : Nat) : Option Packing :=
  if code = 0 then some .p12 else if code = 1 then some .w16 else if code = 2 then some .s24 else none

/-- Bytes per pair (R3, R4, R5). -/
def Packing.width : Packing → Nat
  | .p12 => 3
  | .w16 => 4
  | .s24 => 6

/-- A P12 pair: two unsigned 12-bit numbers times the grid pitch (R3). -/
def expandP12 (pitch b0 b1 b2 : Nat) : Point :=
  ⟨((b0 * 16 + b1 / 16) * pitch : Nat), ((b1 % 16 * 256 + b2) * pitch : Nat)⟩

/-- A W16 pair: two unsigned 16-bit numbers times 10 (R4). -/
def expandW16 (x y : Nat) : Point := ⟨(x * 10 : Nat), (y * 10 : Nat)⟩

/-- The pair at a place of a recipe payload, expanded to µm by the packing (R3, R4, R5). -/
def pairAt (packing : Packing) (pitch : Nat) (payload : List Byte) (i : Nat) : Point :=
  match packing with
  | .p12 => expandP12 pitch (byteAt payload i) (byteAt payload (i + 1)) (byteAt payload (i + 2))
  | .w16 => expandW16 (halfAt payload i) (halfAt payload (i + 2))
  | .s24 => coordPoint (coordAt payload i) (coordAt payload (i + 3))

/-- A size: a 16-bit value in units of 10 µm (R6). -/
def sizeAt (payload : List Byte) (i : Nat) : Nat := halfAt payload i * 10

/-- The x-out mode a code names (R194). -/
def xoutModeOf (code : Nat) : Option XoutMode :=
  if code = 0 then some .leave else if code = 1 then some .eject else none

/-- The orientation a code names (R194). -/
def orientationOf (code : Nat) : Option Orientation :=
  if code = 0 then some .h else if code = 1 then some .v else none

/-- The verdict a command's or request's code names: GOOD, XOUT or UNSURE (R194). -/
def verdictOf (b : Byte) : Option Verdict :=
  if b = 0 then some .good else if b = 1 then some .xout else if b = 2 then some .unsure else none

/-- The zone mode a code names (R194). -/
def zoneModeOf (b : Byte) : Option ZoneMode :=
  if b = 0 then some .keepOut else if b = 1 then some .watch else none

/-! ### Writing answer fields (R194) -/

/-- A one-byte field. -/
def u8 (n : Nat) : List Byte := [BitVec.ofNat 8 n]

/-- A two-byte field, high byte first. -/
def u16 (n : Nat) : List Byte := [BitVec.ofNat 8 (n / 256), BitVec.ofNat 8 n]

/-- A three-byte field, high byte first. -/
def u24 (n : Nat) : List Byte := [BitVec.ofNat 8 (n / 65536), BitVec.ofNat 8 (n / 256), BitVec.ofNat 8 n]

/-- A four-byte field, high byte first. -/
def u32 (n : Nat) : List Byte :=
  [BitVec.ofNat 8 (n / 16777216), BitVec.ofNat 8 (n / 65536), BitVec.ofNat 8 (n / 256), BitVec.ofNat 8 n]

/-- A signed three-byte coordinate. -/
def s24 (i : Int) : List Byte := u24 (BitVec.ofInt 24 i).toNat

/-- A signed four-byte field (c and s). -/
def s32 (i : Int) : List Byte := u32 (BitVec.ofInt 32 i).toNat

/-- A point: x before y. -/
def pointBytes (p : Point) : List Byte := s24 p.x ++ s24 p.y

/-- A box: its low and its high corner. -/
def rectBytes (r : Rect) : List Byte := pointBytes r.low ++ pointBytes r.high

/-- A flag or mark. -/
def flag (b : Bool) : List Byte := if b then [1] else [0]

/-- A one-byte field that may read none: 0xFF when absent. -/
def opt8 : Option Nat → List Byte
  | some n => u8 n
  | none => [0xFF]

/-- A wider field that may be absent: a presence byte, then its bytes, 0 when absent. -/
def optWide {α : Type} (width : Nat) (enc : α → List Byte) : Option α → List Byte
  | some a => 1 :: enc a
  | none => 0 :: List.replicate width 0

/-- A board handle. -/
def boardHandleBytes (h : BoardHandle) : List Byte := u8 h.entry ++ u8 h.site

/-- A tab handle. -/
def tabHandleBytes (h : TabHandle) : List Byte := u8 h.entry ++ u8 h.site ++ u8 h.tab

/-- A board handle or none. The form of an absent handle is the model's: 0xFF in each of its one-byte fields, no presence byte
(DEDUCED, log entry 10). -/
def optBoardHandle (h : Option BoardHandle) : List Byte :=
  opt8 (h.map (fun h => h.entry.val)) ++ opt8 (h.map (·.site))

/-- A tab handle or none. The form of an absent handle is the model's: 0xFF in each of its one-byte fields, no presence byte
(DEDUCED, log entry 10). -/
def optTabHandle (h : Option TabHandle) : List Byte :=
  opt8 (h.map (fun h => h.entry.val)) ++ opt8 (h.map (·.site)) ++ opt8 (h.map (·.tab))

/-- A reservation's bay and first slot, or none. The form of an absent reservation is the model's: 0xFF in each of its one-byte
fields, no presence byte (DEDUCED, log entry 10). -/
def optReservation (r : Option Reservation) : List Byte :=
  opt8 (r.map (fun r => r.bay.val)) ++ opt8 (r.map (·.slot))

/-! ### Codes (R194) -/

def Packing.code : Packing → Nat
  | .p12 => 0
  | .w16 => 1
  | .s24 => 2

def XoutMode.code : XoutMode → Nat
  | .leave => 0
  | .eject => 1

def Orientation.code : Orientation → Nat
  | .h => 0
  | .v => 1

def Verdict.code : Verdict → Nat
  | .good => 0
  | .xout => 1
  | .unsure => 2
  | .none => 3

def TabState.code : TabState → Nat
  | .intact => 0
  | .assigned => 1
  | .cut => 2
  | .skipped => 3
  | .blocked => 4
  | .suspect => 5

def BoardState.code : BoardState → Nat
  | .awaitMark => 0
  | .unsure => 1
  | .cutting => 2
  | .ready => 3
  | .targeted => 4
  | .held => 5
  | .free => 6
  | .suspect => 7
  | .placed => 8
  | .xoutLeft => 9
  | .stranded => 10
  | .lost => 11

/-- The twelve board states in code order (R59, R31). -/
def BoardState.all : List BoardState :=
  [.awaitMark, .unsure, .cutting, .ready, .targeted, .held, .free, .suspect, .placed, .xoutLeft, .stranded, .lost]

/-- The six tab states in code order (R56, R31). -/
def TabState.all : List TabState := [.intact, .assigned, .cut, .skipped, .blocked, .suspect]

def PanelState.code : PanelState → Nat
  | .queued => 0
  | .aligning => 1
  | .correcting => 2
  | .aligned => 3
  | .cleared => 4

/-- The code of the state FREE of a panel entry. -/
def freePanelCode : Nat := 5

def spindleCode : Spindle → Nat
  | .a => 0
  | .b => 1

/-- Station codes: A 0, B 1, gripper 2, vision 3, elevator 4. -/
def lineCode (l : LineId) : Nat := l.idx.val

/-- The station a spindle is (for a fault's context). -/
def stationOf (sp : Spindle) : LineId := sp.line

def SpindleState.code : SpindleState → Nat
  | .ready => 0
  | .worn => 1
  | .broken => 2
  | .stalled => 3

def GripperState.code : GripperState → Nat
  | .ready => 0
  | .stalled => 1

def FeedClass.code : FeedClass → Nat
  | .normal => 0
  | .reduced => 1

def ZoneMode.code : ZoneMode → Nat
  | .keepOut => 0
  | .watch => 1

def BayState.code : BayState → Nat
  | .empty => 0
  | .active => 1
  | .indexWanted => 2
  | .indexing => 3
  | .settling => 4
  | .atSlot => 5
  | .full => 6
  | .exchanging => 7
  | .faulted => 8

def BayAction.code : BayAction → Nat
  | .index => 0
  | .exchange => 1

def Slot.code : Slot → Nat
  | .empty => 0
  | .reserved _ => 1
  | .spanned _ => 2
  | .occupied _ => 3
  | .doubtful _ => 4

def FaultClass.code : FaultClass → Nat
  | .align => 0
  | .cut => 1
  | .bit => 2
  | .watchdog => 3
  | .bay => 4
  | .handling => 5
  | .clamp => 6

/-- The seven classes in code order. -/
def FaultClass.all : List FaultClass := [.align, .cut, .bit, .watchdog, .bay, .handling, .clamp]

def FaultCause.code : FaultCause → Nat
  | .range => 0
  | .scale => 1
  | .angle => 2
  | .stall => 3
  | .bitBreak => 4
  | .spindleExpiry => 5
  | .gripperExpiry => 6
  | .indexFailed => 7
  | .exchangeFailed => 8
  | .actionTimeout => 9
  | .drop => 10
  | .dropUnderCut => 11
  | .mismatch => 12
  | .unseen => 13
  | .openedUnderWork => 14

def PickMode.code : PickMode → Nat
  | .fixed => 0
  | .rotating => 1
  | .preferred => 2

/-- The host answer codes, numbered from 0x00 (R194). -/
def HostCode.code : HostCode → Nat
  | .ok => 0
  | .range => 1
  | .length => 2
  | .locked => 3
  | .busy => 4
  | .state => 5
  | .notOpen => 6
  | .inUse => 7
  | .invalid => 8
  | .noRecipe => 9
  | .full => 10
  | .duplicate => 11
  | .noPanel => 12
  | .noRecord => 13
  | .late => 14
  | .releaseCut => 15
  | .order => 16
  | .noNext => 17
  | .noMagazine => 18
  | .outgoingFull => 19
  | .notFound => 20
  | .notRecoverable => 21
  | .badFrame => 22
  | .unknown => 23

/-- An answer to a host command: its code and its fields (R188). -/
structure Answer where
  code : HostCode
  fields : List Byte
  deriving DecidableEq, Repr

/-- An answer of a code alone. -/
def Answer.bare (c : HostCode) : Answer := ⟨c, []⟩

/-- An OK answer with its fields. -/
def Answer.ok (fields : List Byte) : Answer := ⟨.ok, fields⟩

/-- The station answer codes, in the order of the table of R92. -/
inductive StationCode where
  | ok
  | work
  | wait
  | idle
  | paused
  | locked
  | stalled
  | worn
  | broken
  | state
  | notYours
  | late
  | mismatch
  | reject
  | unclamped
  | busy
  | unknown
  | timedOut
  deriving DecidableEq, Repr

/-- The station answer codes, numbered from 0x80 (R194). -/
def StationCode.code : StationCode → Nat
  | .ok => 0x80
  | .work => 0x81
  | .wait => 0x82
  | .idle => 0x83
  | .paused => 0x84
  | .locked => 0x85
  | .stalled => 0x86
  | .worn => 0x87
  | .broken => 0x88
  | .state => 0x89
  | .notYours => 0x8A
  | .late => 0x8B
  | .mismatch => 0x8C
  | .reject => 0x8D
  | .unclamped => 0x8E
  | .busy => 0x8F
  | .unknown => 0x90
  | .timedOut => 0x91

/-- An answer to a station request: its code and the fields after the request code. -/
structure Reply where
  code : StationCode
  fields : List Byte
  deriving DecidableEq, Repr

/-- A reply of a code alone. -/
def Reply.bare (c : StationCode) : Reply := ⟨c, []⟩

/-- The answer frame of a reply: its first field is the request code answered (section 5.3). -/
def Reply.frame (request : Byte) (r : Reply) : Frame := ⟨BitVec.ofNat 8 r.code.code, request :: r.fields⟩

/-- The command codes of R194. -/
inductive CommandName where
  | recipeBegin | recipeSite | recipeZone | recipeEnd | recipeDrop | recipeRead
  | panelAdmit | panelRetire | panelRead
  | boardRead | tabRead | decide | tabResolve | boardResolve
  | bitChange | stationClear | zoneSet
  | magStage | magGo | magUnstage | magRead | magRelease | bayRoute | bayExchange | bayClear
  | pause | resume | restart | configSet | configRead | noticeRead | noticeWrite | faultRead | faultAck
  deriving DecidableEq, Repr

/-- The byte of a command code (R194). -/
def CommandName.byte : CommandName → Byte
  | .recipeBegin => 0x10
  | .recipeSite => 0x11
  | .recipeZone => 0x12
  | .recipeEnd => 0x13
  | .recipeDrop => 0x14
  | .recipeRead => 0x15
  | .panelAdmit => 0x20
  | .panelRetire => 0x21
  | .panelRead => 0x22
  | .boardRead => 0x30
  | .tabRead => 0x31
  | .decide => 0x32
  | .tabResolve => 0x33
  | .boardResolve => 0x34
  | .bitChange => 0x40
  | .stationClear => 0x41
  | .zoneSet => 0x42
  | .magStage => 0x50
  | .magGo => 0x51
  | .magUnstage => 0x52
  | .magRead => 0x53
  | .magRelease => 0x54
  | .bayRoute => 0x55
  | .bayExchange => 0x56
  | .bayClear => 0x57
  | .pause => 0x60
  | .resume => 0x61
  | .restart => 0x62
  | .configSet => 0x63
  | .configRead => 0x64
  | .noticeRead => 0x65
  | .noticeWrite => 0x66
  | .faultRead => 0x67
  | .faultAck => 0x68

/-- Every command code (R194). -/
def CommandName.all : List CommandName :=
  [.recipeBegin, .recipeSite, .recipeZone, .recipeEnd, .recipeDrop, .recipeRead,
   .panelAdmit, .panelRetire, .panelRead,
   .boardRead, .tabRead, .decide, .tabResolve, .boardResolve,
   .bitChange, .stationClear, .zoneSet,
   .magStage, .magGo, .magUnstage, .magRead, .magRelease, .bayRoute, .bayExchange, .bayClear,
   .pause, .resume, .restart, .configSet, .configRead, .noticeRead, .noticeWrite, .faultRead, .faultAck]

/-- The command a code byte names, if any. -/
def commandOf (code : Byte) : Option CommandName := CommandName.all.find? (fun c => decide (c.byte = code))

/-- The commands LOCKDOWN does not refuse: the reads and RESTART (R179). -/
def CommandName.takenInLockdown : CommandName → Bool
  | .recipeRead | .panelRead | .boardRead | .tabRead | .magRead | .configRead | .noticeRead | .faultRead => true
  | .restart => true
  | .recipeBegin | .recipeSite | .recipeZone | .recipeEnd | .recipeDrop | .panelAdmit | .panelRetire => false
  | .decide | .tabResolve | .boardResolve | .bitChange | .stationClear | .zoneSet => false
  | .magStage | .magGo | .magUnstage | .magRelease | .bayRoute | .bayExchange | .bayClear => false
  | .pause | .resume | .configSet | .noticeWrite | .faultAck => false

/-- The request codes of R194; PROGRESS is a code of the spindle and the gripper lines. -/
inductive RequestName where
  | nextTab | tabDone | tabFault | progress
  | nextPick | holdOn | placeCheck | placed | dropped
  | fiducial | siteMark
  | bayPoll | bayDone
  deriving DecidableEq, Repr

/-- The byte of a request code (R194). -/
def RequestName.byte : RequestName → Byte
  | .nextTab => 0x20
  | .tabDone => 0x21
  | .tabFault => 0x22
  | .progress => 0x23
  | .nextPick => 0x30
  | .holdOn => 0x31
  | .placeCheck => 0x32
  | .placed => 0x33
  | .dropped => 0x34
  | .fiducial => 0x40
  | .siteMark => 0x41
  | .bayPoll => 0x50
  | .bayDone => 0x51

/-- The length L of a request's frame: the code and its fields (R194). -/
def RequestName.length : RequestName → Nat
  | .nextTab => 1
  | .tabDone => 4
  | .tabFault => 5
  | .progress => 1
  | .nextPick => 1
  | .holdOn => 3
  | .placeCheck => 3
  | .placed => 5
  | .dropped => 3
  | .fiducial => 14
  | .siteMark => 4
  | .bayPoll => 1
  | .bayDone => 4

/-- The request codes of each line's role (R88). -/
def lineRequests : LineId → List RequestName
  | .spindleA => [.nextTab, .tabDone, .tabFault, .progress]
  | .spindleB => [.nextTab, .tabDone, .tabFault, .progress]
  | .gripper => [.nextPick, .holdOn, .placeCheck, .placed, .dropped, .progress]
  | .vision => [.fiducial, .siteMark]
  | .elevator => [.bayPoll, .bayDone]

/-- The request a code byte names on a line, if it is a code of the line's role (R86, R88). -/
def requestOf (l : LineId) (code : Byte) : Option RequestName :=
  (lineRequests l).find? (fun r => decide (r.byte = code))

end Sys2Proof.Machine
end

