-- ==== Sys2Proof/Machine/Flags.lean ====
section
/-! DEFINITION. The flags and the derived states: notices, group summaries and ATN (R191), the in-flight conditions
and the pause state (R169), QUIET, LCK and the status byte (R170, R176, R189), the counts of R2 and R17. -/

namespace Sys2Proof.Machine

/-! ### Records, looked through -/

/-- The four panel entries, in order. -/
def entries : List (Fin 4) := [0, 1, 2, 3]

/-- The four bays, in order. -/
def bayNumbers : List (Fin 4) := [0, 1, 2, 3]

/-- The panel record of an entry, if it is LIVE (R20). -/
def State.panel (s : State) (e : Fin 4) : Option Panel := s.panels[e]

/-- The boards of an entry; a FREE entry has none (R20). -/
def State.boardsOf (s : State) (e : Fin 4) : List BoardRecord :=
  match s.panel e with
  | some p => p.boards
  | none => []

/-- Every board of the part with its handle, in ascending entry and site. -/
def State.allBoards (s : State) : List (BoardHandle × BoardRecord) :=
  entries.flatMap (fun e => (s.boardsOf e).zipIdx.map (fun bi => (⟨e, bi.2⟩, bi.1)))

/-- A board's tabs with their handles, in ascending tab index. -/
def tabsWithHandles (h : BoardHandle) (b : BoardRecord) : List (TabHandle × TabRecord) :=
  b.tabs.zipIdx.map (fun ti => (⟨h.entry, h.site, ti.2⟩, ti.1))

/-- Every tab of an entry with its handle, in ascending (site, tab). -/
def State.tabsOf (s : State) (e : Fin 4) : List (TabHandle × TabRecord) :=
  (s.boardsOf e).zipIdx.flatMap (fun bi => tabsWithHandles ⟨e, bi.2⟩ bi.1)

/-- Every tab of the part with its handle. -/
def State.allTabs (s : State) : List (TabHandle × TabRecord) := entries.flatMap s.tabsOf

/-- A terminal board state (R59). -/
def BoardState.terminal : BoardState → Bool
  | .placed | .xoutLeft | .stranded | .lost => true
  | .awaitMark | .unsure | .cutting | .ready | .targeted | .held | .free | .suspect => false

/-! ### Counts (R2, R16, R17) -/

/-- The sites received by a staged recipe (R2). -/
def StagedRecipe.sitesReceived (r : StagedRecipe) : Nat := (r.sites.filter Option.isSome).length

/-- The zone entries present in a zone table (R1, R2). -/
def zoneCount (z : Vector (Option Rect) 8) : Nat := (z.toList.filter Option.isSome).length

/-- The tab total of a recipe (R1). -/
def tabTotal (sites : List RecipeSite) : Nat := (sites.map (fun x => x.tabs.length)).sum

/-- The in-use count: the live panels admitted with a number (R16, R17). -/
def State.inUse (s : State) (n : Fin 16) : Nat :=
  (entries.filter (fun e => match s.panel e with
    | some p => decide (p.recipe = n)
    | none => false)).length

/-- The staged number, while the staging area is OPEN or VALIDATING (R2). -/
def Staging.number : Staging → Option (Fin 16)
  | .closed => none
  | .opened n _ => some n
  | .validating n _ => some n

/-! ### Filtered inputs (R163) -/

/-- The filtered level of GUARD; true reads OPEN. -/
def State.guardLevel (s : State) : Bool := s.filters[0].level

/-- The filtered level of a fixture's clamp; true reads CLOSED. -/
def State.clampLevel (s : State) (f : Fin 2) : Bool := (s.filters[f.val + 1]'(by omega)).level

/-- The filtered level of a bay's sensor; true reads PRESENT. -/
def State.bayLevel (s : State) (b : Fin 4) : Bool := (s.filters[b.val + 3]'(by omega)).level

/-! ### In-flight conditions and the pause state (R169) -/

/-- The ASSIGNED tabs of the part. -/
def State.assignedTabs (s : State) : List TabHandle :=
  (s.allTabs.filter (fun ht => decide (ht.2.state = .assigned))).map Prod.fst

/-- The TARGETED or FREE boards of the part. -/
def State.movingBoards (s : State) : List BoardHandle :=
  (s.allBoards.filter (fun hb => decide (hb.2.state = .targeted ∨ hb.2.state = .free))).map Prod.fst

/-- A bay that is INDEXING or EXCHANGING. -/
def State.bayMoving (s : State) (b : Fin 4) : Bool :=
  decide (s.bays[b].state = .indexing ∨ s.bays[b].state = .exchanging)

/-- A bay whose confirm window is OPEN. -/
def State.bayConfirming (s : State) (b : Fin 4) : Bool := s.bays[b].confirm.isSome

/-- Some in-flight condition holds; the part is quiescent otherwise. -/
def State.inFlight (s : State) : Bool :=
  !s.assignedTabs.isEmpty || !s.movingBoards.isEmpty || bayNumbers.any s.bayMoving || bayNumbers.any s.bayConfirming

/-- The pause cause set is not empty (R167). -/
def PauseCauses.any (c : PauseCauses) : Bool := c.host || c.guardOpen || c.restart

/-- The pause states (R169). -/
inductive PauseState where
  | run
  | pausing
  | paused
  deriving DecidableEq, Repr

def PauseState.code : PauseState → Nat
  | .run => 0
  | .pausing => 1
  | .paused => 2

/-- The pause state, formed from the cause set and the in-flight conditions (R169). -/
def State.pauseState (s : State) : PauseState :=
  if s.causes.any then (if s.inFlight then .pausing else .paused) else .run

/-! ### Notices (R191) -/

/-- The bit of a notice flag in the masks of R194. -/
def Notice.bit : Notice → Nat
  | .aligned => 0
  | .stranded => 1
  | .cleared => 2
  | .clampOpen => 3
  | .bitWorn => 4
  | .bitBroken => 5
  | .stalled => 6
  | .watchZone => 7
  | .verdictHeld => 8
  | .verdictDefaulted => 9
  | .noDest => 10
  | .unfit => 11
  | .needMagazine => 12
  | .outgoingFull => 13
  | .magazineOut => 14
  | .bayFaulted => 15
  | .captured => 16
  | .pending => 17
  | .lockdown => 18
  | .classFlag k => 19 + k.code

/-- The mask of one notice flag. -/
def Notice.mask (n : Notice) : BitVec 26 := BitVec.twoPow 26 n.bit

/-- Raise a notice: its flag becomes set (R191). -/
def State.raise (s : State) (n : Notice) : State :=
  { s with notices := { s.notices with flags := s.notices.flags ||| n.mask } }

/-- The flags of each group, PANEL, STATION, HANDLING, BAY, FAULT, as masks (R191, R194). -/
def groupMasks : List (BitVec 26) := [0xF, 0x3F0, 0xC00, 0xF000, 0x3FF0000]

/-- The five group summaries (R191). -/
def NoticeUnit.summaries (n : NoticeUnit) : List Bool :=
  groupMasks.map (fun m => decide (n.flags &&& n.enables &&& m ≠ 0))

/-- Some group has its summary set and its group enable set (R191). -/
def NoticeUnit.atn (n : NoticeUnit) : Bool :=
  n.summaries.zipIdx.any (fun si => si.1 && n.groupEnables.getLsbD si.2)

/-! ### The outputs (R170, R176, R189, R191) -/

/-- The ATN output; negated during RESET assertion. -/
def State.atnOut (s : State) : Bool := !s.resetAsserted && s.notices.atn

/-- The QUIET output: asserted in PAUSED, negated during RESET assertion (R170). -/
def State.quietOut (s : State) : Bool := !s.resetAsserted && decide (s.pauseState = .paused)

/-- The LCK output: asserted in LOCKDOWN, negated during RESET assertion (R176). -/
def State.lckOut (s : State) : Bool := !s.resetAsserted && s.fault.locked

/-- The BSY output (R189). -/
def State.bsyOut (s : State) : Bool := s.busy

/-- The staging area is OPEN or VALIDATING (R2). -/
def State.stagingOpen (s : State) : Bool := s.staging.number.isSome

/-- The status byte: bit 7 BSY, 6 OVR, 5 PAUSED, 4 QUIET, 3 LOCKDOWN, 2 ARMED, 1 ATN, 0 STAGING (R189, R194). -/
def State.statusByte (s : State) : Byte :=
  BitVec.ofNat 8 (s.busy.toNat * 128 + s.ovr.toNat * 64 + s.causes.any.toNat * 32
    + (decide (s.pauseState = .paused)).toNat * 16 + s.fault.locked.toNat * 8 + s.fault.armed.toNat * 4
    + s.notices.atn.toNat * 2 + s.stagingOpen.toNat)

end Sys2Proof.Machine
end

