-- ==== Sys2Proof/Machine/Ops.lean ====
section
/-! DEFINITION. The named operations over the part's records: accessors and updates, timers, fault reporting and LOCKDOWN
entry (R177, R178, R180), reservations (R145), placement confirmation (R147), the clearing test (R27), the answers of
the lines (R86, R87, R93) and of the command port (R187, R188). -/

namespace Sys2Proof.Machine

/-- What a command answers: every command of the part has an effect or an answer, so it always goes on. -/
abbrev Result := Host.Outcome State Fault Refusal

/-! ### Updates of one record -/

/-- A vector changed at every place, by list operations that evaluate. -/
def mapVec {α β : Type} {n : Nat} (f : α → β) (v : Vector α n) : Vector β n :=
  ⟨(v.toList.map f).toArray, by simp⟩

/-- Write an entry of the Panel Table. -/
def State.setPanel (s : State) (e : Fin 4) (p : Option Panel) : State := { s with panels := s.panels.set e p }

/-- The board record a handle names, if any (R20). -/
def State.board (s : State) (h : BoardHandle) : Option BoardRecord := (s.boardsOf h.entry)[h.site]?

/-- Change the board record a handle names; nothing changes when it names none. -/
def State.modifyBoard (s : State) (h : BoardHandle) (f : BoardRecord → BoardRecord) : State :=
  match s.panel h.entry with
  | some p => s.setPanel h.entry (some { p with boards := p.boards.modify h.site f })
  | none => s

/-- The tab record a handle names, if any (R20). -/
def State.tab (s : State) (h : TabHandle) : Option TabRecord :=
  match s.board h.board with
  | some b => b.tabs[h.tab]?
  | none => none

/-- Change the tab record a handle names. -/
def State.modifyTab (s : State) (h : TabHandle) (f : TabRecord → TabRecord) : State :=
  s.modifyBoard h.board (fun b => { b with tabs := b.tabs.modify h.tab f })

/-- Write a tab's state. -/
def State.setTabState (s : State) (h : TabHandle) (t : TabState) : State := s.modifyTab h (fun r => { r with state := t })

/-- Write a board's state. -/
def State.setBoardState (s : State) (h : BoardHandle) (b : BoardState) : State :=
  s.modifyBoard h (fun r => { r with state := b })

/-- The handle three bytes name; none for an entry above 3. -/
def tabHandleOf (entry site tab : Byte) : Option TabHandle :=
  (fin? 4 entry.toNat).map (fun e => ⟨e, site.toNat, tab.toNat⟩)

/-- The handle two bytes name; none for an entry above 3. -/
def boardHandleOf (entry site : Byte) : Option BoardHandle :=
  (fin? 4 entry.toNat).map (fun e => ⟨e, site.toNat⟩)

/-- The release tab of a board with its tab index (R1). -/
def BoardRecord.releaseTab (b : BoardRecord) : Option (Nat × TabRecord) :=
  (b.tabs.zipIdx.find? (fun ti => ti.1.release)).map (fun ti => (ti.2, ti.1))

/-- A spindle's record. -/
def State.spindle (s : State) : Spindle → SpindleRecord
  | .a => s.spindleA
  | .b => s.spindleB

/-- Write a spindle's record. -/
def State.setSpindle (s : State) (sp : Spindle) (r : SpindleRecord) : State :=
  match sp with
  | .a => { s with spindleA := r }
  | .b => { s with spindleB := r }

/-- Write a bay record. -/
def State.setBay (s : State) (b : Fin 4) (r : Bay) : State := { s with bays := s.bays.set b r }

/-- A line's record. -/
def State.line (s : State) (l : LineId) : Line := s.lines[l.idx]

/-- Write a line's record. -/
def State.setLine (s : State) (l : LineId) (r : Line) : State := { s with lines := s.lines.set l.idx r }

/-- The committed recipe a panel was admitted with (R17). -/
def State.recipeOf (s : State) (p : Panel) : Option Recipe := s.slots[p.recipe]

/-! ### Geometry (R48, R102) -/

/-- A point in the travel envelope (R12, R39). -/
def inEnvelope (p : Point) : Bool :=
  decide (0 ≤ p.x ∧ p.x ≤ Config.envelopeX ∧ 0 ≤ p.y ∧ p.y ≤ Config.envelopeY)

/-- A tab's segment box about its corrected midpoint (R48). -/
def segmentBox (orient : Orientation) (width : Nat) (mid : Point) : Rect :=
  match orient with
  | .h => ⟨⟨mid.x - (width / 2 : Nat), mid.y⟩, ⟨mid.x + (width / 2 : Nat), mid.y⟩⟩
  | .v => ⟨⟨mid.x, mid.y - (width / 2 : Nat)⟩, ⟨mid.x, mid.y + (width / 2 : Nat)⟩⟩

/-- Two rectangles intersect when their x ranges and their y ranges overlap, ends included (R48). -/
def meets (a b : Rect) : Bool :=
  decide (a.low.x ≤ b.high.x ∧ b.low.x ≤ a.high.x ∧ a.low.y ≤ b.high.y ∧ b.low.y ≤ a.high.y)

/-- The Chebyshev distance of two points (R102). -/
def chebyshev (a b : Point) : Nat := max (a.x - b.x).natAbs (a.y - b.y).natAbs

/-! ### Timers -/

/-- The event of a timer's last tick is due: one tick remains (log entry 2). -/
def Timer.due (t : Timer) : Bool :=
  match t with
  | some n => decide (n ≤ 1)
  | none => false

/-- A RUNNING timer takes the full time; a STOPPED one stays STOPPED (R113, R136). -/
def Timer.reload (t : Timer) (full : Nat) : Timer :=
  match t with
  | some _ => some full
  | none => none

/-! ### Faults and LOCKDOWN (R177, R178, R180) -/

/-- HANDLING and CLAMP are severe (R174). -/
def FaultClass.severe : FaultClass → Bool
  | .handling | .clamp => true
  | .align | .cut | .bit | .watchdog | .bay => false

/-- A bay's action timer is STOPPED (R149). -/
def Bay.stopAction (b : Bay) : Bay := { b with actionTimer := none }

/-- Stop the hold timer and keep the hold (R79). -/
def VerdictHold.stop : VerdictHold → VerdictHold
  | .empty => .empty
  | .holding h _ => .holding h none

/-- The part enters LOCKDOWN: the lockdown record takes the context, and every timer that measures station work stops
(R178). -/
def State.enterLockdown (s : State) (c : Context) : State :=
  { s.raise .lockdown with
    fault := { s.fault with lockdownRec := some c, locked := true }
    spindleA := { s.spindleA with watchdog := none }
    spindleB := { s.spindleB with watchdog := none }
    gripper := { s.gripper with watchdog := none }
    bays := mapVec Bay.stopAction s.bays
    hold := s.hold.stop }

/-- A class joins the pending set, and notice PENDING is raised (R177, R180). -/
def State.addPending (s : State) (k : FaultClass) : State :=
  { s.raise .pending with
    fault := { s.fault with pendingSet := s.fault.pendingSet ||| BitVec.twoPow 7 k.code } }

/-- A context is captured into the primary record: the part disarms and notice CAPTURED is raised (R177). -/
def State.capture (s : State) (c : Context) : State :=
  { s.raise .captured with fault := { s.fault with primary := some c, armed := false } }

/-- The Fault Unit takes a reported fault (R177 in NORMAL, R180 in LOCKDOWN). -/
def State.reportFault (s : State) (c : Context) : State :=
  if s.fault.enables.getLsbD c.cls.code = false then s.raise (.classFlag c.cls)
  else if s.fault.locked then s.addPending c.cls
  else if s.fault.armed then s.capture c
  else if c.cls.severe then s.enterLockdown c
  else s.addPending c.cls

/-- The panel id of an entry, for a fault's context. -/
def State.panelId (s : State) (e : Fin 4) : Option Word := (s.panel e).map (·.id)

/-! ### The clearing test (R27, R59) -/

/-- Every site of a panel is terminal. -/
def Panel.allTerminal (p : Panel) : Bool := p.boards.all (fun b => b.state.terminal)

/-- An ALIGNED panel whose sites are all terminal becomes CLEARED, and notice CLEARED is raised. -/
def State.clearingTest (s : State) (e : Fin 4) : State :=
  match s.panel e with
  | some p =>
    if p.state = .aligned ∧ p.allTerminal = true then
      (s.setPanel e (some { p with state := .cleared })).raise .cleared
    else s
  | none => s

/-- A board enters a terminal state; the clearing test follows in the same event (R59). -/
def State.setBoardTerminal (s : State) (h : BoardHandle) (b : BoardState) : State :=
  (s.setBoardState h b).clearingTest h.entry

/-! ### Workability and eligibility (R32, R66) -/

/-- A panel is workable: ALIGNED, its fixture's clamp CLOSED. -/
def State.workable (s : State) (p : Panel) : Bool := decide (p.state = .aligned) && s.clampLevel p.fixture

/-- The release interlock's test of a tab of a board (R66). -/
def eligible (b : BoardRecord) (t : TabRecord) : Bool :=
  decide (t.state = .intact ∧ ((t.release = false ∧ b.state = .cutting) ∨ (t.release = true ∧ b.state = .held)))

/-- The mounted panel entry of a fixture: its live entry that is not QUEUED (R21). -/
def State.mounted (s : State) (f : Fin 2) : Option (Fin 4) :=
  entries.find? (fun e => match s.panel e with
    | some p => decide (p.fixture = f ∧ p.state ≠ .queued)
    | none => false)

/-! ### A tab becomes CUT (R64, R65) -/

/-- A non-release tab of the board became CUT: remaining falls by one, and a CUTTING board with remaining 0 and no
SUSPECT tab becomes READY (R65). -/
def BoardRecord.afterNonRelease (b : BoardRecord) : BoardRecord :=
  let n := b.remaining - 1
  let go := b.state = .cutting ∧ n = 0 ∧ b.tabs.all (fun t => decide (t.state ≠ .suspect)) = true
  { b with remaining := n, state := if go then .ready else b.state }

/-- The release tab of the board became CUT: a HELD board becomes FREE (R65). -/
def BoardRecord.afterRelease (b : BoardRecord) : BoardRecord :=
  { b with state := if b.state = .held then .free else b.state }

/-- A tab becomes CUT and its board is updated in the same event (R65). -/
def State.cutTab (s : State) (h : TabHandle) : State :=
  match s.tab h with
  | some t =>
    (s.setTabState h .cut).modifyBoard h.board
      (fun b => if t.release then b.afterRelease else b.afterNonRelease)
  | none => s

/-! ### Reservations and slots (R145, R146, R148) -/

/-- The slot count of a magazine record (R143). -/
def Magazine.slotCount (m : Magazine) : Nat := m.slots.length

/-- Slots `f` to `f + k - 1` are given to a board: the first RESERVED, the rest SPANNED (R145). -/
def Magazine.reserve (m : Magazine) (h : BoardHandle) (k : Nat) : Magazine :=
  let f := m.fill
  { m with
    fill := f + k
    slots := m.slots.zipIdx.map (fun si =>
      if si.2 = f then .reserved h
      else if f < si.2 ∧ si.2 < f + k then .spanned f
      else si.1) }

/-- The slots of the reservation at `head` become EMPTY, and the fill index returns to it (R145). -/
def Magazine.cancel (m : Magazine) (head : Nat) : Magazine :=
  { m with
    fill := head
    slots := m.slots.zipIdx.map (fun si =>
      if si.2 = head ∨ si.1 = .spanned head then .empty else si.1) }

/-- A slot becomes OCCUPIED with the identity of the board placed in it (R146, R148). -/
def Magazine.place (m : Magazine) (slot : Nat) (content : PlacedBoard) : Magazine :=
  { m with slots := m.slots.set slot (.occupied content) }

/-- A bay in INDEX-WANTED becomes ACTIVE with no target; every other state stays (R145, R146, R148). -/
def Bay.leaveIndexWanted (b : Bay) : Bay :=
  if b.state = .indexWanted then { b with state := .active, target := none } else b

/-- The reservation of a board is cancelled: slots, fill index, bay state and the record's reservation (R145). -/
def State.cancelReservation (s : State) (h : BoardHandle) : State :=
  match s.board h with
  | some b =>
    match b.reservation with
    | some r =>
      let bay : Bay := s.bays[r.bay]
      let bay' : Bay := { bay with current := bay.current.map (fun m => m.cancel r.slot) }
      (s.setBay r.bay bay'.leaveIndexWanted).modifyBoard h (fun b => { b with reservation := none })
    | none => s
  | none => s

/-- The head slot of a reservation becomes OCCUPIED with the board's identity; a bay in INDEX-WANTED becomes ACTIVE; the
record's reservation is cleared (R133, R146, R148). -/
def State.occupySlot (s : State) (h : BoardHandle) : State :=
  match s.panel h.entry, s.board h with
  | some p, some b =>
    match b.reservation with
    | some r =>
      let bay : Bay := s.bays[r.bay]
      let content : PlacedBoard := ⟨p.id, h.site, b.variant, b.verdict⟩
      let bay' : Bay := { bay with current := bay.current.map (fun m => m.place r.slot content) }
      (s.setBay r.bay bay'.leaveIndexWanted).modifyBoard h (fun b => { b with reservation := none })
    | none => s
  | _, _ => s

/-- Some board holds a reservation in a bay. -/
def State.bayReserved (s : State) (b : Fin 4) : Bool :=
  s.allBoards.any (fun hb => match hb.2.reservation with
    | some r => decide (r.bay = b)
    | none => false)

/-! ### The confirm window (R147) -/

/-- A confirm window closes: a bay in SETTLING or AT-SLOT becomes ACTIVE, its settle timer STOPPED and its target none
(R147). -/
def Bay.closeConfirm (b : Bay) : Bay :=
  if b.state = .settling ∨ b.state = .atSlot then
    { b with confirm := none, state := .active, settleTimer := none, target := none }
  else { b with confirm := none }

/-- A placement is confirmed (R147). -/
def State.confirmPlacement (s : State) (b : Fin 4) : State := s.setBay b s.bays[b].closeConfirm

/-- The live entry that holds a panel id (R147). -/
def State.entryOfId (s : State) (id : Word) : Option (Fin 4) :=
  entries.find? (fun e => decide (s.panelId e = some id))

/-- A slot judged unseen becomes DOUBTFUL and keeps its content (R147). -/
def Slot.doubt : Slot → Slot
  | .occupied b => .doubtful b
  | .empty => .empty
  | .reserved h => .reserved h
  | .spanned n => .spanned n
  | .doubtful b => .doubtful b

/-- The slot judged unseen of a magazine record (R147). -/
def Magazine.doubt (m : Magazine) (slot : Nat) : Magazine := { m with slots := m.slots.modify slot Slot.doubt }

/-- What a slot of the bay's CURRENT record holds, when a board was placed there. -/
def Bay.placedAt (b : Bay) (slot : Nat) : Option PlacedBoard :=
  match b.current with
  | some m =>
    match m.slots[slot]? with
    | some (.occupied p) => some p
    | some (.doubtful p) => some p
    | _ => none
  | none => none

/-- The context of an UNSEEN fault (R147). -/
def State.unseenContext (s : State) (p : Option PlacedBoard) : Context :=
  { cls := .handling, cause := .unseen, station := some .gripper, bay := none,
    entry := p.bind (fun p => s.entryOfId p.panelId), panelId := p.map (·.panelId),
    site := p.map (·.site), tab := none, recoverable := true }

/-- The confirm window runs out unseen: the slot becomes DOUBTFUL, the window closes, fault HANDLING UNSEEN is reported
(R147). -/
def State.expireConfirm (s : State) (b : Fin 4) (slot : Nat) : State :=
  let bay : Bay := s.bays[b]
  let content := bay.placedAt slot
  let bay' : Bay := { bay with current := bay.current.map (fun m => m.doubt slot) }
  (s.setBay b bay'.closeConfirm).reportFault (s.unseenContext content)

/-! ### The station lines (R86, R87, R93) -/

/-- While no frame is in transmission, the oldest queued frame becomes it (R87; when it does: log entry 29). -/
def Line.pump (l : Line) : Line :=
  match l.tx, l.queue with
  | none, f :: rest => { l with tx := some f, queue := rest }
  | _, _ => l

/-- An answer frame joins the tail of the queue (R87). -/
def Line.append (l : Line) (f : Frame) : Line := { l with queue := l.queue ++ [f] }

/-- An answer frame joins the tail of the line's queue in the event that forms it (R87); a restart taken next loses it (R96). -/
def State.sendAnswer (s : State) (l : LineId) (f : Frame) : State := s.setLine l ((s.line l).append f)

/-- No frame is in progress: the receiver is in HUNT, the partial frame is gone, the gap timer is stopped (R85). -/
def Line.receiverIdle (l : Line) : Line := { l with receiver := .hunt, partialFrame := [], gap := none }

/-- The frame in progress on a line is dropped (R85). -/
def State.dropFrame (s : State) (l : LineId) : State := s.setLine l (s.line l).receiverIdle

/-- A frame has completed on the line (R85). An answer formed before it has begun to be sent by then (R87, log entry 29). -/
def State.frameComplete (s : State) (l : LineId) : State := s.setLine l (s.line l).pump.receiverIdle

/-- A delivered frame of a spindle line or of the gripper line reloads the station's RUNNING watchdog (R93, R113,
R136). -/
def State.reloadWatchdog (s : State) (l : LineId) : State :=
  match l with
  | .spindleA =>
    { s with spindleA := { s.spindleA with watchdog := Timer.reload s.spindleA.watchdog s.settings.spindleTimeout } }
  | .spindleB =>
    { s with spindleB := { s.spindleB with watchdog := Timer.reload s.spindleB.watchdog s.settings.spindleTimeout } }
  | .gripper =>
    { s with gripper := { s.gripper with watchdog := Timer.reload s.gripper.watchdog s.settings.gripperTimeout } }
  | .vision => s
  | .elevator => s

/-- What a request does at its owning block: the state after it, and the answer formed (none when the request is
held). -/
abbrev Request := State → State × Option Reply

/-- BUSY reason HELD, answered by the line (R89). -/
def busyHeld : Reply := ⟨.busy, u8 0⟩

/-- Tests 4 to 7 of R86 on a frame whose sum, code and length passed: dropped, BUSY HELD, LOCKED, or delivered. -/
def State.examine (s : State) (l : LineId) (code : Byte) (request : Request) : State :=
  if Config.queueRoom ≤ (s.line l).queue.length then s
  else if (s.line l).held.isSome then s.sendAnswer l (busyHeld.frame code)
  else if s.fault.locked then s.sendAnswer l ((Reply.bare .locked).frame code)
  else
    match request (s.reloadWatchdog l) with
    | (t, some r) => t.sendAnswer l (r.frame code)
    | (t, none) => t

/-- A complete frame of a request row has arrived on its line (R85, R86). While RESET is asserted the lines take no
frames (R95). -/
def State.takeRequest (s : State) (l : LineId) (name : RequestName) (request : Request) : State :=
  if s.resetAsserted then s else (s.frameComplete l).examine l name.byte request

/-- The code is not one of the line's role: answered UNKNOWN, or dropped when four answers are queued (R86). -/
def State.answerUnknown (s : State) (l : LineId) (code : Byte) : State :=
  if Config.queueRoom ≤ (s.line l).queue.length then s
  else s.sendAnswer l ((Reply.bare .unknown).frame code)

/-! ### The command port (R187, R188) -/

/-- What a command does at its owning block: the state after it, and the answer formed (none when the command goes on, as
RECIPE-END does). -/
abbrev Command := State → State × Option Answer

/-- An answer is placed: the whole buffer is replaced, the sequence number rises by one, BSY falls (R187, R188). -/
def State.placeAnswer (s : State) (code : Byte) (a : Answer) : State :=
  { s with answer := ⟨s.answer.sequence + 1, code, some a.code, a.fields⟩, busy := false }

/-- A command is delivered to its owning block (R187, test 6): the answer is placed, or the command stays in progress and
BSY stays set. -/
def State.deliver (s : State) (name : CommandName) (command : Command) : State :=
  match command s with
  | (t, some a) => t.placeAnswer name.byte a
  | (t, none) => { t with busy := true }

/-- A frame that passed tests 1 to 3 of R187: OVR clears; LOCKED in LOCKDOWN for a command R179 refuses; then `command`,
or LENGTH when its payload has not the layout's length. -/
def State.acceptFrame (s : State) (name : CommandName) (command : Option Command) : State :=
  let s := { s with ovr := false }
  if s.fault.locked = true ∧ name.takenInLockdown = false then s.placeAnswer name.byte (.bare .locked)
  else
    match command with
    | some c => s.deliver name c
    | none => s.placeAnswer name.byte (.bare .length)

/-- A complete frame of a command row has arrived at the port (R187): while BSY it is discarded and OVR is set; while RESET
is asserted the port takes nothing (R186). -/
def State.takeCommandOr (s : State) (name : CommandName) (command : Option Command) : State :=
  if s.resetAsserted then s
  else if s.busy then { s with ovr := true }
  else s.acceptFrame name command

/-- The same for a frame whose payload has its layout's length. -/
def State.takeCommand (s : State) (name : CommandName) (command : Command) : State := s.takeCommandOr name (some command)

/-- An event inside the part is taken: none while RESET is asserted (R185). -/
def State.takeEvent (s : State) (event : State → State) : State := if s.resetAsserted then s else event s

end Sys2Proof.Machine
end

