-- ==== Sys2Proof/Machine/Faults.lean ====
section
/-! DEFINITION. Reading and acknowledging faults (file 10): FAULT-READ, FAULT-ACK (R181, R182). -/

namespace Sys2Proof.Machine

/-- Seven marks, one for each class in code order (R181). -/
def classMarks (m : BitVec 7) : List Byte := FaultClass.all.flatMap (fun k => flag (m.getLsbD k.code))

/-- The fields of a context (R175). -/
def Context.fields (c : Context) : List Byte :=
  u8 c.cls.code ++ u8 c.cause.code ++ opt8 (c.station.map lineCode) ++ opt8 (c.bay.map Fin.val)
    ++ opt8 (c.entry.map Fin.val) ++ optWide 4 (fun w : Word => u32 w.toNat) c.panelId ++ opt8 c.site ++ opt8 c.tab
    ++ flag c.recoverable

/-- A context record in FAULT-READ's answer: the mark that it is empty, or every field (R181, log entry 13). -/
def recordFields (r : Option Context) : List Byte :=
  match r with
  | none => flag true
  | some c => flag false ++ c.fields

/-- FAULT-READ at the Fault Unit (R181). -/
def faultRead : Command := fun s =>
  (s, some (.ok (flag s.fault.locked ++ flag s.fault.armed ++ classMarks s.fault.enables
    ++ classMarks s.fault.pendingSet ++ recordFields s.fault.primary ++ recordFields s.fault.lockdownRec)))

/-- FAULT-ACK at the Fault Unit (R182). -/
def faultAck : Command := fun s =>
  ({ s with fault := { s.fault with armed := true, pendingSet := 0 } }, some (.ok (classMarks s.fault.pendingSet)))

/-- FAULT_READ (R181). -/
def execFaultRead (s : State) : Result := .next (s.takeCommand .faultRead faultRead)

/-- FAULT_ACK (R182). -/
def execFaultAck (s : State) : Result := .next (s.takeCommand .faultAck faultAck)

end Sys2Proof.Machine
end

