-- ==== Sys2Proof/Machine/Alignment.lean ====
section
/-! DEFINITION. The Alignment Unit (file 03): FIDUCIAL, the correction arithmetic, the visits of the correction run and its
end (R37 to R55). -/

namespace Sys2Proof.Machine

/-! ### Arithmetic (R40, R41, R44) -/

/-- The rounded quotient: to the nearest integer, ties away from zero (R40). -/
def roundDiv (a b : Int) : Int :=
  let n := a.natAbs
  let d := b.natAbs
  let q := if d ≤ 2 * (n % d) then n / d + 1 else n / d
  if a < 0 then -(q : Int) else (q : Int)

/-- The correction values c and s of a measured pair against the nominal pair (R41). -/
def correctionValues (f1n f2n f1m f2m : Point) : Int × Int :=
  let nx := f2n.x - f1n.x
  let ny := f2n.y - f1n.y
  let mx := f2m.x - f1m.x
  let my := f2m.y - f1m.y
  let n := nx * nx + ny * ny
  (roundDiv ((mx * nx + my * ny) * Config.q20) n, roundDiv ((nx * my - ny * mx) * Config.q20) n)

/-- A nominal point corrected to a machine point (R44). -/
def correctPoint (c s : Int) (f1m f1n p : Point) : Point :=
  let u := p.x - f1n.x
  let v := p.y - f1n.y
  ⟨f1m.x + roundDiv (c * u - s * v) Config.q20, f1m.y + roundDiv (s * u + c * v) Config.q20⟩

/-! ### FIDUCIAL (R38, R39, R42, R43) -/

/-- The context of an ALIGN fault (R42). -/
def alignContext (cause : FaultCause) (e : Fin 4) (p : Panel) : Context :=
  { cls := .align, cause := cause, station := some .vision, bay := none, entry := some e, panelId := some p.id
    site := none, tab := none, recoverable := true }

/-- A board's first zone at or after an index, else its first site (R45). -/
def zoneItemFrom (zones : Vector (Option Rect) 8) (boards : List BoardRecord) (from_ : Nat) : RunItem :=
  match (zones.toList.zipIdx.find? (fun zi => decide (from_ ≤ zi.2) && zi.1.isSome)).map Prod.snd with
  | some k => .zone k
  | none => if boards.isEmpty then .finished else .pick 0

/-- The item after a site (R45). -/
def siteItemAfter (boards : List BoardRecord) (site : Nat) : RunItem :=
  if site + 1 < boards.length then .pick (site + 1) else .finished

/-- The tabs of a site. -/
def tabCountAt (boards : List BoardRecord) (site : Nat) : Nat :=
  match boards[site]? with
  | some b => b.tabs.length
  | none => 0

/-- The item after the present one, in the order of R45. -/
def nextItem (zones : Vector (Option Rect) 8) (boards : List BoardRecord) : RunItem → RunItem
  | .zone k => zoneItemFrom zones boards (k + 1)
  | .pick site => if 0 < tabCountAt boards site then .tab site 0 else siteItemAfter boards site
  | .tab site index =>
    if index + 1 < tabCountAt boards site then .tab site (index + 1) else siteItemAfter boards site
  | .finished => .finished

/-- An accepted FIDUCIAL: the panel is CORRECTING and its run state RUNNING at the first item (R43). -/
def acceptFiducial (s : State) (e : Fin 4) (p : Panel) (r : Recipe) (c sn : Int) (f1m : Point) : State :=
  { s.setPanel e (some { p with state := .correcting }) with
    runs := s.runs.set e (.running ⟨c, sn, f1m, [], false, zoneItemFrom r.zones p.boards 0⟩) }

/-- A point outside the envelope is rejected with its fiducial's number (R39). The spec gives that number no width: the model
sends one byte (PRESUMED, log entry 9). -/
def rejectRange (s : State) (e : Fin 4) (p : Panel) (number : Nat) : State × Option Reply :=
  (s.reportFault (alignContext .range e p), some ⟨.reject, u8 0 ++ u8 number⟩)

/-- The checks of R39 and R42 on a FIDUCIAL that passed R38, and its acceptance (R43). -/
def checkFiducial (s : State) (e : Fin 4) (p : Panel) (r : Recipe) (f1m f2m : Point) : State × Option Reply :=
  if inEnvelope f1m = false then rejectRange s e p 1
  else if inEnvelope f2m = false then rejectRange s e p 2
  else
    let cs := correctionValues r.header.f1 r.header.f2 f1m f2m
    if Config.stretchLimit < (cs.1 - Config.q20).natAbs then
      (s.reportFault (alignContext .scale e p), some ⟨.reject, u8 1 ++ s32 cs.1 ++ s32 cs.2⟩)
    else if Config.angleLimit < cs.2.natAbs then
      (s.reportFault (alignContext .angle e p), some ⟨.reject, u8 2 ++ s32 cs.1 ++ s32 cs.2⟩)
    else (acceptFiducial s e p r cs.1 cs.2 f1m, some ⟨.ok, s32 cs.1 ++ s32 cs.2⟩)

/-- FIDUCIAL at the Alignment Unit (R38): BUSY RUN, STATE, UNCLAMPED, or the checks. -/
def fiducial (entry : Byte) (f1m f2m : Point) : Request := fun s =>
  match fin? 4 entry.toNat with
  | none => (s, some (.bare .state))
  | some e =>
    match s.panel e with
    | none => (s, some (.bare .state))
    | some p =>
      if p.state = .correcting then (s, some ⟨.busy, u8 1⟩)
      else if p.state ≠ .aligning then (s, some (.bare .state))
      else if s.clampLevel p.fixture = false then (s, some (.bare .unclamped))
      else
        match s.recipeOf p with
        | none => (s, some (.bare .state))
        | some r => checkFiducial s e p r f1m f2m

/-! ### The correction run (R45 to R49) -/

/-- The run of an entry whose panel is CORRECTING, with its recipe (R37, R17). -/
def State.activeRun (s : State) (e : Fin 4) : Option (RunValues × Panel × Recipe) :=
  match s.runs[e], s.panel e with
  | .running v, some p => if p.state = .correcting then (s.recipeOf p).map (fun r => (v, p, r)) else none
  | .running _, none => none
  | .idle, _ => none

/-- Write a run's values. -/
def State.setRun (s : State) (e : Fin 4) (v : RunValues) : State := { s with runs := s.runs.set e (.running v) }

/-- The bounding box of the four corrected corners of a zone (R46). -/
def zoneRectangle (v : RunValues) (f1n : Point) (z : Rect) : Rect :=
  let a := correctPoint v.c v.s v.f1m f1n ⟨z.low.x, z.low.y⟩
  let b := correctPoint v.c v.s v.f1m f1n ⟨z.high.x, z.low.y⟩
  let c := correctPoint v.c v.s v.f1m f1n ⟨z.high.x, z.high.y⟩
  let d := correctPoint v.c v.s v.f1m f1n ⟨z.low.x, z.high.y⟩
  ⟨⟨min (min a.x b.x) (min c.x d.x), min (min a.y b.y) (min c.y d.y)⟩,
   ⟨max (max a.x b.x) (max c.x d.x), max (max a.y b.y) (max c.y d.y)⟩⟩

/-- The run visits a recipe zone (R46). -/
def visitZone (e : Fin 4) (s : State) : State :=
  match s.activeRun e with
  | some (v, p, r) =>
    match v.position with
    | .zone k =>
      match (r.zones.toList[k]?).join with
      | some z =>
        s.setRun e { v with zones := v.zones ++ [zoneRectangle v r.header.f1 z], position := nextItem r.zones p.boards (.zone k) }
      | none => s.setRun e { v with position := nextItem r.zones p.boards (.zone k) }
    | .pick _ => s
    | .tab _ _ => s
    | .finished => s
  | none => s

/-- A board's nominal pick point (R47). -/
def BoardRecord.nominalPick (b : BoardRecord) : Point :=
  ⟨b.origin.x + (b.width / 2 : Nat), b.origin.y + (b.height / 2 : Nat)⟩

/-- The run visits a board's pick point (R47). -/
def visitPickPoint (e : Fin 4) (s : State) : State :=
  match s.activeRun e with
  | some (v, p, r) =>
    match v.position with
    | .pick site =>
      (s.modifyBoard ⟨e, site⟩
        (fun b => { b with pickPoint := some (correctPoint v.c v.s v.f1m r.header.f1 b.nominalPick) })).setRun e
        { v with position := nextItem r.zones p.boards (.pick site) }
    | .zone _ => s
    | .tab _ _ => s
    | .finished => s
  | none => s

/-- A segment box lies in the travel envelope, ends included (R48). -/
def boxInEnvelope (box : Rect) : Bool := inEnvelope box.low && inEnvelope box.high

/-- An INTACT tab fails its envelope test or its zone test (R48). -/
def tabFails (v : RunValues) (t : TabRecord) (mid : Point) : Bool :=
  let box := segmentBox t.orient t.width mid
  decide (t.state = .intact) && (!boxInEnvelope box || v.zones.any (fun z => meets box z))

/-- A tab as its visit leaves it (R48). -/
def visitedTab (v : RunValues) (f1n : Point) (t : TabRecord) : TabRecord :=
  let mid := correctPoint v.c v.s v.f1m f1n t.nominal
  { t with corrected := some mid, state := if tabFails v t mid then .blocked else t.state }

/-- The run visits a tab (R48). -/
def visitTab (e : Fin 4) (s : State) : State :=
  match s.activeRun e with
  | some (v, p, r) =>
    match v.position with
    | .tab site index =>
      let fails := match s.tab ⟨e, site, index⟩ with
        | some t => tabFails v t (correctPoint v.c v.s v.f1m r.header.f1 t.nominal)
        | none => false
      (s.modifyTab ⟨e, site, index⟩ (visitedTab v r.header.f1)).setRun e
        { v with stranding := v.stranding || fails, position := nextItem r.zones p.boards (.tab site index) }
    | .zone _ => s
    | .pick _ => s
    | .finished => s
  | none => s

/-- The boards the end of a run makes STRANDED (R49): not terminal, with a BLOCKED tab. -/
def strands (b : BoardRecord) : Bool := !b.state.terminal && b.tabs.any (fun t => decide (t.state = .blocked))

/-- A board at the end of a run (R49, step 1). -/
def strandBoard (b : BoardRecord) : BoardRecord := if strands b then { b with state := .stranded } else b

/-- The end of a correction run, in the order of R49. -/
def endRun (e : Fin 4) (s : State) : State :=
  match s.activeRun e with
  | some (v, p, _) =>
    if v.position = .finished then
      let stranded := p.boards.any strands
      let p' : Panel :=
        { p with boards := p.boards.map strandBoard, correction := some ⟨v.c, v.s, v.f1m⟩, state := .aligned }
      let s1 := (s.setPanel e (some p')).raise .aligned
      let s2 := if v.stranding = true ∧ stranded = true then s1.raise .stranded else s1
      let s3 := s2.clearingTest e
      { s3 with runs := s3.runs.set e .idle }
    else s
  | none => s

/-! ### The commands -/

/-- FIDUCIAL (R38). -/
def execFiducial (entry : Byte) (x1 y1 x2 y2 : Coord) (s : State) : Result :=
  .next (s.takeRequest .vision .fiducial (fiducial entry (coordPoint x1 y1) (coordPoint x2 y2)))

/-- ZONE_VISIT (R46); no effect when the run's next item is no zone (log entry 5). -/
def execZoneVisit (entry : Fin 4) (s : State) : Result := .next (s.takeEvent (visitZone entry))

/-- PICK_POINT_VISIT (R47); no effect when the run's next item is no pick point (log entry 5). -/
def execPickPointVisit (entry : Fin 4) (s : State) : Result := .next (s.takeEvent (visitPickPoint entry))

/-- TAB_VISIT (R48); no effect when the run's next item is no tab (log entry 5). -/
def execTabVisit (entry : Fin 4) (s : State) : Result := .next (s.takeEvent (visitTab entry))

/-- CORRECTION_RUN_END (R49); no effect before the last tab has been visited (log entry 5). -/
def execCorrectionRunEnd (entry : Fin 4) (s : State) : Result := .next (s.takeEvent (endRun entry))

end Sys2Proof.Machine
end

