-- ==== Sys2Proof/Machine/Records.lean ====
section
/-! DEFINITION. The Record Array and the Verdict Hold (file 04): verdicts, SITE-MARK, DECIDE, hold expiry, TAB-RESOLVE,
BOARD-RESOLVE, BOARD-READ, TAB-READ (R60 to R81). -/

namespace Sys2Proof.Machine

/-! ### Applying a verdict (R60 to R62) -/

/-- CUTTING, or READY when no non-release tab is left (R60). -/
def stateFromRemaining (n : Nat) : BoardState := if n = 0 then .ready else .cutting

/-- A board that is to be cut free takes its verdict and its state from the remaining count (R60, R61). -/
def BoardRecord.toCut (b : BoardRecord) (v : Verdict) : BoardRecord :=
  { b with verdict := v, state := stateFromRemaining b.remaining }

/-- An INTACT tab of a board left in the frame becomes SKIPPED (R61). -/
def TabRecord.skip (t : TabRecord) : TabRecord := if t.state = .intact then { t with state := .skipped } else t

/-- A board left in the frame as an x-out (R61). -/
def BoardRecord.leaveInFrame (b : BoardRecord) : BoardRecord :=
  { b with verdict := .xout, state := .xoutLeft, tabs := b.tabs.map TabRecord.skip }

/-- The x-out mode of a panel's recipe (R61). -/
def State.xoutModeOf (s : State) (e : Fin 4) : Option XoutMode :=
  (s.panel e).bind (fun p => (s.recipeOf p).map (fun r => r.header.xout))

/-- A verdict GOOD or XOUT applied to a board in AWAIT-MARK or UNSURE (R60, R61): an x-out is ejected in EJECT mode with a
reject bay set, and left in the frame otherwise. -/
def State.applyVerdict (s : State) (h : BoardHandle) (v : Verdict) : State :=
  if v = .xout then
    if s.xoutModeOf h.entry = some .eject ∧ s.settings.rejectBay.isSome = true then
      s.modifyBoard h (fun b => b.toCut .xout)
    else (s.modifyBoard h BoardRecord.leaveInFrame).clearingTest h.entry
  else s.modifyBoard h (fun b => b.toCut .good)

/-- A verdict written to a STRANDED board: nothing else changes (R62). -/
def State.writeVerdict (s : State) (h : BoardHandle) (v : Verdict) : State :=
  s.modifyBoard h (fun b => { b with verdict := v })

/-- A verdict from DECIDE or from hold expiry: by R60 and R61 on an UNSURE board, by R62 on a STRANDED one (R76, R77); no
other board takes one (log entry 19). -/
def State.settleVerdict (s : State) (h : BoardHandle) (v : Verdict) : State :=
  match s.board h with
  | some b =>
    if b.state = .stranded then s.writeVerdict h v else if b.state = .unsure then s.applyVerdict h v else s
  | none => s

/-- The state code of the board a handle names, for an answer. -/
def State.boardStateBytes (s : State) (h : BoardHandle) : List Byte :=
  opt8 ((s.board h).map (fun b => b.state.code))

/-! ### SITE-MARK (R63, R75) -/

/-- The request frame of a SITE-MARK (R194), as the line holds it (R89). -/
def siteMarkFrame (entry site verdict : Byte) : Frame := ⟨RequestName.siteMark.byte, [entry, site, verdict]⟩

/-- An UNSURE SITE-MARK begins a hold (R75, R89). -/
def State.beginHold (s : State) (h : BoardHandle) (request : Frame) : State :=
  ({ (s.modifyBoard h (fun b => { b with verdict := .unsure, state := .unsure })).setLine .vision
      { s.line .vision with held := some request } with
    hold := .holding h (some s.settings.holdTime) }).raise .verdictHeld

/-- SITE-MARK at the Record Array (R63). LOCKED is met at the line (R90). -/
def siteMark (entry site verdict : Byte) : Request := fun s =>
  match boardHandleOf entry site with
  | none => (s, some (.bare .state))
  | some h =>
    match s.board h with
    | none => (s, some (.bare .state))
    | some b =>
      match verdictOf verdict with
      | none => (s, some ⟨.reject, u8 0⟩)
      | some v =>
        if b.state = .awaitMark then
          if v = .unsure then (s.beginHold h (siteMarkFrame entry site verdict), none)
          else
            let t := s.applyVerdict h v
            (t, some ⟨.ok, t.boardStateBytes h⟩)
        else if b.state = .stranded ∧ b.verdict = .none then
          let t := s.writeVerdict h v
          (t, some ⟨.ok, t.boardStateBytes h⟩)
        else (s, some (.bare .state))

/-! ### The end of a hold (R76, R77, R89) -/

/-- The hold ends: the held request is answered with the board handle and the verdict applied, and it leaves the line. -/
def State.releaseHeld (s : State) (h : BoardHandle) (code : StationCode) (v : Verdict) : State :=
  let s1 := s.setLine .vision { s.line .vision with held := none }
  let s2 := s1.sendAnswer .vision (Reply.frame RequestName.siteMark.byte ⟨code, boardHandleBytes h ++ u8 v.code⟩)
  { s2 with hold := .empty }

/-- The Verdict Hold is HOLDING for a board, which it names by entry and site (log entry 28: the entry's next panel too). -/
def VerdictHold.holds (v : VerdictHold) (h : BoardHandle) : Bool :=
  match v with
  | .holding b _ => decide (b = h)
  | .empty => false

/-- DECIDE takes a board in UNSURE, or STRANDED with verdict UNSURE (R76). -/
def BoardRecord.undecided (b : BoardRecord) : Bool :=
  decide (b.state = .unsure ∨ (b.state = .stranded ∧ b.verdict = .unsure))

/-- GOOD or XOUT, the verdicts DECIDE may give (R76). -/
def decidedVerdict (b : Byte) : Option Verdict :=
  if b = 0 then some .good else if b = 1 then some .xout else none

/-- DECIDE at the Record Array (R76). -/
def decideVerdict (entry site verdict : Byte) : Command := fun s =>
  match fin? 4 entry.toNat, decidedVerdict verdict with
  | some e, some v =>
    if 63 < site.toNat then (s, some (.bare .range))
    else if (s.panel e).isNone then (s, some (.bare .noPanel))
    else
      let h : BoardHandle := ⟨e, site.toNat⟩
      match s.board h with
      | none => (s, some (.bare .noRecord))
      | some b =>
        if b.undecided = false then (s, some (.bare .late))
        else
          let held := s.hold.holds h
          let t := s.settleVerdict h v
          let t := if held then t.releaseHeld h .ok v else t
          (t, some (.ok (t.boardStateBytes h ++ flag held)))
  | _, _ => (s, some (.bare .range))

/-- The hold timer runs out: the default verdict is applied, the held request is answered TIMED-OUT (R77). It has no effect
unless the running hold timer has one tick left (log entry 2). -/
def expireHold (s : State) : State :=
  match s.hold with
  | .holding h timer =>
    if Timer.due timer then
      ((s.settleVerdict h s.settings.defaultVerdict).releaseHeld h .timedOut s.settings.defaultVerdict).raise
        .verdictDefaulted
    else s
  | .empty => s

/-! ### TAB-RESOLVE and BOARD-RESOLVE (R70, R72, R73) -/

/-- TAB-RESOLVE at the Record Array (R70). -/
def tabResolve (entry site tab outcome : Byte) : Command := fun s =>
  match fin? 4 entry.toNat with
  | none => (s, some (.bare .range))
  | some e =>
    if 63 < site.toNat ∨ 7 < tab.toNat ∨ 1 < outcome.toNat then (s, some (.bare .range))
    else if (s.panel e).isNone then (s, some (.bare .noPanel))
    else
      let h : TabHandle := ⟨e, site.toNat, tab.toNat⟩
      match s.tab h with
      | none => (s, some (.bare .noRecord))
      | some t =>
        if t.state ≠ .suspect then (s, some (.bare .state))
        else
          let u := if outcome = 0 then s.cutTab h else s.setTabState h .intact
          (u, some (.ok (opt8 ((u.tab h).map (fun t => t.state.code)) ++ u.boardStateBytes h.board
            ++ opt8 ((u.board h.board).map (·.remaining)))))

/-- The state of a board's release tab. -/
def BoardRecord.releaseState (b : BoardRecord) : Option TabState := b.releaseTab.map (fun it => it.2.state)

/-- A board goes back to READY with its reservation cancelled (R68, R73, R137). -/
def State.abandonPick (s : State) (h : BoardHandle) : State := (s.cancelReservation h).setBoardState h .ready

/-- A board is LOST with its reservation cancelled (R68, R73). -/
def State.loseBoard (s : State) (h : BoardHandle) : State := (s.cancelReservation h).setBoardTerminal h .lost

/-- BOARD-RESOLVE at the Record Array (R72, R73). -/
def boardResolve (entry site outcome : Byte) : Command := fun s =>
  match fin? 4 entry.toNat with
  | none => (s, some (.bare .range))
  | some e =>
    if 63 < site.toNat ∨ 2 < outcome.toNat then (s, some (.bare .range))
    else if (s.panel e).isNone then (s, some (.bare .noPanel))
    else
      let h : BoardHandle := ⟨e, site.toNat⟩
      match s.board h with
      | none => (s, some (.bare .noRecord))
      | some b =>
        if b.state ≠ .suspect then (s, some (.bare .state))
        else if b.releaseState = some .assigned ∨ b.releaseState = some .suspect then (s, some (.bare .busy))
        else if outcome = 0 ∧ b.releaseState = some .cut then (s, some (.bare .releaseCut))
        else
          let t :=
            if outcome = 0 then s.abandonPick h
            else if outcome = 1 then s.loseBoard h
            else (s.occupySlot h).setBoardTerminal h .placed
          (t, some (.ok (t.boardStateBytes h)))

/-! ### Reading (R80, R81) -/

/-- The fields of BOARD-READ's answer (R80). -/
def boardFields (s : State) (h : BoardHandle) (b : BoardRecord) : List Byte :=
  u8 b.site ++ u8 b.variant ++ pointBytes b.origin ++ u24 b.width ++ u24 b.height ++ u24 b.topHeight
    ++ optWide 6 pointBytes b.pickPoint ++ u8 b.verdict.code ++ u8 b.remaining ++ u8 b.state.code
    ++ optReservation b.reservation ++ flag b.notedNoDest ++ flag b.notedUnfit ++ flag (s.hold.holds h)
    ++ b.tabs.flatMap (fun t => u8 t.state.code)

/-- BOARD-READ at the Record Array (R80). -/
def boardRead (entry site : Byte) : Command := fun s =>
  match fin? 4 entry.toNat with
  | none => (s, some (.bare .range))
  | some e =>
    if 63 < site.toNat then (s, some (.bare .range))
    else if (s.panel e).isNone then (s, some (.bare .noPanel))
    else
      match s.board ⟨e, site.toNat⟩ with
      | none => (s, some (.bare .noRecord))
      | some b => (s, some (.ok (boardFields s ⟨e, site.toNat⟩ b)))

/-- The fields of TAB-READ's answer (R81): the record, the segment box, the eligible mark. -/
def tabFields (b : BoardRecord) (t : TabRecord) : List Byte :=
  u8 t.ownerSite ++ u8 t.index ++ pointBytes t.nominal ++ u8 t.orient.code ++ u24 t.width ++ u8 t.seq ++ flag t.release
    ++ optWide 6 pointBytes t.corrected ++ u8 t.state.code ++ opt8 (t.lastSpindle.map spindleCode)
    ++ optWide 12 rectBytes (t.corrected.map (segmentBox t.orient t.width)) ++ flag (eligible b t)

/-- TAB-READ at the Record Array (R81). -/
def tabRead (entry site tab : Byte) : Command := fun s =>
  match fin? 4 entry.toNat with
  | none => (s, some (.bare .range))
  | some e =>
    if 63 < site.toNat ∨ 7 < tab.toNat then (s, some (.bare .range))
    else if (s.panel e).isNone then (s, some (.bare .noPanel))
    else
      match s.board ⟨e, site.toNat⟩, s.tab ⟨e, site.toNat, tab.toNat⟩ with
      | some b, some t => (s, some (.ok (tabFields b t)))
      | _, _ => (s, some (.bare .noRecord))

/-! ### The commands -/

/-- SITE_MARK (R63). -/
def execSiteMark (entry site verdict : Byte) (s : State) : Result :=
  .next (s.takeRequest .vision .siteMark (siteMark entry site verdict))

/-- DECIDE (R76). -/
def execDecideVerdict (entry site verdict : Byte) (s : State) : Result :=
  .next (s.takeCommand .decide (decideVerdict entry site verdict))

/-- HOLD_EXPIRY (R77). -/
def execHoldExpiry (s : State) : Result := .next (s.takeEvent expireHold)

/-- TAB_RESOLVE (R70). -/
def execTabResolve (entry site tab outcome : Byte) (s : State) : Result :=
  .next (s.takeCommand .tabResolve (tabResolve entry site tab outcome))

/-- BOARD_RESOLVE (R72, R73). -/
def execBoardResolve (entry site outcome : Byte) (s : State) : Result :=
  .next (s.takeCommand .boardResolve (boardResolve entry site outcome))

/-- BOARD_READ (R80). -/
def execBoardRead (entry site : Byte) (s : State) : Result := .next (s.takeCommand .boardRead (boardRead entry site))

/-- TAB_READ (R81). -/
def execTabRead (entry site tab : Byte) (s : State) : Result := .next (s.takeCommand .tabRead (tabRead entry site tab))

end Sys2Proof.Machine
end

