-- ==== Sys2Proof/Machine/Cut.lean ====
section
/-! DEFINITION. The Cut Dispatcher (file 06): NEXT-TAB, TAB-DONE, TAB-FAULT, PROGRESS on the spindle lines, the spindle
watchdog's expiry, BIT-CHANGE, STATION-CLEAR for the spindles, ZONE-SET (R97 to R121). PROGRESS and STATION-CLEAR for the
gripper (R135) stand beside their spindle forms. -/

namespace Sys2Proof.Machine

/-! ### The bit record (R99) -/

/-- The feed class given with a tab (R99). -/
def SpindleRecord.feedClass (r : SpindleRecord) : FeedClass :=
  if r.lifeLimit * 3 ≤ r.cutTotal * 4 then .reduced else .normal

/-- The bit has reached its life limit (R99). -/
def SpindleRecord.spent (r : SpindleRecord) : Bool := decide (r.lifeLimit ≤ r.cutTotal)

/-! ### The candidate list (R101) -/

/-- A tab with its handle and its corrected midpoint, as a candidate. -/
structure Candidate where
  handle : TabHandle
  tab : TabRecord
  mid : Point
  deriving DecidableEq, Repr

/-- A tab as a candidate; every tab of an ALIGNED panel has its corrected midpoint (R101). -/
def candidateOf (ht : TabHandle × TabRecord) : Option Candidate := ht.2.corrected.map (fun m => ⟨ht.1, ht.2, m⟩)

/-- The tabs of a board that pass a test, as candidates. -/
def boardCandidates (h : BoardHandle) (b : BoardRecord) (test : TabRecord → Bool) : List Candidate :=
  ((tabsWithHandles h b).filter (fun ht => test ht.2)).filterMap candidateOf

/-- An entry whose panel is workable (R32). -/
def State.entryWorkable (s : State) (e : Fin 4) : Bool :=
  match s.panel e with
  | some p => s.workable p
  | none => false

/-- The entries whose panel is workable on a fixture; there is at most one (R21). -/
def State.workableOn (s : State) (f : Fin 2) : List (Fin 4) :=
  entries.filter (fun e => match s.panel e with
    | some p => decide (p.fixture = f) && s.workable p
    | none => false)

/-- Group 1 of R101: the INTACT release tab of a HELD board on a workable panel. -/
def State.releaseCandidates (s : State) : List Candidate :=
  s.allBoards.flatMap (fun hb =>
    if hb.2.state = .held ∧ s.entryWorkable hb.1.entry = true then
      boardCandidates hb.1 hb.2 (fun t => decide (t.release = true ∧ t.state = .intact))
    else [])

/-- Insertion by cut sequence. -/
def insertBySeq (c : Candidate) : List Candidate → List Candidate
  | [] => [c]
  | d :: rest => if c.tab.seq ≤ d.tab.seq then c :: d :: rest else d :: insertBySeq c rest

/-- Ascending cut sequence. -/
def sortBySeq (l : List Candidate) : List Candidate := l.foldr insertBySeq []

/-- The INTACT non-release tabs of the CUTTING boards of an entry. -/
def State.cuttingTabs (s : State) (e : Fin 4) : List Candidate :=
  (s.boardsOf e).zipIdx.flatMap (fun bi =>
    if bi.1.state = .cutting then
      boardCandidates ⟨e, bi.2⟩ bi.1 (fun t => decide (t.release = false ∧ t.state = .intact))
    else [])

/-- Group 2 of R101: ascending fixture, and within a fixture ascending cut sequence. -/
def State.otherCandidates (s : State) : List Candidate :=
  [(0 : Fin 2), 1].flatMap (fun f => sortBySeq ((s.workableOn f).flatMap s.cuttingTabs))

/-- The candidate list (R101). -/
def State.candidates (s : State) : List Candidate := s.releaseCandidates ++ s.otherCandidates

/-! ### The walk (R102) -/

/-- A candidate's segment box (R48). -/
def Candidate.box (c : Candidate) : Rect := segmentBox c.tab.orient c.tab.width c.mid

/-- The box meets an enabled machine zone of a mode (R102, R104). -/
def State.meetsZone (s : State) (mode : ZoneMode) (box : Rect) : Bool :=
  s.zones.toList.any (fun z => z.enabled && decide (z.mode = mode) && meets box z.rect)

/-- The corrected midpoint of a spindle's current tab. -/
def State.currentMid (s : State) (sp : Spindle) : Option Point :=
  (s.spindle sp).current.bind (fun c => (s.tab c.handle).bind (·.corrected))

/-- A candidate is too close to the other spindle's current tab (R102). -/
def State.tooClose (s : State) (sp : Spindle) (mid : Point) : Bool :=
  match s.currentMid sp.other with
  | some m => decide (chebyshev m mid < s.settings.clearance)
  | none => false

/-- A candidate is passed over: keep-out, or clearance (R102). -/
def State.passedOver (s : State) (sp : Spindle) (c : Candidate) : Bool :=
  s.meetsZone .keepOut c.box || s.tooClose sp c.mid

/-! ### NEXT-TAB (R100, R104, R105) -/

/-- The fields of a WORK answer, and of the STATE answer that repeats it (R100, R104). -/
def workFields (h : TabHandle) (t : TabRecord) (mid : Point) (feed : FeedClass) (watch : Bool) : List Byte :=
  tabHandleBytes h ++ pointBytes mid ++ u8 t.orient.code ++ u24 t.width ++ u8 feed.code ++ flag watch

/-- The STATE answer's fields: the work the spindle holds (R100). -/
def State.heldWork (s : State) (c : CurrentTab) : List Byte :=
  match s.tab c.handle with
  | some t => workFields c.handle t (t.corrected.getD ⟨0, 0⟩) c.feed c.watch
  | none => tabHandleBytes c.handle

/-- A candidate is assigned to a spindle (R104). -/
def assign (s : State) (sp : Spindle) (c : Candidate) : State × Option Reply :=
  let r := s.spindle sp
  let watch := s.meetsZone .watch c.box
  let s1 := s.modifyTab c.handle (fun t => { t with state := .assigned, lastSpindle := some sp })
  let s2 := s1.setSpindle sp
    { r with current := some ⟨c.handle, r.feedClass, watch⟩, watchdog := some s.settings.spindleTimeout }
  let s3 := if watch then s2.raise .watchZone else s2
  (s3, some ⟨.work, workFields c.handle c.tab c.mid r.feedClass watch⟩)

/-- A tab is pending: INTACT with a board not in a terminal state (R105). -/
def boardPending (b : BoardRecord) : Bool := !b.state.terminal && b.tabs.any (fun t => decide (t.state = .intact))

/-- Some panel in state ALIGNED holds a pending tab (R105). -/
def State.alignedPending (s : State) : Bool :=
  entries.any (fun e => match s.panel e with
    | some p => decide (p.state = .aligned) && p.boards.any boardPending
    | none => false)

/-- Step 7 of R100: the first candidate not passed over is assigned; WAIT or IDLE otherwise (R102, R104, R105). -/
def offerTab (sp : Spindle) : Request := fun s =>
  match s.candidates.find? (fun c => !s.passedOver sp c) with
  | some c => assign s sp c
  | none =>
    if s.candidates.isEmpty = false ∨ s.alignedPending = true then (s, some (.bare .wait))
    else (s, some (.bare .idle))

/-- Step 6 of R100: a READY spindle whose bit is spent becomes WORN, with notice BIT-WORN. -/
def State.wear (s : State) (sp : Spindle) : State :=
  if (s.spindle sp).state = .ready then
    (s.setSpindle sp { s.spindle sp with state := .worn }).raise .bitWorn
  else s

/-- NEXT-TAB at the Cut Dispatcher (R100). LOCKED is met at the line (R90). -/
def nextTab (sp : Spindle) : Request := fun s =>
  if s.causes.any then (s, some (.bare .paused))
  else
    match (s.spindle sp).current with
    | some c => (s, some ⟨.state, s.heldWork c⟩)
    | none =>
      if (s.spindle sp).state = .stalled then (s, some (.bare .stalled))
      else if (s.spindle sp).state = .broken then (s, some (.bare .broken))
      else if (s.spindle sp).spent then (s.wear sp, some (.bare .worn))
      else offerTab sp s

/-! ### Cut reports (R109 to R111) -/

/-- The handle a report names is the spindle's current tab (R109). -/
def State.ownsTab (s : State) (sp : Spindle) (h : TabHandle) : Bool :=
  match (s.spindle sp).current with
  | some c => decide (c.handle = h)
  | none => false

/-- The answer to a report that fails the ownership test: LATE or NOT-YOURS (R109). -/
def State.reportRefusal (s : State) (sp : Spindle) (h : Option TabHandle) : Reply :=
  match h.bind s.tab with
  | some t => if t.state = .suspect ∧ t.lastSpindle = some sp then .bare .late else .bare .notYours
  | none => .bare .notYours

/-- A spindle lets go of its current tab, and its watchdog is stopped (R110, R111, R114). -/
def SpindleRecord.release (r : SpindleRecord) : SpindleRecord := { r with current := none, watchdog := none }

/-- The cut total with a tab's width added; it saturates (R110). -/
def SpindleRecord.addCut (r : SpindleRecord) (width : Nat) : SpindleRecord :=
  { r with cutTotal := min (r.cutTotal + width) Config.maxWord }

/-- A TAB-DONE that is taken (R110). -/
def finishTab (s : State) (sp : Spindle) (h : TabHandle) : State × Option Reply :=
  let width := match s.tab h with
    | some t => t.width
    | none => 0
  let r := (s.spindle sp).release.addCut width
  let t := (s.setSpindle sp r).cutTab h
  (t, some ⟨.ok, tabHandleBytes h ++ t.boardStateBytes h.board ++ opt8 ((t.board h.board).map (·.remaining))
    ++ u32 r.cutTotal ++ flag r.spent⟩)

/-- TAB-DONE at the Cut Dispatcher (R109, R110). -/
def tabDone (sp : Spindle) (entry site tab : Byte) : Request := fun s =>
  match tabHandleOf entry site tab with
  | some h => if s.ownsTab sp h then finishTab s sp h else (s, some (s.reportRefusal sp (some h)))
  | none => (s, some (s.reportRefusal sp none))

/-- The context of a spindle's fault about a tab (R111, R114). -/
def State.cutContext (s : State) (cls : FaultClass) (cause : FaultCause) (sp : Spindle) (h : TabHandle) : Context :=
  { cls := cls, cause := cause, station := some (stationOf sp), bay := none, entry := some h.entry
    panelId := s.panelId h.entry, site := some h.site, tab := some h.tab, recoverable := true }

/-- The tab a spindle held becomes SUSPECT, and the spindle lets go of it and takes a state (R111, R114). -/
def State.loseTab (s : State) (sp : Spindle) (h : TabHandle) (st : SpindleState) : State :=
  (s.setTabState h .suspect).setSpindle sp { (s.spindle sp).release with state := st }

/-- A TAB-FAULT that is taken: BREAK for reason 0, STALL for every other (R111). -/
def failTab (s : State) (sp : Spindle) (h : TabHandle) (reason : Byte) : State × Option Reply :=
  let t :=
    if reason = 0 then
      ((s.loseTab sp h .broken).reportFault (s.cutContext .bit .bitBreak sp h)).raise .bitBroken
    else (s.loseTab sp h (s.spindle sp).state).reportFault (s.cutContext .cut .stall sp h)
  (t, some ⟨.ok, tabHandleBytes h ++ u8 (t.spindle sp).state.code⟩)

/-- TAB-FAULT at the Cut Dispatcher (R109, R111). -/
def tabFault (sp : Spindle) (entry site tab reason : Byte) : Request := fun s =>
  match tabHandleOf entry site tab with
  | some h => if s.ownsTab sp h then failTab s sp h reason else (s, some (s.reportRefusal sp (some h)))
  | none => (s, some (s.reportRefusal sp none))

/-! ### PROGRESS (R112, R135) -/

/-- PROGRESS from a spindle (R112). -/
def spindleProgress (sp : Spindle) : Request := fun s =>
  let r := s.spindle sp
  (s, some ⟨.ok, u8 r.state.code ++ optTabHandle (r.current.map (·.handle))⟩)

/-- The gripper's current board with its record. -/
def State.gripperBoard (s : State) : Option BoardRecord := s.gripper.current.bind s.board

/-- PROGRESS from the gripper (R135). -/
def gripperProgress : Request := fun s =>
  (s, some ⟨.ok, u8 s.gripper.state.code ++ optBoardHandle s.gripper.current
    ++ opt8 (s.gripperBoard.map (fun b => b.state.code)) ++ optReservation (s.gripperBoard.bind (·.reservation))⟩)

/-- PROGRESS on a line: a code of the spindle lines and of the gripper line; UNKNOWN on the others (R86, R88). -/
def progressOn (l : LineId) (s : State) : State :=
  match l with
  | .spindleA => s.takeRequest .spindleA .progress (spindleProgress .a)
  | .spindleB => s.takeRequest .spindleB .progress (spindleProgress .b)
  | .gripper => s.takeRequest .gripper .progress gripperProgress
  | .vision => s.takeEvent (fun s => (s.frameComplete .vision).answerUnknown .vision RequestName.progress.byte)
  | .elevator => s.takeEvent (fun s => (s.frameComplete .elevator).answerUnknown .elevator RequestName.progress.byte)

/-! ### The spindle watchdog (R114) -/

/-- The spindle watchdog runs out (R114): no effect unless it is RUNNING with one tick left and GUARD does not hold it
(R113, log entry 2). -/
def expireSpindle (sp : Spindle) (s : State) : State :=
  if Timer.due (s.spindle sp).watchdog = true ∧ s.causes.guardOpen = false then
    match (s.spindle sp).current with
    | some c =>
      ((s.loseTab sp c.handle .stalled).reportFault (s.cutContext .watchdog .spindleExpiry sp c.handle)).raise .stalled
    | none => s.setSpindle sp (s.spindle sp).release
  else s

/-! ### Host commands (R108, R116, R117, R135) -/

/-- A value clamped to its range (file 00, "Clamped"). -/
def clampTo (low high v : Nat) : Nat := if v < low then low else if high < v then high else v

/-- The spindle a code names (R194). -/
def spindleOf (b : Byte) : Option Spindle := if b = 0 then some .a else if b = 1 then some .b else none

/-- The spindle record as BIT-CHANGE leaves it (R116). -/
def SpindleRecord.newBit (r : SpindleRecord) (limit total : Nat) : SpindleRecord :=
  { r with
    lifeLimit := clampTo Config.minLife Config.maxLife limit
    cutTotal := total
    state := if r.state = .worn ∨ r.state = .broken then .ready else r.state }

/-- BIT-CHANGE at the Cut Dispatcher (R116). -/
def bitChange (spindle : Byte) (lifeLimit startTotal : Word) : Command := fun s =>
  match spindleOf spindle with
  | none => (s, some (.bare .range))
  | some sp =>
    if (s.spindle sp).current.isSome then (s, some (.bare .busy))
    else
      let r := (s.spindle sp).newBit lifeLimit.toNat startTotal.toNat
      (s.setSpindle sp r, some (.ok (u8 r.state.code ++ u32 r.lifeLimit ++ u32 r.cutTotal)))

/-- The spindle record in STATION-CLEAR's answer (R117). -/
def SpindleRecord.fields (r : SpindleRecord) : List Byte :=
  u8 r.state.code ++ optTabHandle (r.current.map (·.handle)) ++ u32 r.cutTotal ++ u32 r.lifeLimit

/-- The gripper record in STATION-CLEAR's answer (R135). -/
def GripperRecord.fields (g : GripperRecord) : List Byte := u8 g.state.code ++ optBoardHandle g.current

/-- STATION-CLEAR for a spindle (R117). -/
def clearSpindle (sp : Spindle) : Command := fun s =>
  if (s.spindle sp).state = .stalled then
    let r := { s.spindle sp with state := .ready }
    (s.setSpindle sp r, some (.ok r.fields))
  else (s, some ⟨.state, (s.spindle sp).fields⟩)

/-- STATION-CLEAR for the gripper (R135). -/
def clearGripper : Command := fun s =>
  if s.gripper.state = .stalled then
    let g := { s.gripper with state := .ready }
    ({ s with gripper := g }, some (.ok g.fields))
  else (s, some ⟨.state, s.gripper.fields⟩)

/-- STATION-CLEAR at its owner (R117, R135): station codes 0, 1 and 2. -/
def stationClear (station : Byte) : Command := fun s =>
  match spindleOf station with
  | some sp => clearSpindle sp s
  | none => if station = 2 then clearGripper s else (s, some (.bare .range))

/-- ZONE-SET at the Cut Dispatcher (R108); the answer carries the five fields as written (log entry 14). -/
def zoneSet (zone : Byte) (low high : Point) (mode enable : Byte) : Command := fun s =>
  match fin? 4 zone.toNat, zoneModeOf mode with
  | some i, some m =>
    if high.x < low.x ∨ high.y < low.y then (s, some (.bare .order))
    else
      let z : MachineZone := ⟨⟨low, high⟩, m, flagSet enable⟩
      ({ s with zones := s.zones.set i z },
        some (.ok (u8 i ++ rectBytes z.rect ++ u8 m.code ++ flag z.enabled)))
  | _, _ => (s, some (.bare .range))

/-! ### The commands -/

/-- NEXT_TAB (R100). -/
def execNextTab (sp : Spindle) (s : State) : Result := .next (s.takeRequest sp.line .nextTab (nextTab sp))

/-- TAB_DONE (R110). -/
def execTabDone (sp : Spindle) (entry site tab : Byte) (s : State) : Result :=
  .next (s.takeRequest sp.line .tabDone (tabDone sp entry site tab))

/-- TAB_FAULT (R111). -/
def execTabFault (sp : Spindle) (entry site tab reason : Byte) (s : State) : Result :=
  .next (s.takeRequest sp.line .tabFault (tabFault sp entry site tab reason))

/-- PROGRESS (R112, R135). -/
def execProgress (line : LineId) (s : State) : Result := .next (progressOn line s)

/-- SPINDLE_WATCHDOG_EXPIRY (R114). -/
def execSpindleWatchdogExpiry (sp : Spindle) (s : State) : Result := .next (s.takeEvent (expireSpindle sp))

/-- BIT_CHANGE (R116). -/
def execBitChange (spindle : Byte) (lifeLimit startTotal : Word) (s : State) : Result :=
  .next (s.takeCommand .bitChange (bitChange spindle lifeLimit startTotal))

/-- STATION_CLEAR (R117, R135). -/
def execStationClear (station : Byte) (s : State) : Result := .next (s.takeCommand .stationClear (stationClear station))

/-- ZONE_SET (R108). -/
def execZoneSet (zone : Byte) (lowX lowY highX highY : Coord) (mode enable : Byte) (s : State) : Result :=
  .next (s.takeCommand .zoneSet (zoneSet zone (coordPoint lowX lowY) (coordPoint highX highY) mode enable))

end Sys2Proof.Machine
end

