-- ==== Sys2Proof/Machine/Bays.lean ====
section
/-! DEFINITION. The Bay Manager (file 08): BAY-POLL, BAY-DONE, the expiries of the action timer, the settle timer and the
confirm window, and the host's bay commands (R142 to R162). -/

namespace Sys2Proof.Machine

/-! ### BAY-POLL (R150) -/

/-- Outgoing room: outgoing records and EXCHANGING bays with a CURRENT record number fewer than four (R150). -/
def State.hasOutgoingRoom (s : State) : Bool :=
  decide (s.outgoing.length
    + (bayNumbers.filter (fun b => decide (s.bays[b].state = .exchanging) && s.bays[b].current.isSome)).length
    < Config.outgoingRoom)

/-- What BAY-POLL reports for one bay (R150, R194). -/
inductive BayReport where
  | index (slot : Option Nat) (outstanding : Bool)
  | exchange (outstanding : Bool)
  | needMagazine
  | outgoingFull
  | paused
  | nothing
  deriving DecidableEq, Repr

/-- A bay's four bytes of the answer: action, outstanding mark, target slot or none, HOLD reason or none (R194). -/
def BayReport.fields : BayReport → List Byte
  | .index slot outstanding => u8 0 ++ flag outstanding ++ opt8 slot ++ opt8 none
  | .exchange outstanding => u8 1 ++ flag outstanding ++ opt8 none ++ opt8 none
  | .needMagazine => u8 2 ++ flag false ++ opt8 none ++ u8 0
  | .outgoingFull => u8 2 ++ flag false ++ opt8 none ++ u8 1
  | .paused => u8 3 ++ flag false ++ opt8 none ++ opt8 none
  | .nothing => u8 4 ++ flag false ++ opt8 none ++ opt8 none

/-- An action is given to a bay: its state, its outstanding action, its action timer (R150). -/
def Bay.start (b : Bay) (a : BayAction) (timeout : Nat) : Bay :=
  { b with
    state := match a with
      | .index => .indexing
      | .exchange => .exchanging
    action := some a
    actionTimer := some timeout }

/-- A new action, or PAUSED in its place while the pause cause set is not empty (R91, R150). -/
def State.giveAction (s : State) (b : Fin 4) (a : BayAction) (report : BayReport) : State × BayReport :=
  if s.causes.any then (s, .paused) else (s.setBay b (s.bays[b].start a s.settings.actionTimeout), report)

/-- BAY-POLL decides one bay (R150). -/
def pollBay (s : State) (b : Fin 4) : State × BayReport :=
  let bay := s.bays[b]
  match bay.state with
  | .indexWanted => s.giveAction b .index (.index bay.target false)
  | .indexing => (s, .index bay.target true)
  | .exchanging => (s, .exchange true)
  | .full =>
    if bay.next.isNone = true ∨ bay.go = false then (s.raise .needMagazine, .needMagazine)
    else if s.hasOutgoingRoom then s.giveAction b .exchange (.exchange false)
    else (s.raise .outgoingFull, .outgoingFull)
  | .empty =>
    if bay.next.isNone = true ∨ bay.go = false then (s.raise .needMagazine, .needMagazine)
    else s.giveAction b .exchange (.exchange false)
  | .active | .settling | .atSlot | .faulted => (s, .nothing)

/-- The bays are decided in ascending order within the one request (R150). -/
def pollAll (s : State) : List (Fin 4) → State × List Byte
  | [] => (s, [])
  | b :: rest =>
    let (t, r) := pollBay s b
    let (u, bytes) := pollAll t rest
    (u, r.fields ++ bytes)

/-- BAY-POLL at the Bay Manager (R150). -/
def bayPoll : Request := fun s =>
  let (t, bytes) := pollAll s bayNumbers
  (t, some ⟨.ok, bytes⟩)

/-! ### BAY-DONE (R151 to R153) -/

/-- The STATE answer to a BAY-DONE: the bay's state and outstanding action, none for a bay above 3 (R151). -/
def State.doneState (s : State) (b : Option (Fin 4)) : Reply :=
  ⟨.state, opt8 (b.map (fun b => s.bays[b].state.code))
    ++ opt8 (b.bind (fun b => (s.bays[b].action).map BayAction.code))⟩

/-- The action ends: no outstanding action, the action timer STOPPED (R151 to R153). -/
def Bay.endAction (b : Bay) : Bay := { b with action := none, actionTimer := none }

/-- The context of a BAY fault (R153, R175). -/
def bayContext (cause : FaultCause) (b : Fin 4) : Context :=
  { cls := .bay, cause := cause, station := some .elevator, bay := some b, entry := none, panelId := none
    site := none, tab := none, recoverable := true }

/-- An action fails: the bay is FAULTED, fault BAY is reported, notice BAY-FAULTED is raised (R153). -/
def State.failAction (s : State) (b : Fin 4) (cause : FaultCause) : State :=
  ((s.setBay b { s.bays[b].endAction with state := .faulted }).reportFault (bayContext cause b)).raise .bayFaulted

/-- A successful INDEX: SETTLING with the settle timer, or AT-SLOT at once with a settle time of 0 (R151). -/
def Bay.indexed (b : Bay) (settle : Nat) : Bay :=
  if settle = 0 then { b.endAction with state := .atSlot }
  else { b.endAction with state := .settling, settleTimer := some settle }

/-- A successful EXCHANGE of the bay's records: NEXT becomes CURRENT, GO clears, the bay is ACTIVE with no target (R152). -/
def Bay.exchanged (b : Bay) : Bay :=
  { b.endAction with current := b.next, next := none, go := false, state := .active, target := none }

/-- A CURRENT record goes to the tail of the outgoing list, with notice MAGAZINE-OUT (R152, R157). -/
def State.sendOut (s : State) (m : Option Magazine) : State :=
  match m with
  | some m => { s with outgoing := s.outgoing ++ [m] }.raise .magazineOut
  | none => s

/-- BAY-DONE for an outstanding INDEX (R151, R153). -/
def doneIndex (s : State) (b : Fin 4) (ok : Bool) : State :=
  if ok then s.setBay b (s.bays[b].indexed s.settings.settleTime) else s.failAction b .indexFailed

/-- The OK answer's fields for a successful EXCHANGE: the new CURRENT id, and the outgoing position if a record went out
(R152). -/
def exchangeFields (s : State) (b : Fin 4) : List Byte :=
  (s.bays[b].next).elim (u32 0) (fun m => u32 m.id.toNat) ++ opt8 ((s.bays[b].current).map (fun _ => s.outgoing.length))

/-- A successful EXCHANGE (R152). -/
def doneExchange (s : State) (b : Fin 4) : State := (s.sendOut s.bays[b].current).setBay b s.bays[b].exchanged

/-- BAY-DONE(bay, INDEX, ok) at the Bay Manager (R151, R153). -/
def bayDoneIndex (bay ok : Byte) : Request := fun s =>
  match fin? 4 bay.toNat with
  | none => (s, some (s.doneState none))
  | some b =>
    if s.bays[b].action = some .index then
      let t := doneIndex s b (flagSet ok)
      (t, some ⟨.ok, u8 t.bays[b].state.code⟩)
    else (s, some (s.doneState (some b)))

/-- BAY-DONE(bay, EXCHANGE, ok) at the Bay Manager (R151 to R153). -/
def bayDoneExchange (bay ok : Byte) : Request := fun s =>
  match fin? 4 bay.toNat with
  | none => (s, some (s.doneState none))
  | some b =>
    if s.bays[b].action = some .exchange then
      if flagSet ok then (doneExchange s b, some ⟨.ok, exchangeFields s b⟩)
      else
        let t := s.failAction b .exchangeFailed
        (t, some ⟨.ok, u8 t.bays[b].state.code⟩)
    else (s, some (s.doneState (some b)))

/-- BAY-DONE with an action code that is neither: STATE (R151, R194). -/
def bayDoneOther (bay : Byte) : Request := fun s => (s, some (s.doneState (fin? 4 bay.toNat)))

/-- BAY-DONE by its action byte (R151, R194). -/
def bayDone (bay action ok : Byte) : Request :=
  if action = 0 then bayDoneIndex bay ok
  else if action = 1 then bayDoneExchange bay ok
  else bayDoneOther bay

/-! ### Expiries (R147, R151, R153) -/

/-- A bay's action timer runs out (R153): no effect unless it is RUNNING with one tick left and GUARD does not hold it
(R149, log entry 2). -/
def expireAction (b : Fin 4) (s : State) : State :=
  if Timer.due s.bays[b].actionTimer = true ∧ s.causes.guardOpen = false then s.failAction b .actionTimeout else s

/-- A bay's settle timer runs out: the bay is AT-SLOT (R151). No effect unless it is RUNNING with one tick left (log entry
2). -/
def expireSettle (b : Fin 4) (s : State) : State :=
  if Timer.due s.bays[b].settleTimer = true then
    s.setBay b { s.bays[b] with settleTimer := none, state := .atSlot }
  else s

/-- A bay's confirm window runs out (R147). No effect unless it is OPEN with one tick left (log entry 2). -/
def expireWindow (b : Fin 4) (s : State) : State :=
  match s.bays[b].confirm with
  | some w => if Timer.due (some w.remaining) then s.expireConfirm b w.slot else s
  | none => s

/-! ### Host commands (R154 to R160) -/

/-- The magazine id is that of a CURRENT record, of the NEXT record of another bay, or of an outgoing record (R154). -/
def State.magazineIdHeld (s : State) (b : Fin 4) (id : Word) : Bool :=
  bayNumbers.any (fun x => decide ((s.bays[x].current).map (·.id) = some id))
    || bayNumbers.any (fun x => decide (x ≠ b) && decide ((s.bays[x].next).map (·.id) = some id))
    || s.outgoing.any (fun m => decide (m.id = id))

/-- A record staged by MAG-STAGE: fill index 0, every slot EMPTY, pitch and clearance clamped (R143, R154). -/
def stagedMagazine (id : Word) (slots pitch clearance : Nat) : Magazine :=
  ⟨id, clampTo 2000 20000 pitch, clampTo 0 5000 clearance, 0, List.replicate slots .empty⟩

/-- MAG-STAGE at the Bay Manager (R154). -/
def magStage (bay : Byte) (id : Word) (slots : Byte) (pitch clearance : Half) : Command := fun s =>
  match fin? 4 bay.toNat with
  | none => (s, some (.bare .range))
  | some b =>
    if slots = 0 ∨ 80 < slots.toNat then (s, some (.bare .range))
    else if s.bays[b].next.isSome = true ∧ s.bays[b].go = true then (s, some (.bare .busy))
    else if s.magazineIdHeld b id then (s, some (.bare .duplicate))
    else
      let m := stagedMagazine id slots.toNat pitch.toNat clearance.toNat
      (s.setBay b { s.bays[b] with next := some m, go := false },
        some (.ok (u8 b ++ u32 m.id.toNat ++ u16 m.pitch ++ u16 m.clearance)))

/-- MAG-GO at the Bay Manager (R155). -/
def magGo (bay : Byte) : Command := fun s =>
  match fin? 4 bay.toNat with
  | none => (s, some (.bare .range))
  | some b =>
    match s.bays[b].next with
    | none => (s, some (.bare .noNext))
    | some m => (s.setBay b { s.bays[b] with go := true }, some (.ok (u32 m.id.toNat)))

/-- MAG-UNSTAGE at the Bay Manager (R155). -/
def magUnstage (bay : Byte) : Command := fun s =>
  match fin? 4 bay.toNat with
  | none => (s, some (.bare .range))
  | some b =>
    match s.bays[b].next with
    | none => (s, some (.bare .noNext))
    | some m =>
      if s.bays[b].go then (s, some (.bare .busy))
      else (s.setBay b { s.bays[b] with next := none }, some (.ok (u32 m.id.toNat)))

/-- BAY-EXCHANGE at the Bay Manager (R156). -/
def bayExchange (bay : Byte) : Command := fun s =>
  match fin? 4 bay.toNat with
  | none => (s, some (.bare .range))
  | some b =>
    if ¬(s.bays[b].state = .active ∨ s.bays[b].state = .atSlot) then (s, some (.bare .state))
    else if s.bayReserved b = true ∨ s.bays[b].confirm.isSome = true then (s, some (.bare .busy))
    else
      (s.setBay b { s.bays[b] with state := .full, target := none },
        some (.ok (u8 ((s.bays[b].current).elim 0 (·.fill)) ++ u8 ((s.bays[b].current).elim 0 Magazine.slotCount))))

/-- Why BAY-CLEAR is refused on a FAULTED bay, if so (R157). -/
def State.clearRefusal (s : State) (b : Fin 4) (loaded : Bool) : Option HostCode :=
  if loaded then (if s.bays[b].current.isNone then some .noMagazine else none)
  else if s.bayReserved b then some .busy
  else if s.bays[b].confirm.isSome then some .busy
  else if s.bays[b].current.isSome = true ∧ s.hasOutgoingRoom = false then some .outgoingFull
  else none

/-- A BAY-CLEAR that is taken (R157). -/
def clearBay (s : State) (b : Fin 4) (loaded : Bool) : State :=
  if loaded then
    if s.bayReserved b then s.setBay b { s.bays[b] with state := .indexWanted }
    else s.setBay b { s.bays[b] with state := .active, target := none }
  else (s.sendOut s.bays[b].current).setBay b { s.bays[b] with current := none, state := .empty, target := none }

/-- BAY-CLEAR at the Bay Manager (R157). -/
def bayClear (bay loaded : Byte) : Command := fun s =>
  match fin? 4 bay.toNat with
  | none => (s, some (.bare .range))
  | some b =>
    if s.bays[b].state ≠ .faulted then (s, some (.bare .state))
    else
      match s.clearRefusal b (flagSet loaded) with
      | some code => (s, some (.bare code))
      | none =>
        let t := clearBay s b (flagSet loaded)
        (t, some (.ok (u8 t.bays[b].state.code)))

/-- MAG-RELEASE at the Bay Manager (R158). -/
def magRelease (id : Word) : Command := fun s =>
  if s.outgoing.any (fun m => decide (m.id = id)) then
    let rest := s.outgoing.eraseP (fun m => decide (m.id = id))
    ({ s with outgoing := rest }, some (.ok (u16 rest.length)))
  else (s, some (.bare .notFound))

/-- A magazine location (R159, R194). -/
inductive Location where
  | currentOf (b : Fin 4)
  | nextOf (b : Fin 4)
  | outgoingAt (p : Fin 4)
  deriving DecidableEq, Repr

/-- The location a code names, none for a bay or position above 3 (R159, R194). -/
def locationOf (code : Byte) : Option Location :=
  match fin? 4 code.toNat, fin? 4 (code.toNat - 0x10), fin? 4 (code.toNat - 0x20) with
  | some b, _, _ => some (.currentOf b)
  | none, some b, _ => if 0x10 ≤ code.toNat then some (.nextOf b) else none
  | none, none, some p => if 0x20 ≤ code.toNat then some (.outgoingAt p) else none
  | none, none, none => none

/-- The record at a location (R159). -/
def State.magazineAt (s : State) : Location → Option Magazine
  | .currentOf b => s.bays[b].current
  | .nextOf b => s.bays[b].next
  | .outgoingAt p => s.outgoing[p.val]?

/-- The bay of a CURRENT or NEXT location (R159). -/
def Location.bay : Location → Option (Fin 4)
  | .currentOf b => some b
  | .nextOf b => some b
  | .outgoingAt _ => none

/-- The bytes of what a placed slot holds. -/
def PlacedBoard.fields (p : PlacedBoard) : List Byte :=
  u32 p.panelId.toNat ++ u8 p.site ++ u8 p.variant ++ u8 p.verdict.code

/-- The bytes of a slot entry: its state and its content (R143, R159). -/
def Slot.fields (x : Slot) : List Byte :=
  u8 x.code ++ match x with
    | .empty => []
    | .reserved h => boardHandleBytes h
    | .spanned head => u8 head
    | .occupied p => p.fields
    | .doubtful p => p.fields

/-- The bay's part of MAG-READ's answer (R159). -/
def Bay.readFields (b : Bay) : List Byte :=
  u8 b.state.code ++ flag b.go ++ opt8 b.target ++ opt8 (b.action.map BayAction.code)
    ++ u8 (if b.confirm.isSome then 1 else 0) ++ opt8 (b.confirm.map (·.slot)) ++ optWide 2 u16 (b.confirm.map (·.remaining))

/-- The fields of MAG-READ's answer (R159). -/
def magFields (s : State) (l : Location) (m : Magazine) (first count : Nat) : List Byte :=
  u32 m.id.toNat ++ u8 m.slotCount ++ u16 m.pitch ++ u16 m.clearance ++ u8 m.fill
    ++ (match l.bay with
      | some b => s.bays[b].readFields
      | none => [])
    ++ u16 s.outgoing.length ++ ((m.slots.drop first).take count).flatMap Slot.fields

/-- MAG-READ at the Bay Manager (R159). -/
def magRead (location first count : Byte) : Command := fun s =>
  match locationOf location with
  | none => (s, some (.bare .range))
  | some l =>
    match s.magazineAt l with
    | none => (s, some (.bare .noMagazine))
    | some m =>
      if m.slotCount ≤ first.toNat ∨ count = 0 ∨ 16 < count.toNat then (s, some (.bare .range))
      else (s, some (.ok (magFields s l m first.toNat count.toNat)))

/-- The pairs of a BAY-ROUTE payload: variant, destination (R160, R194). -/
def pairsOf : List Byte → List (Nat × Nat)
  | v :: d :: rest => (v.toNat, d.toNat) :: pairsOf rest
  | [_] => []
  | [] => []

/-- One pair is written (R160): destination 4 stands for NONE. -/
def writeRoute (t : Vector (Option (Fin 4)) 16) (p : Nat × Nat) : Vector (Option (Fin 4)) 16 :=
  match fin? 16 p.1 with
  | some v => t.set v (fin? 4 p.2)
  | none => t

/-- A BAY-ROUTE payload has the length of one to sixteen pairs (R194). -/
def routeLength (payload : List Byte) : Bool :=
  decide (payload.length ≠ 0 ∧ payload.length % 2 = 0 ∧ payload.length ≤ 32)

/-- The bytes of the routing table, 4 for NONE (R160, log entry 14). -/
def routingFields (t : Vector (Option (Fin 4)) 16) : List Byte :=
  t.toList.flatMap (fun d => u8 (d.elim 4 Fin.val))

/-- BAY-ROUTE at the Bay Manager (R160). -/
def bayRoute (payload : List Byte) : Command := fun s =>
  if (pairsOf payload).any (fun p => decide (15 < p.1 ∨ 4 < p.2)) then (s, some (.bare .range))
  else
    let t := (pairsOf payload).foldl writeRoute s.routing
    ({ s with routing := t }, some (.ok (routingFields t)))

/-- BAY-ROUTE as the port takes it: LENGTH for a payload that is no list of one to sixteen pairs (R187, R194). -/
def bayRouteCommand (payload : List Byte) : Option Command :=
  if routeLength payload then some (bayRoute payload) else none

/-! ### The commands -/

/-- BAY_POLL (R150). -/
def execBayPoll (s : State) : Result := .next (s.takeRequest .elevator .bayPoll bayPoll)

/-- BAY_DONE_INDEX (R151). -/
def execBayDoneIndex (bay ok : Byte) (s : State) : Result :=
  .next (s.takeRequest .elevator .bayDone (bayDoneIndex bay ok))

/-- BAY_DONE_EXCHANGE (R152). -/
def execBayDoneExchange (bay ok : Byte) (s : State) : Result :=
  .next (s.takeRequest .elevator .bayDone (bayDoneExchange bay ok))

/-- ACTION_TIMER_EXPIRY (R153). -/
def execActionTimerExpiry (bay : Fin 4) (s : State) : Result := .next (s.takeEvent (expireAction bay))

/-- SETTLE_TIMER_EXPIRY (R151). -/
def execSettleTimerExpiry (bay : Fin 4) (s : State) : Result := .next (s.takeEvent (expireSettle bay))

/-- CONFIRM_WINDOW_EXPIRY (R147). -/
def execConfirmWindowExpiry (bay : Fin 4) (s : State) : Result := .next (s.takeEvent (expireWindow bay))

/-- MAG_STAGE (R154). -/
def execMagStage (bay : Byte) (magazineId : Word) (slotCount : Byte) (pitch clearance : Half) (s : State) : Result :=
  .next (s.takeCommand .magStage (magStage bay magazineId slotCount pitch clearance))

/-- MAG_GO (R155). -/
def execMagGo (bay : Byte) (s : State) : Result := .next (s.takeCommand .magGo (magGo bay))

/-- MAG_UNSTAGE (R155). -/
def execMagUnstage (bay : Byte) (s : State) : Result := .next (s.takeCommand .magUnstage (magUnstage bay))

/-- BAY_EXCHANGE (R156). -/
def execBayExchange (bay : Byte) (s : State) : Result := .next (s.takeCommand .bayExchange (bayExchange bay))

/-- BAY_CLEAR (R157). -/
def execBayClear (bay loaded : Byte) (s : State) : Result := .next (s.takeCommand .bayClear (bayClear bay loaded))

/-- MAG_RELEASE (R158). -/
def execMagRelease (magazineId : Word) (s : State) : Result := .next (s.takeCommand .magRelease (magRelease magazineId))

/-- MAG_READ (R159). -/
def execMagRead (location first count : Byte) (s : State) : Result :=
  .next (s.takeCommand .magRead (magRead location first count))

/-- BAY_ROUTE (R160). -/
def execBayRoute (payload : List Byte) (s : State) : Result :=
  .next (s.takeCommandOr .bayRoute (bayRouteCommand payload))

end Sys2Proof.Machine
end

