-- ==== Sys2Proof/Machine/Pick.lean ====
section
/-! DEFINITION. The Pick Scheduler (file 07): NEXT-PICK, HOLD-ON, PLACE-CHECK, PLACED, DROPPED, the gripper watchdog's
expiry (R122 to R141). -/

namespace Sys2Proof.Machine

/-! ### Destinations and bay order (R123, R126) -/

/-- The destination bay of a board (R123). -/
def State.destination (s : State) (b : BoardRecord) : Option (Fin 4) :=
  if b.verdict = .xout then s.settings.rejectBay
  else
    match fin? 16 b.variant with
    | some v => s.routing[v]
    | none => none

/-- The order in which the bays are walked (R126). -/
def State.bayOrder (s : State) : List (Fin 4) :=
  match s.settings.pickMode with
  | .fixed => bayNumbers
  | .rotating => [s.lastServed + 1, s.lastServed + 2, s.lastServed + 3, s.lastServed]
  | .preferred => s.settings.preferredBay :: bayNumbers.filter (fun b => decide (b ≠ s.settings.preferredBay))

/-- The READY boards on workable panels, ascending fixture and site (R126). -/
def State.pickCandidates (s : State) : List BoardHandle :=
  [(0 : Fin 2), 1].flatMap (fun f => (s.workableOn f).flatMap (fun e =>
    ((s.boardsOf e).zipIdx.filter (fun bi => decide (bi.1.state = .ready))).map (fun bi => ⟨e, bi.2⟩)))

/-- The destination of the board a handle names. -/
def State.destinationOf (s : State) (h : BoardHandle) : Option (Fin 4) := (s.board h).bind s.destination

/-- Notice NO-DEST, once for each board (R126). -/
def State.noteNoDest (s : State) (h : BoardHandle) : State :=
  match s.board h with
  | some b =>
    if b.notedNoDest then s else (s.modifyBoard h (fun b => { b with notedNoDest := true })).raise .noDest
  | none => s

/-- Notice UNFIT, once for each board (R127). -/
def State.noteUnfit (s : State) (h : BoardHandle) : State :=
  match s.board h with
  | some b =>
    if b.notedUnfit then s else (s.modifyBoard h (fun b => { b with notedUnfit := true })).raise .unfit
  | none => s

/-- The candidates with destination NONE are set aside (R126). -/
def setAside (s : State) : List BoardHandle → State
  | [] => s
  | h :: rest => setAside (if (s.destinationOf h).isNone then s.noteNoDest h else s) rest

/-! ### The walk (R127, R144) -/

/-- The span of a board in a magazine: H divided by the pitch and rounded up (R144). -/
def spanOf (thickness topHeight : Nat) (m : Magazine) : Nat :=
  let h := thickness + topHeight + m.clearance
  if h % m.pitch = 0 then h / m.pitch else h / m.pitch + 1

/-- The span of the board a handle names, in a magazine (R144). -/
def State.boardSpan (s : State) (h : BoardHandle) (m : Magazine) : Option Nat :=
  (s.panel h.entry).bind (fun p => (s.recipeOf p).bind (fun r =>
    (s.board h).map (fun b => spanOf r.header.thickness b.topHeight m)))

/-- The bay accepts a reservation (R127, step 1); its CURRENT record then. -/
def Bay.accepts (b : Bay) : Option Magazine :=
  if (b.state = .active ∨ b.state = .atSlot) ∧ b.confirm.isNone = true then b.current else none

/-- The room test makes a bay FULL, target none (R127, step 4). -/
def State.fillUp (s : State) (b : Fin 4) : State := s.setBay b { s.bays[b] with state := .full, target := none }

/-- A chosen board: the bay, the board, the span. -/
structure Choice where
  bay : Fin 4
  board : BoardHandle
  span : Nat
  deriving DecidableEq, Repr

/-- The candidates of one bay are walked (R127, steps 2 to 5). -/
def walkBay (b : Fin 4) (m : Magazine) (s : State) : List BoardHandle → State × Option Choice
  | [] => (s, none)
  | h :: rest =>
    match s.boardSpan h m with
    | none => walkBay b m s rest
    | some k =>
      if Config.maxSpan < k ∨ m.slotCount < k then walkBay b m (s.noteUnfit h) rest
      else if m.slotCount < m.fill + k then (s.fillUp b, none)
      else (s, some ⟨b, h, k⟩)

/-- The bays are walked in order, each with the candidates whose destination it is (R126, R127). -/
def walkBays (cands : List BoardHandle) (s : State) : List (Fin 4) → State × Option Choice
  | [] => (s, none)
  | b :: rest =>
    match s.bays[b].accepts with
    | none => walkBays cands s rest
    | some m =>
      match walkBay b m s (cands.filter (fun h => decide (s.destinationOf h = some b))) with
      | (t, some c) => (t, some c)
      | (t, none) => walkBays cands t rest

/-! ### NEXT-PICK (R125, R128, R129) -/

/-- The bay gives slots to a board: RESERVED and SPANNED, the fill index, the bay state and target (R145). -/
def Bay.reserve (b : Bay) (m : Magazine) (h : BoardHandle) (k : Nat) : Bay :=
  if b.state = .atSlot ∧ b.target = some m.fill then { b with current := some (m.reserve h k) }
  else { b with current := some (m.reserve h k), state := .indexWanted, target := some m.fill }

/-- The bytes of a board's corrected pick point; every board of an ALIGNED panel has one. -/
def pickPointBytes (b : Option BoardRecord) : List Byte := pointBytes ((b.bind (·.pickPoint)).getD ⟨0, 0⟩)

/-- A chosen board is given to the gripper (R128). -/
def givePick (s : State) (c : Choice) (m : Magazine) : State × Option Reply :=
  let head := m.fill
  let s1 := s.setBay c.bay (s.bays[c.bay].reserve m c.board c.span)
  let s2 := s1.modifyBoard c.board (fun b => { b with state := .targeted, reservation := some ⟨c.bay, head⟩ })
  let s3 := { s2 with
    gripper := { s2.gripper with current := some c.board, watchdog := some s.settings.gripperTimeout }
    lastServed := c.bay }
  (s3, some ⟨.work, boardHandleBytes c.board ++ pickPointBytes (s.board c.board) ++ u8 c.bay ++ u8 head ++ u8 c.span⟩)

/-- Some READY board stands on an ALIGNED panel (R129). -/
def State.readyOnAligned (s : State) : Bool :=
  entries.any (fun e => match s.panel e with
    | some p => decide (p.state = .aligned) && p.boards.any (fun b => decide (b.state = .ready))
    | none => false)

/-- Step 6 of R125: R126 to R129. -/
def offerPick : Request := fun s =>
  let cands := s.pickCandidates
  let s1 := setAside s cands
  match walkBays cands s1 s1.bayOrder with
  | (t, some c) =>
    match t.bays[c.bay].current with
    | some m => givePick t c m
    | none => (t, some (.bare .wait))
  | (t, none) => (t, some (.bare (if t.readyOnAligned then .wait else .idle)))

/-- Some board in state SUSPECT holds a reservation (R125, step 5). -/
def State.suspectReserved (s : State) : Bool :=
  s.allBoards.any (fun hb => decide (hb.2.state = .suspect) && hb.2.reservation.isSome)

/-- The span of a reservation: the head and the SPANNED slots that name it. -/
def Magazine.spanAt (m : Magazine) (head : Nat) : Nat :=
  1 + (m.slots.filter (fun x => decide (x = .spanned head))).length

/-- The STATE answer's fields: the work the gripper holds (R125). -/
def State.heldPick (s : State) (h : BoardHandle) : List Byte :=
  let r := (s.board h).bind (·.reservation)
  let span := r.bind (fun r => (s.bays[r.bay].current).map (fun m => m.spanAt r.slot))
  boardHandleBytes h ++ pickPointBytes (s.board h) ++ optReservation r ++ opt8 span ++ s.boardStateBytes h

/-- NEXT-PICK at the Pick Scheduler (R125). LOCKED is met at the line (R90). -/
def nextPick : Request := fun s =>
  if s.causes.any then (s, some (.bare .paused))
  else
    match s.gripper.current with
    | some h => (s, some ⟨.state, s.heldPick h⟩)
    | none =>
      if s.gripper.state = .stalled then (s, some (.bare .stalled))
      else if s.suspectReserved then (s, some (.bare .wait))
      else offerPick s

/-! ### HOLD-ON, PLACE-CHECK (R131, R132) -/

/-- The board a request names, when it is the gripper's current board. -/
def State.gripperNames (s : State) (entry site : Byte) : Option (BoardHandle × BoardRecord) :=
  match boardHandleOf entry site with
  | some h => if s.gripper.current = some h then (s.board h).map (fun b => (h, b)) else none
  | none => none

/-- The STATE answer with the named board's state, or none (R131, R132). -/
def State.stateReply (s : State) (entry site : Byte) : Reply :=
  ⟨.state, opt8 (((boardHandleOf entry site).bind s.board).map (fun b => b.state.code))⟩

/-- HOLD-ON at the Pick Scheduler (R131). -/
def holdOn (entry site : Byte) : Request := fun s =>
  match s.gripperNames entry site with
  | some (h, b) =>
    if b.state = .targeted then (s.setBoardState h .held, some (.bare .ok)) else (s, some (s.stateReply entry site))
  | none => (s, some (s.stateReply entry site))

/-- The reserved bay is AT-SLOT at the reserved slot (R132). -/
def State.placeClear (s : State) (r : Reservation) : Bool :=
  decide (s.bays[r.bay].state = .atSlot ∧ s.bays[r.bay].target = some r.slot)

/-- PLACE-CHECK at the Pick Scheduler (R132). -/
def placeCheck (entry site : Byte) : Request := fun s =>
  match s.gripperNames entry site with
  | some (_, b) =>
    if b.state = .free then
      match b.reservation with
      | some r =>
        (s, some ⟨if s.placeClear r then .ok else .wait,
          u8 s.bays[r.bay].state.code ++ opt8 s.bays[r.bay].target⟩)
      | none => (s, some ⟨.wait, opt8 none ++ opt8 none⟩)
    else (s, some (s.stateReply entry site))
  | none => (s, some (s.stateReply entry site))

/-! ### PLACED (R133, R146) -/

/-- The context of a HANDLING or WATCHDOG fault about the gripper's board (R133, R134, R137). -/
def State.gripperContext (s : State) (cls : FaultClass) (cause : FaultCause) (h : BoardHandle) (tab : Option Nat)
    (recoverable : Bool) : Context :=
  { cls := cls, cause := cause, station := some .gripper, bay := none, entry := some h.entry
    panelId := s.panelId h.entry, site := some h.site, tab := tab, recoverable := recoverable }

/-- The gripper lets go of its board, and its watchdog is stopped (R133, R134, R137). -/
def State.releaseGripper (s : State) : State :=
  { s with gripper := { s.gripper with current := none, watchdog := none } }

/-- The bay's side of a placement after its slot is OCCUPIED: confirmed at once when the sensor reads PRESENT, else the
confirm window opens; a confirm time of 0 expires it at once (R146, R147). -/
def State.judgePlacement (s : State) (b : Fin 4) (slot : Nat) : State :=
  if s.bayLevel b then s.confirmPlacement b
  else if s.settings.confirmTime = 0 then s.expireConfirm b slot
  else s.setBay b { s.bays[b] with confirm := some ⟨slot, s.settings.confirmTime⟩ }

/-- A PLACED that is taken (R133, R146). -/
def placeBoard (s : State) (h : BoardHandle) (r : Reservation) : State × Option Reply :=
  let s1 := (s.occupySlot h).releaseGripper
  let s2 := s1.setBoardTerminal h .placed
  (s2.judgePlacement r.bay r.slot, some ⟨.ok, boardHandleBytes h ++ u8 r.bay ++ u8 r.slot⟩)

/-- PLACED at the Pick Scheduler (R133). -/
def placed (entry site bay slot : Byte) : Request := fun s =>
  match s.gripperNames entry site with
  | some (h, b) =>
    if b.state = .free then
      match b.reservation with
      | some r =>
        if r.bay.val = bay.toNat ∧ r.slot = slot.toNat then placeBoard s h r
        else (s.reportFault (s.gripperContext .handling .mismatch h none true), some (.bare .mismatch))
      | none => (s.reportFault (s.gripperContext .handling .mismatch h none true), some (.bare .mismatch))
    else (s, some (.bare .state))
  | none => (s, some (.bare .state))

/-! ### DROPPED (R68, R134) -/

/-- What a drop does to the board and what it reports (R68, R134). -/
def dropBoard (s : State) (h : BoardHandle) (b : BoardRecord) : State :=
  let s := s.releaseGripper
  match b.state with
  | .targeted => s.abandonPick h
  | .held =>
    if b.releaseState = some .intact then s.abandonPick h
    else
      (s.setBoardState h .suspect).reportFault
        (s.gripperContext .handling .dropUnderCut h (b.releaseTab.map Prod.fst) false)
  | .free => (s.loseBoard h).reportFault (s.gripperContext .handling .drop h none false)
  | .awaitMark | .unsure | .cutting | .ready | .suspect | .placed | .xoutLeft | .stranded | .lost => s

/-- DROPPED at the Pick Scheduler (R134). DESIGN CHOICE (log entry 32): the answer carries the board's new state in every row of
R134's table, where the rule says so of an abandoned pick alone. -/
def dropped (entry site : Byte) : Request := fun s =>
  match s.gripperNames entry site with
  | some (h, b) =>
    let t := dropBoard s h b
    (t, some ⟨.ok, t.boardStateBytes h⟩)
  | none => (s, some (.bare .state))

/-! ### The gripper watchdog (R137) -/

/-- What an expiry does to the gripper's board, and the fault it reports (R137). -/
def expireBoard (s : State) (h : BoardHandle) (b : BoardRecord) : State :=
  match b.state with
  | .targeted => (s.abandonPick h).reportFault (s.gripperContext .watchdog .gripperExpiry h none true)
  | .held | .free =>
    (s.setBoardState h .suspect).reportFault (s.gripperContext .handling .gripperExpiry h none false)
  | .awaitMark | .unsure | .cutting | .ready | .suspect | .placed | .xoutLeft | .stranded | .lost => s

/-- The gripper watchdog runs out (R137): no effect unless it is RUNNING with one tick left and GUARD does not hold it (R136,
log entry 2). -/
def expireGripper (s : State) : State :=
  if Timer.due s.gripper.watchdog = true ∧ s.causes.guardOpen = false then
    match s.gripper.current, s.gripperBoard with
    | some h, some b =>
      (expireBoard { s with gripper := ⟨.stalled, none, none⟩ } h b).raise .stalled
    | _, _ => s.releaseGripper
  else s

/-! ### The commands -/

/-- NEXT_PICK (R125). -/
def execNextPick (s : State) : Result := .next (s.takeRequest .gripper .nextPick nextPick)

/-- HOLD_ON (R131). -/
def execHoldOn (entry site : Byte) (s : State) : Result := .next (s.takeRequest .gripper .holdOn (holdOn entry site))

/-- PLACE_CHECK (R132). -/
def execPlaceCheck (entry site : Byte) (s : State) : Result :=
  .next (s.takeRequest .gripper .placeCheck (placeCheck entry site))

/-- PLACED (R133). -/
def execPlaced (entry site bay slot : Byte) (s : State) : Result :=
  .next (s.takeRequest .gripper .placed (placed entry site bay slot))

/-- DROPPED (R134). -/
def execDropped (entry site : Byte) (s : State) : Result := .next (s.takeRequest .gripper .dropped (dropped entry site))

/-- GRIPPER_WATCHDOG_EXPIRY (R137). -/
def execGripperWatchdogExpiry (s : State) : Result := .next (s.takeEvent expireGripper)

end Sys2Proof.Machine
end

