-- ==== Sys2Proof/Machine/Lines.lean ====
section
/-! DEFINITION. The station lines as bytes (file 05): the receiver (R85), the examination of a complete frame (R86), the
block each request code goes to (R88), the gap timer and the transmitter (R85, R87). -/

namespace Sys2Proof.Machine

/-! ### Frames (sections 5.2 and 5.3) -/

/-- The modulo-256 sum of bytes (R86, R187). -/
def sumBytes (bytes : List Byte) : Byte := bytes.foldl (fun a b => a + b) 0

/-- The check byte over bytes: the two's complement of their modulo-256 sum (R86, R187). -/
def checkByte (bytes : List Byte) : Byte := -(sumBytes bytes)

/-- A station frame after its start byte: length, code, fields, check byte (section 5.2). -/
def frameBody (f : Frame) : List Byte :=
  let body := BitVec.ofNat 8 (f.fields.length + 1) :: f.code :: f.fields
  body ++ [checkByte body]

/-- The bytes of a frame as it leaves the part (section 5.3). -/
def frameBytes (f : Frame) : List Byte := Config.startByte :: frameBody f

/-! ### The owning block of each request code (R88) -/

/-- A request of a spindle line, for the spindle of the line (R88); the other lines have no such code. -/
def onSpindle (l : LineId) (request : Spindle → Request) : Request :=
  match l with
  | .spindleA => request .a
  | .spindleB => request .b
  | .gripper => fun s => (s, some (.bare .unknown))
  | .vision => fun s => (s, some (.bare .unknown))
  | .elevator => fun s => (s, some (.bare .unknown))

/-- PROGRESS by its line (R88). -/
def progressRequest (l : LineId) : Request :=
  match l with
  | .gripper => gripperProgress
  | .spindleA => spindleProgress .a
  | .spindleB => spindleProgress .b
  | .vision => fun s => (s, some (.bare .unknown))
  | .elevator => fun s => (s, some (.bare .unknown))

/-- A request code with its field bytes, at its owning block (R88, R194). -/
def requestBlock (l : LineId) (name : RequestName) (f : List Byte) : Request :=
  let b := fun i => f.getD i 0
  match name with
  | .nextTab => onSpindle l nextTab
  | .tabDone => onSpindle l (fun sp => tabDone sp (b 0) (b 1) (b 2))
  | .tabFault => onSpindle l (fun sp => tabFault sp (b 0) (b 1) (b 2) (b 3))
  | .progress => progressRequest l
  | .nextPick => nextPick
  | .holdOn => holdOn (b 0) (b 1)
  | .placeCheck => placeCheck (b 0) (b 1)
  | .placed => placed (b 0) (b 1) (b 2) (b 3)
  | .dropped => dropped (b 0) (b 1)
  | .fiducial => fiducial (b 0) (coordPoint (coordAt f 1) (coordAt f 4)) (coordPoint (coordAt f 7) (coordAt f 10))
  | .siteMark => siteMark (b 0) (b 1) (b 2)
  | .bayPoll => bayPoll
  | .bayDone => bayDone (b 0) (b 1) (b 2)

/-! ### Examination (R86) -/

/-- A complete frame, given as its bytes after the start byte, is examined (R86): tests 1 to 3 here, tests 4 to 7 in
`State.examine`. -/
def State.examineBytes (s : State) (l : LineId) (bytes : List Byte) : State :=
  match bytes with
  | len :: code :: rest =>
    if sumBytes bytes ≠ 0 then s
    else
      match requestOf l code with
      | none => s.answerUnknown l code
      | some name =>
        if len.toNat ≠ name.length then s
        else s.examine l code (requestBlock l name rest.dropLast)
  | [_] => s
  | [] => s

/-- The bytes after a start byte make a complete frame: the length L from 1 to 32, the code, L - 1 field bytes, the check
byte (R85). -/
def bytesComplete (bytes : List Byte) : Bool :=
  match bytes with
  | [] => false
  | len :: rest => decide (1 ≤ len.toNat ∧ len.toNat ≤ 32 ∧ rest.length = len.toNat + 1)

/-- A complete frame arrives: the receiver goes back to HUNT and the frame is examined (R85, R86). Bytes that are no
complete frame complete none. -/
def frameArrives (l : LineId) (bytes : List Byte) (s : State) : State :=
  if bytesComplete bytes then (s.frameComplete l).examineBytes l bytes else s

/-! ### The receiver, byte by byte (R85) -/

/-- A length byte that is 0 or above 32 is a bad length (R85). -/
def badLength (b : Byte) : Bool := decide (b = 0 ∨ 32 < b.toNat)

/-- One byte arrives on a line, with or without a framing error (R85). -/
def receiveByte (l : LineId) (byte : Byte) (framingError : Bool) (s : State) : State :=
  let r := s.line l
  match r.receiver with
  | .hunt =>
    if framingError = false ∧ byte = Config.startByte then
      s.setLine l { r with receiver := .length, partialFrame := [], gap := some 0 }
    else s
  | .length =>
    if framingError = true ∨ badLength byte = true then s.dropFrame l
    else s.setLine l { r with receiver := .body, partialFrame := [byte], gap := some 0 }
  | .body =>
    if framingError then s.dropFrame l
    else if bytesComplete (r.partialFrame ++ [byte]) then frameArrives l (r.partialFrame ++ [byte]) s
    else s.setLine l { r with partialFrame := r.partialFrame ++ [byte], gap := some 0 }

/-- The gap timer runs out: the frame in progress is dropped (R85). No effect unless it is running with its last tick due
(log entry 2). -/
def expireGap (l : LineId) (s : State) : State :=
  match (s.line l).gap with
  | some n => if Config.gapTicks ≤ n + 1 then s.dropFrame l else s
  | none => s

/-! ### The transmitter (R87) -/

/-- The last byte of the frame being sent has left the line; the next queued frame follows (R87). With no frame being sent
and none queued nothing happens (log entry 5). -/
def endTransmission (l : LineId) (s : State) : State := s.setLine l ({ (s.line l).pump with tx := none }).pump

/-! ### The commands -/

/-- GAP_TIMER_EXPIRY (R85). -/
def execGapTimerExpiry (line : LineId) (s : State) : Result := .next (s.takeEvent (expireGap line))

/-- STATION_FRAME (R86); the bytes are those after the start byte. -/
def execStationFrame (line : LineId) (bytes : List Byte) (s : State) : Result :=
  .next (s.takeEvent (frameArrives line bytes))

/-- FRAME_TRANSMITTED (R87); no effect when no frame is being sent and none is queued (log entry 5). -/
def execFrameTransmitted (line : LineId) (s : State) : Result := .next (s.takeEvent (endTransmission line))

/-- STATION_LINE_BYTE (R85). -/
def execStationLineByte (line : LineId) (byte : Byte) (framingError : Bool) (s : State) : Result :=
  .next (s.takeEvent (receiveByte line byte framingError))

end Sys2Proof.Machine
end

