-- ==== Sys2Proof/Machine/Panels.lean ====
section
/-! DEFINITION. The Panel Table's commands and the clamp edges (file 02): PANEL-ADMIT, -RETIRE, -READ, and the CLAMP test
of R33 and R34. -/

namespace Sys2Proof.Machine

/-! ### Admission (R23 to R26) -/

/-- The panel id a slot carries, if it is OCCUPIED or DOUBTFUL (R24). -/
def Slot.panelId : Slot → Option Word
  | .occupied b => some b.panelId
  | .doubtful b => some b.panelId
  | .empty => none
  | .reserved _ => none
  | .spanned _ => none

/-- The lowest slot of a record that carries a panel id. -/
def Magazine.findId (m : Magazine) (id : Word) : Option Nat :=
  (m.slots.zipIdx.find? (fun si => decide (si.1.panelId = some id))).map Prod.snd

/-- The magazine records the part holds with their location codes, in the search order of R24. -/
def State.magazines (s : State) : List (Nat × Magazine) :=
  bayNumbers.flatMap (fun b =>
    (match s.bays[b].current with | some m => [(b.val, m)] | none => [])
      ++ (match s.bays[b].next with | some m => [(0x10 + b.val, m)] | none => []))
    ++ s.outgoing.zipIdx.map (fun mi => (0x20 + mi.2, mi.1))

/-- Where a panel id is found: the fields of the DUPLICATE answer, live entries first (R24, R194). -/
def State.findId (s : State) (id : Word) : Option (List Byte) :=
  match s.entryOfId id with
  | some e => some (u8 0 ++ u8 e)
  | none => s.magazines.findSome? (fun lm => (lm.2.findId id).map (fun slot => u8 1 ++ u8 lm.1 ++ u8 slot))

/-- The live entries on a fixture. -/
def State.onFixture (s : State) (f : Fin 2) : List (Fin 4) :=
  entries.filter (fun e => match s.panel e with
    | some p => decide (p.fixture = f)
    | none => false)

/-- The store offers a number to PANEL-ADMIT (R17): the committed recipe of a LOADED slot the staging is not open on. -/
def State.offered (s : State) (n : Fin 16) : Option Recipe :=
  if s.staging.number = some n then none else s.slots[n]

/-- The tab record created for a tab of the recipe (R26). -/
def newTab (site : Nat) (ti : RecipeTab × Nat) : TabRecord :=
  { ownerSite := site, index := ti.2, nominal := ti.1.mid, orient := ti.1.orient, width := ti.1.width, seq := ti.1.seq
    release := ti.1.release, corrected := none, state := .intact, lastSpindle := none }

/-- The board record created for a site of the recipe (R26). -/
def newBoard (si : RecipeSite × Nat) : BoardRecord :=
  { site := si.2, variant := si.1.variant, origin := si.1.origin, width := si.1.width, height := si.1.height
    topHeight := si.1.topHeight, pickPoint := none, verdict := .none, remaining := si.1.tabs.length - 1
    state := .awaitMark, reservation := none, notedNoDest := false, notedUnfit := false
    tabs := si.1.tabs.zipIdx.map (newTab si.2) }

/-- The records created at admission (R26). -/
def newBoards (r : Recipe) : List BoardRecord := r.sites.zipIdx.map newBoard

/-- A PANEL-ADMIT that passes every test is taken into an entry (R25). -/
def admitInto (s : State) (e : Fin 4) (id : Word) (n : Fin 16) (f : Fin 2) (r : Recipe) : State × Answer :=
  let st : PanelState := if (s.mounted f).isSome then .queued else .aligning
  let p : Panel :=
    { id := id, recipe := n, fixture := f, state := st, order := s.admitCounter, correction := none
      boards := newBoards r }
  ({ s.setPanel e (some p) with admitCounter := s.admitCounter + 1 },
    .ok (u8 e ++ u8 st.code ++ u8 r.sites.length ++ u16 (tabTotal r.sites)))

/-- The lowest-numbered FREE entry (R25). -/
def State.freeEntry (s : State) : Option (Fin 4) := entries.find? (fun e => (s.panel e).isNone)

/-- PANEL-ADMIT at the Panel Table (R23 to R26). LOCKED is met at the port (R187). -/
def panelAdmit (id : Word) (recipe fixture : Byte) : Command := fun s =>
  match fin? 2 fixture.toNat, fin? 16 recipe.toNat with
  | none, _ => (s, some (.bare .range))
  | some _, none => (s, some (.bare .range))
  | some f, some n =>
    match s.offered n with
    | none => (s, some (.bare .noRecipe))
    | some r =>
      if 2 ≤ (s.onFixture f).length then (s, some (.bare .full))
      else
        match s.findId id with
        | some place => (s, some ⟨.duplicate, place⟩)
        | none =>
          match s.freeEntry with
          | none => (s, some (.bare .full))
          | some e =>
            let (t, a) := admitInto s e id n f r
            (t, some a)

/-! ### Retirement (R28 to R30) -/

/-- The causes a BUSY answer to PANEL-RETIRE carries, in the order R28 lists them (log entry 11). -/
inductive RetireCause where
  | notCleared
  | tabInWork
  | boardInWork
  | verdictHeld
  deriving DecidableEq, Repr

def RetireCause.code : RetireCause → Nat
  | .notCleared => 0
  | .tabInWork => 1
  | .boardInWork => 2
  | .verdictHeld => 3

/-- The Verdict Hold holds a request for a board of an entry. DESIGN CHOICE (log entry 28): a hold left standing by a retired panel
counts for the entry's next panel, whatever its sites. -/
def VerdictHold.onEntry (h : VerdictHold) (e : Fin 4) : Bool :=
  match h with
  | .holding b _ => decide (b.entry = e)
  | .empty => false

/-- The first work in flight on a panel (R28). -/
def State.workInFlight (s : State) (e : Fin 4) : Option RetireCause :=
  if (s.tabsOf e).any (fun ht => decide (ht.2.state = .assigned ∨ ht.2.state = .suspect)) then some .tabInWork
  else if (s.boardsOf e).any (fun b =>
      decide (b.state = .targeted ∨ b.state = .held ∨ b.state = .free ∨ b.state = .suspect)) then some .boardInWork
  else if s.hold.onEntry e then some .verdictHeld
  else none

/-- Why a live panel may not be retired, if so (R28): a CLEARED panel is retired with or without force, with a request held for
one of its boards too. R75 refers that matter to R28, so R28 decides it (file 00, "Rules"). -/
def State.retireBusy (s : State) (e : Fin 4) (p : Panel) (force : Bool) : Option RetireCause :=
  if p.state = .cleared then none
  else if force = false then some .notCleared
  else s.workInFlight e

/-- The queued panel of a fixture becomes the mounted one when none is mounted (R30). -/
def State.advanceQueue (s : State) (f : Fin 2) : State :=
  if (s.mounted f).isSome then s
  else
    match s.onFixture f with
    | [] => s
    | e :: _ =>
      match s.panel e with
      | some p => s.setPanel e (some { p with state := .aligning })
      | none => s

/-- A retirement that is taken: the run is abandoned, the records are discarded, the entry is FREE, the queue advances
(R29, R30, R52). -/
def retire (s : State) (e : Fin 4) (f : Fin 2) : State :=
  ({ s.setPanel e none with runs := s.runs.set e .idle }).advanceQueue f

/-- PANEL-RETIRE at the Panel Table (R28 to R30). -/
def panelRetire (entry force : Byte) : Command := fun s =>
  match fin? 4 entry.toNat with
  | none => (s, some (.bare .range))
  | some e =>
    match s.panel e with
    | none => (s, some (.bare .noPanel))
    | some p =>
      match s.retireBusy e p (flagSet force) with
      | some cause => (s, some ⟨.busy, u8 cause.code⟩)
      | none =>
        let t := retire s e p.fixture
        (t, some (.ok (u8 e ++ opt8 ((t.mounted p.fixture).map Fin.val))))

/-! ### Reading (R31) -/

/-- The other live entry on a panel's fixture. -/
def State.otherOnFixture (s : State) (e : Fin 4) (f : Fin 2) : Option (Fin 4) :=
  (s.onFixture f).find? (fun x => decide (x ≠ e))

/-- The fields of PANEL-READ's answer for a LIVE entry (R31). -/
def panelFields (s : State) (e : Fin 4) (p : Panel) : List Byte :=
  u32 p.id.toNat ++ u8 p.recipe ++ u8 p.fixture ++ u8 p.state.code
    ++ u8 (if p.state = .queued then 1 else 0) ++ opt8 ((s.otherOnFixture e p.fixture).map Fin.val)
    ++ optWide 4 s32 (p.correction.map (·.c)) ++ optWide 4 s32 (p.correction.map (·.s))
    ++ optWide 6 pointBytes (p.correction.map (·.f1m))
    ++ u8 p.boards.length ++ u16 (s.tabsOf e).length
    ++ BoardState.all.flatMap (fun st => u16 (p.boards.filter (fun b => decide (b.state = st))).length)
    ++ TabState.all.flatMap (fun st => u16 ((s.tabsOf e).filter (fun ht => decide (ht.2.state = st))).length)
    ++ flag (s.clampLevel p.fixture)

/-- PANEL-READ at the Panel Table (R31). -/
def panelRead (entry : Byte) : Command := fun s =>
  match fin? 4 entry.toNat with
  | none => (s, some (.bare .range))
  | some e =>
    match s.panel e with
    | none => (s, some (.ok (u8 freePanelCode)))
    | some p => (s, some (.ok (panelFields s e p)))

/-! ### Clamp edges (R32 to R34) -/

/-- The ASSIGNED tab of an entry with the lowest (site, tab), with its spindle (R34). -/
def State.firstAssigned (s : State) (e : Fin 4) : Option (TabHandle × TabRecord) :=
  (s.tabsOf e).find? (fun ht => decide (ht.2.state = .assigned))

/-- The board of an entry in TARGETED, HELD or FREE (R33, R34). -/
def State.firstHandled (s : State) (e : Fin 4) : Option BoardRecord :=
  (s.boardsOf e).find? (fun b => decide (b.state = .targeted ∨ b.state = .held ∨ b.state = .free))

/-- The CLAMP fault's context for a mounted entry with work given out (R34); none when it has none of the conditions of
R33. -/
def State.clampContext (s : State) (e : Fin 4) : Option Context :=
  let base (station : Option LineId) (site : Nat) (tab : Option Nat) : Context :=
    { cls := .clamp, cause := .openedUnderWork, station := station, bay := none, entry := some e, panelId := s.panelId e,
      site := some site, tab := tab, recoverable := true }
  match s.firstAssigned e with
  | some (h, t) => some (base (t.lastSpindle.map stationOf) h.site (some h.tab))
  | none => (s.firstHandled e).map (fun b => base (some .gripper) b.site none)

/-- A falling clamp edge: fault CLAMP when the mounted panel has work given out, notice CLAMP-OPEN otherwise (R33). -/
def State.clampFalls (s : State) (f : Fin 2) : State :=
  match (s.mounted f).bind s.clampContext with
  | some c => s.reportFault c
  | none => s.raise .clampOpen

/-! ### The commands -/

/-- PANEL_ADMIT (R23). -/
def execPanelAdmit (panelId : Word) (recipe fixture : Byte) (s : State) : Result :=
  .next (s.takeCommand .panelAdmit (panelAdmit panelId recipe fixture))

/-- PANEL_RETIRE (R28). -/
def execPanelRetire (entry force : Byte) (s : State) : Result := .next (s.takeCommand .panelRetire (panelRetire entry force))

/-- PANEL_READ (R31). -/
def execPanelRead (entry : Byte) (s : State) : Result := .next (s.takeCommand .panelRead (panelRead entry))

end Sys2Proof.Machine
end

