-- ==== Sys2Proof/Machine/Recipes.lean ====
section
/-! DEFINITION. The Recipe Store's commands (file 01): RECIPE-BEGIN, -SITE, -ZONE, -END, the end of validation, -DROP,
-READ (R1 to R19). -/

namespace Sys2Proof.Machine

/-! ### Loading (R7 to R10) -/

/-- RECIPE-BEGIN's payload length for a packing (R194). -/
def beginLength (p : Packing) : Nat := 7 + 2 * p.width

/-- A staged recipe with nothing received (R7). -/
def StagedRecipe.fresh (h : RecipeHeader) : StagedRecipe :=
  ⟨h, List.replicate h.siteCount none, Vector.replicate 8 none⟩

/-- The header a BEGIN payload carries, expanded (R6, R7): for W16 and S24 the grid pitch is stored as 0. -/
def headerOf (packing : Packing) (xout : XoutMode) (payload : List Byte) : RecipeHeader :=
  let pitch := if packing = .p12 then byteAt payload 2 else 0
  { packing := packing, pitch := pitch, siteCount := byteAt payload 3
    f1 := pairAt packing pitch payload 4
    f2 := pairAt packing pitch payload (4 + packing.width)
    thickness := sizeAt payload (4 + 2 * packing.width)
    xout := xout }

/-- The tests of R7 after the packing is known, in order; what passes is the number and the header. -/
def beginTests (s : State) (packing : Packing) (payload : List Byte) : Except HostCode (Fin 16 × RecipeHeader) :=
  if payload.length ≠ beginLength packing then .error .length
  else
    match fin? 16 (byteAt payload 0) with
    | none => .error .range
    | some number =>
      if packing = .p12 ∧ byteAt payload 2 = 0 then .error .range
      else if byteAt payload 3 = 0 ∨ 64 < byteAt payload 3 then .error .range
      else
        match xoutModeOf (byteAt payload (6 + 2 * packing.width)) with
        | none => .error .range
        | some xout => if s.inUse number ≠ 0 then .error .inUse else .ok (number, headerOf packing xout payload)

/-- RECIPE-BEGIN at the Recipe Store (R7, R8). A payload too short to hold a packing code holds none of the three: RANGE
(log entry 8). -/
def recipeBegin (payload : List Byte) : Command := fun s =>
  match (payload[1]?).bind (fun b => packingOf b.toNat) with
  | none => (s, some (.bare .range))
  | some packing =>
    match beginTests s packing payload with
    | .error code => (s, some (.bare code))
    | .ok (number, header) =>
      ({ s with staging := .opened number (StagedRecipe.fresh header) }, some (.ok (u8 number)))

/-- RECIPE-SITE's payload length for a packing and a tab count (R194). -/
def siteLength (p : Packing) (tabs : Nat) : Nat := 9 + p.width + tabs * (5 + p.width)

/-- One tab of a SITE payload (R194), or none for an orientation code that is not H or V. -/
def tabAt (h : RecipeHeader) (payload : List Byte) (i : Nat) : Option RecipeTab :=
  let p := h.packing.width
  let at_ := 9 + p + i * (5 + p)
  (orientationOf (byteAt payload (at_ + p))).map (fun orient =>
    { mid := pairAt h.packing h.pitch payload at_, orient := orient, width := sizeAt payload (at_ + p + 1)
      seq := byteAt payload (at_ + p + 3), release := decide (byteAt payload (at_ + p + 4) ≠ 0) })

/-- The tab list of a SITE payload in the order of the frame; none when an orientation code is bad (R9). -/
def tabsAt (h : RecipeHeader) (payload : List Byte) (n : Nat) : Option (List RecipeTab) :=
  (List.range n).mapM (tabAt h payload)

/-- The tests of R9 with the staging open, in order; what passes is the site index and the entry. -/
def siteTests (r : StagedRecipe) (payload : List Byte) : Except HostCode (Nat × RecipeSite) :=
  let p := r.header.packing.width
  match payload[8 + p]? with
  | none => .error .length
  | some count =>
    if 8 < count.toNat then .error .range
    else if payload.length ≠ siteLength r.header.packing count.toNat then .error .length
    else if r.header.siteCount ≤ byteAt payload 0 then .error .range
    else if 15 < byteAt payload 1 then .error .range
    else
      match tabsAt r.header payload count.toNat with
      | none => .error .range
      | some tabs =>
        .ok (byteAt payload 0,
          { variant := byteAt payload 1, origin := pairAt r.header.packing r.header.pitch payload 2
            width := sizeAt payload (2 + p), height := sizeAt payload (4 + p), topHeight := sizeAt payload (6 + p)
            tabs := tabs })

/-- RECIPE-SITE at the Recipe Store (R9). -/
def recipeSite (payload : List Byte) : Command := fun s =>
  match s.staging with
  | .opened number r =>
    match siteTests r payload with
    | .error code => (s, some (.bare code))
    | .ok (index, entry) =>
      let r' := { r with sites := r.sites.set index (some entry) }
      ({ s with staging := .opened number r' }, some (.ok (u8 index ++ u16 r'.sitesReceived)))
  | .closed => (s, some (.bare .notOpen))
  | .validating _ _ => (s, some (.bare .notOpen))

/-- RECIPE-ZONE's payload length for a packing (R194). -/
def zoneLength (p : Packing) : Nat := 1 + 2 * p.width

/-- RECIPE-ZONE at the Recipe Store (R10). -/
def recipeZone (payload : List Byte) : Command := fun s =>
  match s.staging with
  | .opened number r =>
    let packing := r.header.packing
    if payload.length ≠ zoneLength packing then (s, some (.bare .length))
    else
      match fin? 8 (byteAt payload 0) with
      | none => (s, some (.bare .range))
      | some index =>
        let rect : Rect := ⟨pairAt packing r.header.pitch payload 1, pairAt packing r.header.pitch payload (1 + packing.width)⟩
        let r' := { r with zones := r.zones.set index (some rect) }
        ({ s with staging := .opened number r' }, some (.ok (u8 index ++ u16 (zoneCount r'.zones))))
  | .closed => (s, some (.bare .notOpen))
  | .validating _ _ => (s, some (.bare .notOpen))

/-- RECIPE-END at the Recipe Store: validation begins, and no answer is formed yet (R11). -/
def recipeEnd : Command := fun s =>
  match s.staging with
  | .opened number r => ({ s with staging := .validating number r }, none)
  | .closed => (s, some (.bare .notOpen))
  | .validating _ _ => (s, some (.bare .notOpen))

/-! ### Validation (R12 to R14) -/

/-- The fifteen checks of R12, in table order. -/
inductive Check where
  | missingSite | tabCount | release | tabTotal | sequence | thickness | fiducial | fidSpacing | origin | outline
  | topHeight | midpoint | width | zoneCorner | zoneOrder
  deriving DecidableEq, Repr

/-- INVALID check codes: MISSING-SITE 0 to ZONE-ORDER 14 (R194). -/
def Check.code : Check → Nat
  | .missingSite => 0
  | .tabCount => 1
  | .release => 2
  | .tabTotal => 3
  | .sequence => 4
  | .thickness => 5
  | .fiducial => 6
  | .fidSpacing => 7
  | .origin => 8
  | .outline => 9
  | .topHeight => 10
  | .midpoint => 11
  | .width => 12
  | .zoneCorner => 13
  | .zoneOrder => 14

/-- A failed validation: the check and the indices it reports (R12, R14). -/
structure Failure where
  check : Check
  site : Option Nat
  tab : Option Nat
  zone : Option Nat
  fiducial : Option Nat
  deriving DecidableEq, Repr

/-- A failure that reports no index. -/
def Failure.plain (c : Check) : Failure := ⟨c, none, none, none, none⟩

/-- A failure that reports a site. -/
def Failure.ofSite (c : Check) (site : Nat) : Failure := ⟨c, some site, none, none, none⟩

/-- A failure that reports a site and a tab. -/
def Failure.ofTab (c : Check) (site tab : Nat) : Failure := ⟨c, some site, some tab, none, none⟩

/-- A failure that reports a zone. -/
def Failure.ofZone (c : Check) (zone : Nat) : Failure := ⟨c, none, none, some zone, none⟩

/-- The sites with their indices, ascending. -/
def indexedSites (sites : List RecipeSite) : List (Nat × RecipeSite) := sites.zipIdx.map (fun si => (si.2, si.1))

/-- Every tab with its site and tab index, in scan order (R12). -/
def indexedTabs (sites : List RecipeSite) : List (Nat × Nat × RecipeTab) :=
  sites.zipIdx.flatMap (fun si => si.1.tabs.zipIdx.map (fun ti => (si.2, ti.2, ti.1)))

/-- The zones present with their indices, ascending. -/
def indexedZones (zones : Vector (Option Rect) 8) : List (Nat × Rect) :=
  zones.toList.zipIdx.filterMap (fun zi => zi.1.map (fun r => (zi.2, r)))

/-- Check 3 on one site: it fails with no release tab, or with a second one, which it reports. -/
def releaseFailure (site : Nat) (x : RecipeSite) : Option Failure :=
  match (x.tabs.zipIdx.filter (fun ti => ti.1.release)).map Prod.snd with
  | [] => some (Failure.ofSite .release site)
  | [_] => none
  | _ :: second :: _ => some (Failure.ofTab .release site second)

/-- Check 5: the first tab in scan order whose cut sequence equals that of an earlier one. -/
def sequenceFailure (seen : List Nat) : List (Nat × Nat × RecipeTab) → Option Failure
  | [] => none
  | (site, tab, t) :: rest =>
    if t.seq ∈ seen then some (Failure.ofTab .sequence site tab) else sequenceFailure (t.seq :: seen) rest

/-- The squared fiducial spacing (R12, check 8). -/
def fiducialSpacing (h : RecipeHeader) : Int :=
  (h.f2.x - h.f1.x) * (h.f2.x - h.f1.x) + (h.f2.y - h.f1.y) * (h.f2.y - h.f1.y)

/-- Checks 2 to 15 of R12 on a recipe whose sites are all present, in table order; the first failure, or none. -/
def recipeFailure (h : RecipeHeader) (sites : List RecipeSite) (zones : Vector (Option Rect) 8) : Option Failure :=
  (((indexedSites sites).find? (fun x => x.2.tabs.isEmpty)).map (fun x => Failure.ofSite .tabCount x.1))
  <|> ((indexedSites sites).findSome? (fun x => releaseFailure x.1 x.2))
  <|> (if Config.maxTabs < tabTotal sites then some (Failure.plain .tabTotal) else none)
  <|> (sequenceFailure [] (indexedTabs sites))
  <|> (if h.thickness < 400 ∨ 3200 < h.thickness then some (Failure.plain .thickness) else none)
  <|> (if inEnvelope h.f1 = false then some ⟨.fiducial, none, none, none, some 1⟩
       else if inEnvelope h.f2 = false then some ⟨.fiducial, none, none, none, some 2⟩ else none)
  <|> (if fiducialSpacing h < Config.minSpacing then some (Failure.plain .fidSpacing) else none)
  <|> (((indexedSites sites).find? (fun x => !inEnvelope x.2.origin)).map (fun x => Failure.ofSite .origin x.1))
  <|> (((indexedSites sites).find? (fun x => decide (x.2.width = 0 ∨ x.2.height = 0))).map
        (fun x => Failure.ofSite .outline x.1))
  <|> (((indexedSites sites).find? (fun x => decide (25000 < x.2.topHeight))).map
        (fun x => Failure.ofSite .topHeight x.1))
  <|> (((indexedTabs sites).find? (fun x => !inEnvelope x.2.2.mid)).map (fun x => Failure.ofTab .midpoint x.1 x.2.1))
  <|> (((indexedTabs sites).find? (fun x => decide (x.2.2.width < 500 ∨ 5000 < x.2.2.width))).map
        (fun x => Failure.ofTab .width x.1 x.2.1))
  <|> (((indexedZones zones).find? (fun x => !inEnvelope x.2.low || !inEnvelope x.2.high)).map
        (fun x => Failure.ofZone .zoneCorner x.1))
  <|> (((indexedZones zones).find? (fun x => decide (x.2.high.x < x.2.low.x ∨ x.2.high.y < x.2.low.y))).map
        (fun x => Failure.ofZone .zoneOrder x.1))

/-- Validation of a staged recipe: the committed recipe, or the first failure (R12). -/
def validate (r : StagedRecipe) : Except Failure Recipe :=
  match (r.sites.zipIdx.find? (fun si => si.1.isNone)).map Prod.snd with
  | some site => .error (Failure.ofSite .missingSite site)
  | none =>
    let sites := r.sites.filterMap id
    match recipeFailure r.header sites r.zones with
    | some f => .error f
    | none => .ok ⟨r.header, sites, r.zones⟩

/-- The fields of the INVALID answer (R14). The spec gives the fiducial number no width: the model sends one byte (PRESUMED, log
entry 9). -/
def failureFields (f : Failure) : List Byte :=
  u8 f.check.code ++ opt8 f.site ++ opt8 f.tab ++ opt8 f.zone ++ opt8 f.fiducial

/-- The end of validation: commit (R13) or failure (R14); the answer is placed and BSY falls (R11). -/
def endValidation (s : State) : State :=
  match s.staging with
  | .validating number r =>
    match validate r with
    | .ok recipe =>
      ({ s with slots := s.slots.set number (some recipe), staging := .closed }).placeAnswer CommandName.recipeEnd.byte
        (.ok (u8 number ++ u8 recipe.header.siteCount ++ u16 (tabTotal recipe.sites) ++ u16 (zoneCount recipe.zones)))
    | .error f =>
      ({ s with staging := .closed }).placeAnswer CommandName.recipeEnd.byte ⟨.invalid, failureFields f⟩
  | .closed => s
  | .opened _ _ => s

/-! ### Dropping and reading (R15, R16) -/

/-- RECIPE-DROP at the Recipe Store (R15). -/
def recipeDrop (number : Byte) : Command := fun s =>
  match fin? 16 number.toNat with
  | none => (s, some (.bare .range))
  | some n =>
    if s.inUse n ≠ 0 then (s, some (.bare .inUse))
    else ({ s with slots := s.slots.set n none }, some (.ok []))

/-- The header and counts of RECIPE-READ's answer; they read zero for an EMPTY slot (R16). -/
def headerFields (r : Option Recipe) : List Byte :=
  match r with
  | some r =>
    u8 r.header.packing.code ++ u8 r.header.pitch ++ u8 r.header.siteCount ++ u16 (tabTotal r.sites)
      ++ u16 (zoneCount r.zones) ++ pointBytes r.header.f1 ++ pointBytes r.header.f2 ++ u24 r.header.thickness
      ++ u8 r.header.xout.code
  | none => List.replicate 23 0

/-- The staging mark: OPEN on this number, and the counts received so far (R16; absent fields: log entry 10). -/
def stagingFields (st : Staging) (n : Fin 16) : List Byte :=
  let received : Option StagedRecipe :=
    match st with
    | .opened m r => if m = n then some r else none
    | .closed => none
    | .validating _ _ => none
  flag received.isSome ++ optWide 2 u16 (received.map (·.sitesReceived))
    ++ optWide 2 u16 (received.map (fun r => zoneCount r.zones))

/-- RECIPE-READ at the Recipe Store (R16). -/
def recipeRead (number : Byte) : Command := fun s =>
  match fin? 16 number.toNat with
  | none => (s, some (.bare .range))
  | some n =>
    let slot := s.slots[n]
    (s, some (.ok (u8 n ++ u8 (if slot.isSome then 1 else 0) ++ headerFields slot ++ u16 (s.inUse n)
      ++ stagingFields s.staging n)))

/-! ### The commands -/

/-- RECIPE_BEGIN (R7). -/
def execRecipeBegin (payload : List Byte) (s : State) : Result := .next (s.takeCommand .recipeBegin (recipeBegin payload))

/-- RECIPE_SITE (R9). -/
def execRecipeSite (payload : List Byte) (s : State) : Result := .next (s.takeCommand .recipeSite (recipeSite payload))

/-- RECIPE_ZONE (R10). -/
def execRecipeZone (payload : List Byte) (s : State) : Result := .next (s.takeCommand .recipeZone (recipeZone payload))

/-- RECIPE_END (R11). -/
def execRecipeEnd (s : State) : Result := .next (s.takeCommand .recipeEnd recipeEnd)

/-- VALIDATION_END (R12, R13, R14); no effect while no validation runs (log entry 5). -/
def execValidationEnd (s : State) : Result := .next (s.takeEvent endValidation)

/-- RECIPE_DROP (R15). -/
def execRecipeDrop (number : Byte) (s : State) : Result := .next (s.takeCommand .recipeDrop (recipeDrop number))

/-- RECIPE_READ (R16). -/
def execRecipeRead (number : Byte) (s : State) : Result := .next (s.takeCommand .recipeRead (recipeRead number))

end Sys2Proof.Machine
end

