-- ==== Sys2Proof/Machine/Restart.lean ====
section
/-! DEFINITION. The restarts (file 10): the warm changes of every block in one event (R184 with R19, R36, R53, R82, R94,
R120, R140, R162, R167), the cold values (R185), RESET and power-on. -/

namespace Sys2Proof.Machine

/-! ### Warm restart, block by block -/

/-- A tab after a warm restart: ASSIGNED becomes SUSPECT (R82). -/
def TabRecord.warm (t : TabRecord) : TabRecord := if t.state = .assigned then { t with state := .suspect } else t

/-- A tab of an abandoned run: BLOCKED is undone, the corrected midpoint is cleared (R53). -/
def TabRecord.abandon (left : Bool) (t : TabRecord) : TabRecord :=
  { t with
    corrected := none
    state := if t.state = .blocked then (if left then .skipped else .intact) else t.state }

/-- The state of a board after a warm restart (R82, R140). -/
def BoardState.warm : BoardState → BoardState
  | .targeted => .ready
  | .held => .suspect
  | .free => .suspect
  | .awaitMark => .awaitMark
  | .unsure => .unsure
  | .cutting => .cutting
  | .ready => .ready
  | .suspect => .suspect
  | .placed => .placed
  | .xoutLeft => .xoutLeft
  | .stranded => .stranded
  | .lost => .lost

/-- A board after a warm restart (R82). -/
def BoardRecord.warm (b : BoardRecord) : BoardRecord :=
  { b with state := b.state.warm, tabs := b.tabs.map TabRecord.warm }

/-- A board of an abandoned run (R53). -/
def BoardRecord.abandon (b : BoardRecord) : BoardRecord :=
  { b with pickPoint := none, tabs := b.tabs.map (TabRecord.abandon (decide (b.state = .xoutLeft))) }

/-- A panel after a warm restart (R36, R53, R82). -/
def Panel.warm (p : Panel) : Panel :=
  if p.state = .correcting then
    { p with state := .aligning, correction := none, boards := p.boards.map (fun b => b.warm.abandon) }
  else { p with boards := p.boards.map BoardRecord.warm }

/-- The TARGETED boards. -/
def State.targetedBoards (s : State) : List BoardHandle :=
  (s.allBoards.filter (fun hb => decide (hb.2.state = .targeted))).map Prod.fst

/-- The reservation of every TARGETED board is cancelled (R140, R162). -/
def State.cancelTargeted (s : State) : State := s.targetedBoards.foldl State.cancelReservation s

/-- The head slot a board holds reserved in a bay, if any (R162). -/
def State.reservedHead (s : State) (b : Fin 4) : Option Nat :=
  s.allBoards.findSome? (fun hb => match hb.2.reservation with
    | some r => if r.bay = b then some r.slot else none
    | none => none)

/-- A bay after a warm restart, given its state before it and the head slot a board still holds reserved in it (R162). -/
def Bay.warm (before : BayState) (head : Option Nat) (b : Bay) : Bay :=
  let b' : Bay := { b with action := none, actionTimer := none, settleTimer := none }
  match before with
  | .indexWanted | .indexing | .settling | .atSlot =>
    match head with
    | some h => { b' with state := .indexWanted, target := some h }
    | none => { b' with state := .active, target := none }
  | .exchanging => { b' with state := .faulted }
  | .empty | .active | .full | .faulted => b'

/-- The bays in a warm restart: the reservations of TARGETED boards are cancelled, then every bay is decided (R162). -/
def State.warmBays (s : State) : State :=
  let c := s.cancelTargeted
  bayNumbers.foldl (fun t b => t.setBay b (t.bays[b].warm s.bays[b].state (c.reservedHead b))) c

/-- The panels and the runs after a warm restart (R36, R53, R82). -/
def State.warmPanels (s : State) : State :=
  { s with panels := mapVec (Option.map Panel.warm) s.panels, runs := Vector.replicate 4 .idle, hold := .empty }

/-- A line after a restart: the frame in transmission alone stays (R94, R95). -/
def Line.restarted (l : Line) : Line := { Line.cold with tx := l.tx }

/-- A spindle record after a warm restart (R120). -/
def SpindleRecord.warm (r : SpindleRecord) : SpindleRecord :=
  { r with current := none, watchdog := none, state := if r.state = .stalled then .ready else r.state }

/-- Every notice flag clear, every enable set (R191). -/
def NoticeUnit.cold : NoticeUnit := ⟨0, BitVec.allOnes 26, BitVec.allOnes 5⟩

/-- A warm restart: one event in every block (R184). -/
def warmRestart (s : State) : State :=
  let s1 := s.warmBays.warmPanels
  { s1 with
    staging := .closed
    lines := mapVec Line.restarted s1.lines
    spindleA := s1.spindleA.warm
    spindleB := s1.spindleB.warm
    gripper := ⟨.ready, none, none⟩
    causes := ⟨false, s1.guardLevel, true⟩
    fault := { s1.fault with armed := true, pendingSet := 0, locked := false }
    notices := NoticeUnit.cold }

/-! ### Cold restart (R185) -/

/-- Every block takes its cold values; what is no block's state stays: the pins, the RESET input, and the model's own queue
and counter. -/
def coldValues (s : State) : State :=
  { State.reset with pins := s.pins, resetAsserted := s.resetAsserted, choice := s.choice, pending := s.pending }

/-- RESTART COLD lets a frame in transmission finish (R95). -/
def coldRestart (s : State) : State := { coldValues s with lines := mapVec Line.restarted s.lines }

/-! ### RESTART (R183) -/

/-- The recoverable flag of a context record; an empty record counts as recoverable (R175). -/
def recoverable (r : Option Context) : Bool :=
  match r with
  | some c => c.recoverable
  | none => true

/-- RESTART WARM (R183, R184). -/
def restartWarm : Command := fun s =>
  if s.fault.locked = true ∧ ¬(recoverable s.fault.primary = true ∧ recoverable s.fault.lockdownRec = true) then
    (s, some ⟨.notRecoverable, flag (recoverable s.fault.primary) ++ flag (recoverable s.fault.lockdownRec)⟩)
  else (warmRestart s, some (.ok []))

/-- RESTART COLD (R183, R185). -/
def restartCold : Command := fun s => (coldRestart s, some (.ok []))

/-- RESTART by its form byte (R183, R194). -/
def restart (form : Byte) : Command := fun s =>
  if form = 0 then restartWarm s
  else if form = 1 then restartCold s
  else (s, some (.bare .range))

/-! ### RESET and power-on (R11, R95, R185; log entry 15) -/

/-- RESET is asserted: a validation and the frames in transmission end without their answers (R11, R95, R185). -/
def assertReset (s : State) : State :=
  { s with
    resetAsserted := true
    busy := false
    staging := match s.staging with
      | .validating _ _ => .closed
      | .opened n r => .opened n r
      | .closed => .closed
    lines := mapVec (fun l : Line => { l with tx := none }) s.lines }

/-! ### The commands -/

/-- RESTART_WARM (R183, R184). -/
def execRestartWarm (s : State) : Result := .next (s.takeCommand .restart restartWarm)

/-- RESTART_COLD (R183, R185). -/
def execRestartCold (s : State) : Result := .next (s.takeCommand .restart restartCold)

/-- RESET_ASSERT (R185). -/
def execResetAssert (s : State) : Result := .next (assertReset s)

/-- RESET_RELEASE: the cold values are taken (R166, R185). -/
def execResetRelease (s : State) : Result := .next { coldValues s with resetAsserted := false }

/-- POWER_ON: the cold values are taken (R185). -/
def execPowerOn (s : State) : Result := .next (coldValues s)

end Sys2Proof.Machine
end

