-- ==== Sys2Proof/Machine/Sensors.lean ====
section
/-! DEFINITION. The Input Filter and Pause Control (file 09): SAMPLE with its edges, PAUSE, RESUME (R163 to R173), and the
free order of things that one sample or one tick brings about. -/

namespace Sys2Proof.Machine

/-! ### A free order (log entry 3) -/

/-- An element put at a place of a list. -/
def putAt {α : Type} (i : Nat) (a : α) (l : List α) : List α := l.take i ++ a :: l.drop i

/-- A list in an order that `order` gives from draw `k` on; a list of fewer than two needs no draw. -/
def shuffle {α : Type} (order : Nat → Nat) (k : Nat) : List α → List α
  | [] => []
  | [a] => [a]
  | a :: b :: rest => putAt (order k % (rest.length + 2)) a (shuffle order (k + 1) (b :: rest))

/-- The draws a shuffle of a list makes. -/
def draws {α : Type} (l : List α) : Nat := l.length - 1

/-! ### Sampling (R163, R164) -/

/-- The seven inputs: GUARD 0, CLAMP0 1, CLAMP1 2, BAYSNS0 to BAYSNS3 3 to 6 (R163). -/
def inputs : List (Fin 7) := [0, 1, 2, 3, 4, 5, 6]

/-- The samples in a row that a raw level needs (R164). -/
def countFor (c : Settings) (raw : Bool) : Nat := if raw then c.riseCount else c.fallCount

/-- One input's sample: its filter record after it (R164). -/
def FilterRecord.sample (c : Settings) (raw : Bool) (f : FilterRecord) : FilterRecord :=
  if raw = f.level then ⟨f.level, 0⟩
  else if countFor c raw ≤ f.run + 1 then ⟨raw, 0⟩
  else ⟨f.level, f.run + 1⟩

/-- The filter records after a sample of the raw levels (R164). -/
def sampleAll (c : Settings) (raw : BitVec 7) (v : Vector FilterRecord 7) : Vector FilterRecord 7 :=
  ⟨(v.toList.zipIdx.map (fun fi => fi.1.sample c (raw.getLsbD fi.2))).toArray, by simp⟩

/-- The inputs whose filtered level changed, in input order (R164). -/
def edges (before after : Vector FilterRecord 7) : List (Fin 7) :=
  inputs.filter (fun i => decide (before[i].level ≠ after[i].level))

/-- A GUARD edge at Pause Control (R167). -/
def State.guardEdge (s : State) (opened : Bool) : State := { s with causes := { s.causes with guardOpen := opened } }

/-- A bay sensor edge at the Bay Manager: a rising edge confirms an OPEN window; a falling edge has no effect (R147). -/
def State.sensorEdge (s : State) (b : Fin 4) (present : Bool) : State :=
  if present = true ∧ s.bayConfirming b = true then s.confirmPlacement b else s

/-- A clamp edge at the Panel Table: a falling edge is tested by R33, a rising edge changes no record (R32). -/
def State.clampEdge (s : State) (f : Fin 2) (closed : Bool) : State := if closed then s else s.clampFalls f

/-- An edge handed to its block (R163, R164). -/
def State.takeEdge (s : State) (i : Fin 7) (level : Bool) : State :=
  match i with
  | 0 => s.guardEdge level
  | 1 => s.clampEdge 0 level
  | 2 => s.clampEdge 1 level
  | 3 => s.sensorEdge 0 level
  | 4 => s.sensorEdge 1 level
  | 5 => s.sensorEdge 2 level
  | 6 => s.sensorEdge 3 level

/-- The edges of one sample are handed on one after the other (R164). -/
def State.takeEdges (s : State) (after : Vector FilterRecord 7) : List (Fin 7) → State
  | [] => s
  | i :: rest => (s.takeEdge i after[i].level).takeEdges after rest

/-- All seven inputs are sampled in one event (R164). -/
def sampleInputs (s : State) : State :=
  let after := sampleAll s.settings s.pins s.filters
  let found := edges s.filters after
  let s1 := { s with filters := after, sampleClock := 0, sampleDue := false, choice := s.choice + draws found }
  s1.takeEdges after (shuffle Config.order s.choice found)

/-- The pins stand at the raw levels; they are sampled when a tick has found the sample due (R164, R165, log entries 4
and 30). -/
def samplePins (raw : BitVec 7) (s : State) : State :=
  let s1 := { s with pins := raw }
  if s1.sampleDue then sampleInputs s1 else s1

/-! ### PAUSE and RESUME (R167, R168) -/

/-- The fields of the answer to PAUSE and RESUME (R168, log entry 12). -/
def pauseFields (s : State) : List Byte :=
  flag s.causes.host ++ flag s.causes.guardOpen ++ flag s.causes.restart ++ u8 s.pauseState.code
    ++ flag (!s.assignedTabs.isEmpty) ++ flag (!s.movingBoards.isEmpty)
    ++ flag (bayNumbers.any s.bayMoving) ++ flag (bayNumbers.any s.bayConfirming)
    ++ u16 s.assignedTabs.length ++ optBoardHandle s.movingBoards.head?
    ++ bayNumbers.flatMap (fun b => flag (s.bayMoving b)) ++ bayNumbers.flatMap (fun b => flag (s.bayConfirming b))
    ++ s.filters.toList.flatMap (fun f => flag f.level)

/-- PAUSE at Pause Control (R168). -/
def pauseCommand : Command := fun s =>
  let t := { s with causes := { s.causes with host := true } }
  (t, some (.ok (pauseFields t)))

/-- RESUME at Pause Control (R168). -/
def resumeCommand : Command := fun s =>
  let t := { s with causes := { s.causes with host := false, restart := false } }
  (t, some (.ok (pauseFields t)))

/-! ### The commands -/

/-- SAMPLE (R164). -/
def execSample (raw : BitVec 7) (s : State) : Result := .next (s.takeEvent (samplePins raw))

/-- PAUSE (R168). -/
def execPause (s : State) : Result := .next (s.takeCommand .pause pauseCommand)

/-- RESUME (R168). -/
def execResume (s : State) : Result := .next (s.takeCommand .resume resumeCommand)

end Sys2Proof.Machine
end

