-- ==== Sys2Proof/Machine/Port.lean ====
section
/-! DEFINITION. The command port (file 11): settings (R190), notices (R191, R192), the command frame given byte for byte
(R186, R187), the fetch form of the answer buffer (R194). The port byte by byte stands in Transactions.lean. -/

namespace Sys2Proof.Machine

/-! ### Settings (R190) -/

/-- The range of items 0 to 13 (R190). -/
def itemRange (item : Fin 14) : Nat × Nat :=
  match item with
  | 0 => (100, 30000)
  | 1 => (0, 1)
  | 2 => (20000, 200000)
  | 3 => (50, 20000)
  | 4 => (0, 4)
  | 5 => (0, 2)
  | 6 => (0, 3)
  | 7 => (50, 20000)
  | 8 => (0, 500)
  | 9 => (100, 60000)
  | 10 => (0, 2000)
  | 11 => (1, 16)
  | 12 => (1, 16)
  | 13 => (1, 16)

/-- The pick priority mode a value names (R190). -/
def pickModeOf (v : Nat) : PickMode := if v = 0 then .fixed else if v = 1 then .rotating else .preferred

/-- A setting written with a value of its range (R190). -/
def Settings.write (c : Settings) (item : Fin 14) (v : Nat) : Settings :=
  match item with
  | 0 => { c with holdTime := v }
  | 1 => { c with defaultVerdict := if v = 0 then .xout else .good }
  | 2 => { c with clearance := v }
  | 3 => { c with spindleTimeout := v }
  | 4 => { c with rejectBay := fin? 4 v }
  | 5 => { c with pickMode := pickModeOf v }
  | 6 => { c with preferredBay := Fin.ofNat 4 v }
  | 7 => { c with gripperTimeout := v }
  | 8 => { c with settleTime := v }
  | 9 => { c with actionTimeout := v }
  | 10 => { c with confirmTime := v }
  | 11 => { c with sampleInterval := v }
  | 12 => { c with riseCount := v }
  | 13 => { c with fallCount := v }

/-- A setting's present value (R190). -/
def Settings.read (c : Settings) (item : Fin 14) : Nat :=
  match item with
  | 0 => c.holdTime
  | 1 => if c.defaultVerdict = .good then 1 else 0
  | 2 => c.clearance
  | 3 => c.spindleTimeout
  | 4 => c.rejectBay.elim 4 Fin.val
  | 5 => c.pickMode.code
  | 6 => c.preferredBay
  | 7 => c.gripperTimeout
  | 8 => c.settleTime
  | 9 => c.actionTimeout
  | 10 => c.confirmTime
  | 11 => c.sampleInterval
  | 12 => c.riseCount
  | 13 => c.fallCount

/-- The value taken for an item: clamped to its range (R190). -/
def valueTaken (item : Fin 14) (v : Nat) : Nat := clampTo (itemRange item).1 (itemRange item).2 v

/-- The OK answer of both commands: the item and its value (R190). -/
def configAnswer (item : Byte) (v : Nat) : Answer := .ok (u8 item.toNat ++ u32 v)

/-- New settings take effect at once; with a changed sample interval the next sample waits for a tick to find it due (R165). -/
def State.configure (s : State) (c : Settings) : State :=
  { s with settings := c, sampleDue := s.sampleDue && decide (c.sampleInterval = s.settings.sampleInterval) }

/-- CONFIG-SET: items 0 to 13 are clamped, item 14 takes the low seven bits, any other item is RANGE (R190). -/
def configSet (item : Byte) (value : Word) : Command := fun s =>
  match fin? 14 item.toNat with
  | some i =>
    let v := valueTaken i value.toNat
    (s.configure (s.settings.write i v), some (configAnswer item v))
  | none =>
    if item = 14 then
      let enables : BitVec 7 := BitVec.ofNat 7 value.toNat
      ({ s with fault := { s.fault with enables := enables } }, some (configAnswer item enables.toNat))
    else (s, some (.bare .range))

/-- CONFIG-READ (R190). -/
def configRead (item : Byte) : Command := fun s =>
  match fin? 14 item.toNat with
  | some i => (s, some (configAnswer item (s.settings.read i)))
  | none =>
    if item = 14 then (s, some (configAnswer item s.fault.enables.toNat)) else (s, some (.bare .range))

/-! ### Notices (R192) -/

/-- The six actions of NOTICE-WRITE (R192). -/
inductive NoticeAction where
  | set
  | clear
  | enable
  | disable
  | groupEnable
  | groupDisable
  deriving DecidableEq, Repr

/-- The action a code names (R194). -/
def noticeActionOf (b : Byte) : Option NoticeAction :=
  if b = 0 then some .set else if b = 1 then some .clear else if b = 2 then some .enable
  else if b = 3 then some .disable else if b = 4 then some .groupEnable else if b = 5 then some .groupDisable
  else none

/-- The Notice Unit after an action with a mask; mask bits that name no flag or group are disregarded (R192). -/
def NoticeUnit.act (n : NoticeUnit) (a : NoticeAction) (mask : Word) : NoticeUnit :=
  let m : BitVec 26 := mask.setWidth 26
  let g : BitVec 5 := mask.setWidth 5
  match a with
  | .set => { n with flags := n.flags ||| m }
  | .clear => { n with flags := n.flags &&& ~~~m }
  | .enable => { n with enables := n.enables ||| m }
  | .disable => { n with enables := n.enables &&& ~~~m }
  | .groupEnable => { n with groupEnables := n.groupEnables ||| g }
  | .groupDisable => { n with groupEnables := n.groupEnables &&& ~~~g }

/-- One action of NOTICE-WRITE at the Notice Unit (R192). -/
def noticeAct (a : NoticeAction) (mask : Word) : Command := fun s =>
  let t := { s with notices := s.notices.act a mask }
  (t, some (.ok (u32 t.notices.flags.toNat ++ flag t.notices.atn)))

/-- NOTICE-WRITE by its action byte (R192). -/
def noticeWrite (action : Byte) (mask : Word) : Command := fun s =>
  match noticeActionOf action with
  | some a => noticeAct a mask s
  | none => (s, some (.bare .range))

/-- NOTICE-READ at the Notice Unit (R192). -/
def noticeRead : Command := fun s =>
  (s, some (.ok (u32 s.notices.flags.toNat ++ u32 s.notices.enables.toNat ++ u32 s.notices.groupEnables.toNat
    ++ s.notices.summaries.flatMap flag ++ flag s.notices.atn)))

/-! ### The command frame (R186, R187, R194) -/

/-- The payload length of a command's layout; none for the commands whose payload has no one length (R187, R194). -/
def CommandName.length : CommandName → Option Nat
  | .recipeBegin | .recipeSite | .recipeZone | .bayRoute => none
  | .recipeEnd | .pause | .resume | .noticeRead | .faultRead | .faultAck => some 0
  | .recipeDrop | .recipeRead | .panelRead | .stationClear | .magGo | .magUnstage | .bayExchange | .restart
  | .configRead => some 1
  | .panelRetire | .boardRead | .bayClear => some 2
  | .tabRead | .decide | .boardResolve | .magRead => some 3
  | .tabResolve | .magRelease => some 4
  | .configSet | .noticeWrite => some 5
  | .panelAdmit => some 6
  | .bitChange => some 9
  | .magStage => some 10
  | .zoneSet => some 15

/-- The command of a name with its payload, at its owning block: fields in the order of R194. -/
def commandOn (name : CommandName) (p : List Byte) : Command :=
  let b := fun i => p.getD i 0
  match name with
  | .recipeBegin => recipeBegin p
  | .recipeSite => recipeSite p
  | .recipeZone => recipeZone p
  | .recipeEnd => recipeEnd
  | .recipeDrop => recipeDrop (b 0)
  | .recipeRead => recipeRead (b 0)
  | .panelAdmit => panelAdmit (wordAt p 0) (b 4) (b 5)
  | .panelRetire => panelRetire (b 0) (b 1)
  | .panelRead => panelRead (b 0)
  | .boardRead => boardRead (b 0) (b 1)
  | .tabRead => tabRead (b 0) (b 1) (b 2)
  | .decide => decideVerdict (b 0) (b 1) (b 2)
  | .tabResolve => tabResolve (b 0) (b 1) (b 2) (b 3)
  | .boardResolve => boardResolve (b 0) (b 1) (b 2)
  | .bitChange => bitChange (b 0) (wordAt p 1) (wordAt p 5)
  | .stationClear => stationClear (b 0)
  | .zoneSet => zoneSet (b 0) (coordPoint (coordAt p 1) (coordAt p 4)) (coordPoint (coordAt p 7) (coordAt p 10)) (b 13) (b 14)
  | .magStage => magStage (b 0) (wordAt p 1) (b 5) (BitVec.ofNat 16 (halfAt p 6)) (BitVec.ofNat 16 (halfAt p 8))
  | .magGo => magGo (b 0)
  | .magUnstage => magUnstage (b 0)
  | .magRead => magRead (b 0) (b 1) (b 2)
  | .magRelease => magRelease (wordAt p 0)
  | .bayRoute => bayRoute p
  | .bayExchange => bayExchange (b 0)
  | .bayClear => bayClear (b 0) (b 1)
  | .pause => pauseCommand
  | .resume => resumeCommand
  | .restart => restart (b 0)
  | .configSet => configSet (b 0) (wordAt p 1)
  | .configRead => configRead (b 0)
  | .noticeRead => noticeRead
  | .noticeWrite => noticeWrite (b 0) (wordAt p 1)
  | .faultRead => faultRead
  | .faultAck => faultAck

/-- The payload has the length its command's layout gives; the recipe frames make their own length tests (R187, R194). -/
def payloadLengthOk (name : CommandName) (p : List Byte) : Bool :=
  match name with
  | .recipeBegin | .recipeSite | .recipeZone => true
  | .bayRoute => routeLength p
  | _ => decide (name.length = some p.length)

/-- The command a complete frame carries; none when test 5 of R187 answers LENGTH. -/
def commandBlock (name : CommandName) (p : List Byte) : Option Command :=
  if payloadLengthOk name p then some (commandOn name p) else none

/-- A complete command frame is examined in the order of R187. -/
def examineFrame (code : Byte) (payload whole : List Byte) (s : State) : State :=
  if s.busy then { s with ovr := true }
  else if sumBytes whole ≠ 0 then { s with ovr := false }.placeAnswer code (.bare .badFrame)
  else
    match commandOf code with
    | none => { s with ovr := false }.placeAnswer code (.bare .unknown)
    | some name => s.acceptFrame name (commandBlock name payload)

/-- A transaction from selection to deselection (R186, R187): a status read and a fetch alter nothing; a command frame
counts once its check byte is in, and what follows it is disregarded; a frame cut short has no effect. -/
def transact (bytes : List Byte) (s : State) : State :=
  match bytes with
  | [] => s
  | code :: rest =>
    if code = Config.statusRead ∨ code = Config.fetch then s
    else
      match rest with
      | [] => s
      | len :: body =>
        if body.length < len.toNat + 1 then s
        else examineFrame code (body.take len.toNat) (code :: len :: body.take (len.toNat + 1)) s

/-- The frame of a command code with a payload (R194). -/
def commandFrameBytes (name : CommandName) (payload : List Byte) : List Byte :=
  let body := name.byte :: BitVec.ofNat 8 payload.length :: payload
  body ++ [checkByte body]

/-! ### What the host reads (R186, R188, R194) -/

/-- The byte of an answer code; NONE is 0xFF (R194). -/
def answerCodeByte (c : Option HostCode) : Byte :=
  match c with
  | some c => BitVec.ofNat 8 c.code
  | none => 0xFF

/-- The fetch form of the answer buffer (R194). -/
def AnswerBuffer.fetchBytes (a : AnswerBuffer) : List Byte :=
  let body := (a.sequence :: u16 (a.fields.length + 2)) ++ (a.command :: answerCodeByte a.code :: a.fields)
  body ++ [checkByte body]

/-! ### The commands -/

/-- COMMAND_FRAME (R186, R187): the bytes of one transaction. -/
def execCommandFrame (bytes : List Byte) (s : State) : Result := .next (s.takeEvent (transact bytes))

/-- CONFIG_SET (R190). -/
def execConfigSet (item : Byte) (value : Word) (s : State) : Result :=
  .next (s.takeCommand .configSet (configSet item value))

/-- CONFIG_READ (R190). -/
def execConfigRead (item : Byte) (s : State) : Result := .next (s.takeCommand .configRead (configRead item))

/-- NOTICE_READ (R192). -/
def execNoticeRead (s : State) : Result := .next (s.takeCommand .noticeRead noticeRead)

/-- NOTICE_WRITE_SET (R192). -/
def execNoticeWriteSet (mask : Word) (s : State) : Result := .next (s.takeCommand .noticeWrite (noticeAct .set mask))

/-- NOTICE_WRITE_CLEAR (R192). -/
def execNoticeWriteClear (mask : Word) (s : State) : Result := .next (s.takeCommand .noticeWrite (noticeAct .clear mask))

/-- NOTICE_WRITE_ENABLE (R192). -/
def execNoticeWriteEnable (mask : Word) (s : State) : Result :=
  .next (s.takeCommand .noticeWrite (noticeAct .enable mask))

/-- NOTICE_WRITE_DISABLE (R192). -/
def execNoticeWriteDisable (mask : Word) (s : State) : Result :=
  .next (s.takeCommand .noticeWrite (noticeAct .disable mask))

/-- NOTICE_WRITE_GROUP_ENABLE (R192). -/
def execNoticeWriteGroupEnable (mask : Word) (s : State) : Result :=
  .next (s.takeCommand .noticeWrite (noticeAct .groupEnable mask))

/-- NOTICE_WRITE_GROUP_DISABLE (R192). -/
def execNoticeWriteGroupDisable (mask : Word) (s : State) : Result :=
  .next (s.takeCommand .noticeWrite (noticeAct .groupDisable mask))

end Sys2Proof.Machine
end

