-- ==== Sys2Proof/Machine/Dispatch.lean ====
section
/-! DEFINITION. The meaning of every command: one arm per row of the table. -/

namespace Sys2Proof.Machine

def exec (i : Instr) (s : State) : Host.Outcome State Fault Refusal :=
  match i with
  | .recipeBegin payload => Sys2Proof.Machine.execRecipeBegin payload s
  | .recipeSite payload => Sys2Proof.Machine.execRecipeSite payload s
  | .recipeZone payload => Sys2Proof.Machine.execRecipeZone payload s
  | .recipeEnd => Sys2Proof.Machine.execRecipeEnd s
  | .validationEnd => Sys2Proof.Machine.execValidationEnd s
  | .recipeDrop number => Sys2Proof.Machine.execRecipeDrop number s
  | .recipeRead number => Sys2Proof.Machine.execRecipeRead number s
  | .panelAdmit panelId recipe fixture => Sys2Proof.Machine.execPanelAdmit panelId recipe fixture s
  | .panelRetire entry force => Sys2Proof.Machine.execPanelRetire entry force s
  | .panelRead entry => Sys2Proof.Machine.execPanelRead entry s
  | .fiducial entry x1 y1 x2 y2 => Sys2Proof.Machine.execFiducial entry x1 y1 x2 y2 s
  | .zoneVisit entry => Sys2Proof.Machine.execZoneVisit entry s
  | .pickPointVisit entry => Sys2Proof.Machine.execPickPointVisit entry s
  | .tabVisit entry => Sys2Proof.Machine.execTabVisit entry s
  | .correctionRunEnd entry => Sys2Proof.Machine.execCorrectionRunEnd entry s
  | .siteMark entry site verdict => Sys2Proof.Machine.execSiteMark entry site verdict s
  | .decideVerdict entry site verdict => Sys2Proof.Machine.execDecideVerdict entry site verdict s
  | .holdExpiry => Sys2Proof.Machine.execHoldExpiry s
  | .tabResolve entry site tab outcome => Sys2Proof.Machine.execTabResolve entry site tab outcome s
  | .boardResolve entry site outcome => Sys2Proof.Machine.execBoardResolve entry site outcome s
  | .boardRead entry site => Sys2Proof.Machine.execBoardRead entry site s
  | .tabRead entry site tab => Sys2Proof.Machine.execTabRead entry site tab s
  | .gapTimerExpiry line => Sys2Proof.Machine.execGapTimerExpiry line s
  | .stationFrame line bytes => Sys2Proof.Machine.execStationFrame line bytes s
  | .frameTransmitted line => Sys2Proof.Machine.execFrameTransmitted line s
  | .nextTab sp => Sys2Proof.Machine.execNextTab sp s
  | .tabDone sp entry site tab => Sys2Proof.Machine.execTabDone sp entry site tab s
  | .tabFault sp entry site tab reason => Sys2Proof.Machine.execTabFault sp entry site tab reason s
  | .progress line => Sys2Proof.Machine.execProgress line s
  | .spindleWatchdogExpiry sp => Sys2Proof.Machine.execSpindleWatchdogExpiry sp s
  | .bitChange spindle lifeLimit startTotal => Sys2Proof.Machine.execBitChange spindle lifeLimit startTotal s
  | .stationClear station => Sys2Proof.Machine.execStationClear station s
  | .zoneSet zone lowX lowY highX highY mode enable => Sys2Proof.Machine.execZoneSet zone lowX lowY highX highY mode enable s
  | .nextPick => Sys2Proof.Machine.execNextPick s
  | .holdOn entry site => Sys2Proof.Machine.execHoldOn entry site s
  | .placeCheck entry site => Sys2Proof.Machine.execPlaceCheck entry site s
  | .placed entry site bay slot => Sys2Proof.Machine.execPlaced entry site bay slot s
  | .dropped entry site => Sys2Proof.Machine.execDropped entry site s
  | .gripperWatchdogExpiry => Sys2Proof.Machine.execGripperWatchdogExpiry s
  | .bayPoll => Sys2Proof.Machine.execBayPoll s
  | .bayDoneIndex bay ok => Sys2Proof.Machine.execBayDoneIndex bay ok s
  | .bayDoneExchange bay ok => Sys2Proof.Machine.execBayDoneExchange bay ok s
  | .actionTimerExpiry bay => Sys2Proof.Machine.execActionTimerExpiry bay s
  | .settleTimerExpiry bay => Sys2Proof.Machine.execSettleTimerExpiry bay s
  | .confirmWindowExpiry bay => Sys2Proof.Machine.execConfirmWindowExpiry bay s
  | .magStage bay magazineId slotCount pitch clearance => Sys2Proof.Machine.execMagStage bay magazineId slotCount pitch clearance s
  | .magGo bay => Sys2Proof.Machine.execMagGo bay s
  | .magUnstage bay => Sys2Proof.Machine.execMagUnstage bay s
  | .bayExchange bay => Sys2Proof.Machine.execBayExchange bay s
  | .bayClear bay loaded => Sys2Proof.Machine.execBayClear bay loaded s
  | .magRelease magazineId => Sys2Proof.Machine.execMagRelease magazineId s
  | .magRead location first count => Sys2Proof.Machine.execMagRead location first count s
  | .bayRoute payload => Sys2Proof.Machine.execBayRoute payload s
  | .sample raw => Sys2Proof.Machine.execSample raw s
  | .pause => Sys2Proof.Machine.execPause s
  | .resume => Sys2Proof.Machine.execResume s
  | .faultRead => Sys2Proof.Machine.execFaultRead s
  | .faultAck => Sys2Proof.Machine.execFaultAck s
  | .restartWarm => Sys2Proof.Machine.execRestartWarm s
  | .restartCold => Sys2Proof.Machine.execRestartCold s
  | .resetAssert => Sys2Proof.Machine.execResetAssert s
  | .resetRelease => Sys2Proof.Machine.execResetRelease s
  | .powerOn => Sys2Proof.Machine.execPowerOn s
  | .commandFrame bytes => Sys2Proof.Machine.execCommandFrame bytes s
  | .configSet item value => Sys2Proof.Machine.execConfigSet item value s
  | .configRead item => Sys2Proof.Machine.execConfigRead item s
  | .noticeRead => Sys2Proof.Machine.execNoticeRead s
  | .noticeWriteSet mask => Sys2Proof.Machine.execNoticeWriteSet mask s
  | .noticeWriteClear mask => Sys2Proof.Machine.execNoticeWriteClear mask s
  | .noticeWriteEnable mask => Sys2Proof.Machine.execNoticeWriteEnable mask s
  | .noticeWriteDisable mask => Sys2Proof.Machine.execNoticeWriteDisable mask s
  | .noticeWriteGroupEnable mask => Sys2Proof.Machine.execNoticeWriteGroupEnable mask s
  | .noticeWriteGroupDisable mask => Sys2Proof.Machine.execNoticeWriteGroupDisable mask s
  | .stationLineByte line byte framingError => Sys2Proof.Machine.execStationLineByte line byte framingError s

end Sys2Proof.Machine
end

