-- ==== Sys2Proof/Machine/Tick.lean ====
section
/-! DEFINITION. One tick of the 1 ms timebase (file 00): every RUNNING timer that is not held counts down, and the events
whose last tick this is join the queue (log entries 1 to 3). -/

namespace Sys2Proof.Machine

/-- One tick of a RUNNING timer; the last tick is left to the expiry's own event (log entry 2). -/
def Timer.count (t : Timer) : Timer :=
  match t with
  | some n => some (if n ≤ 1 then n else n - 1)
  | none => none

/-- A timer that GUARD holds does not count while GUARD is a cause (R113, R136, R149, R172). -/
def Timer.countUnless (held : Bool) (t : Timer) : Timer := if held then t else t.count

/-- A tick on a line: the gap timer counts up to its limit (R85), and a queued answer begins to be sent when none is (R87, log
entry 29). -/
def Line.tick (l : Line) : Line :=
  { l.pump with gap := l.gap.map (fun n => if n + 1 < Config.gapTicks then n + 1 else n) }

/-- A bay's timers count: the action timer unless GUARD holds it, the settle timer and the confirm window always (R149). -/
def Bay.countTimers (held : Bool) (b : Bay) : Bay :=
  { b with
    actionTimer := b.actionTimer.countUnless held
    settleTimer := Timer.count b.settleTimer
    confirm := b.confirm.map (fun w => { w with remaining := if w.remaining ≤ 1 then w.remaining else w.remaining - 1 }) }

/-- The hold timer counts (R74, R79). -/
def VerdictHold.countTimer : VerdictHold → VerdictHold
  | .empty => .empty
  | .holding h t => .holding h (Timer.count t)

/-- The sample clock reaches the interval with this tick (R164). -/
def State.sampleReached (s : State) : Bool := decide (s.settings.sampleInterval ≤ s.sampleClock + 1)

/-- Every timer counts one tick (R113, R136, R149, R164, R172), and queued answers begin to be sent (R87). -/
def countTimers (s : State) : State :=
  let held := s.causes.guardOpen
  { s with
    hold := s.hold.countTimer
    lines := mapVec Line.tick s.lines
    spindleA := { s.spindleA with watchdog := s.spindleA.watchdog.countUnless held }
    spindleB := { s.spindleB with watchdog := s.spindleB.watchdog.countUnless held }
    gripper := { s.gripper with watchdog := s.gripper.watchdog.countUnless held }
    bays := mapVec (Bay.countTimers held) s.bays
    sampleClock := if s.sampleClock < 16 then s.sampleClock + 1 else s.sampleClock
    sampleDue := s.sampleReached }

/-- A command, when its event is due. -/
def when_ (due : Bool) (c : Instr) : List Instr := if due then [c] else []

/-- The hold timer's last tick. -/
def VerdictHold.due : VerdictHold → Bool
  | .empty => false
  | .holding _ t => Timer.due t

/-- The last ticks of a bay's timers. -/
def bayEvents (held : Bool) (b : Fin 4) (r : Bay) : List Instr :=
  when_ (!held && Timer.due r.actionTimer) (.actionTimerExpiry b)
    ++ when_ (Timer.due r.settleTimer) (.settleTimerExpiry b)
    ++ when_ (Timer.due (r.confirm.map (·.remaining))) (.confirmWindowExpiry b)

/-- The gap timer's last tick on a line (R85). -/
def gapEvent (s : State) (l : LineId) : List Instr :=
  when_ (match (s.line l).gap with
    | some n => decide (Config.gapTicks ≤ n + 1)
    | none => false) (.gapTimerExpiry l)

/-- The five lines. -/
def lineIds : List LineId := [.spindleA, .spindleB, .gripper, .vision, .elevator]

/-- The events this tick brings about, read before it counts (R74, R85, R113, R136, R149, R164). -/
def tickEvents (s : State) : List Instr :=
  let held := s.causes.guardOpen
  when_ s.hold.due .holdExpiry
    ++ when_ (!held && Timer.due s.spindleA.watchdog) (.spindleWatchdogExpiry .a)
    ++ when_ (!held && Timer.due s.spindleB.watchdog) (.spindleWatchdogExpiry .b)
    ++ when_ (!held && Timer.due s.gripper.watchdog) .gripperWatchdogExpiry
    ++ bayNumbers.flatMap (fun b => bayEvents held b s.bays[b])
    ++ lineIds.flatMap (gapEvent s)
    ++ when_ s.sampleReached (.sample s.pins)

/-- One tick of the timebase; it does not run while RESET is asserted (R166, R185). The events join the queue in a free order
(log entry 3). -/
def tick (s : State) : State :=
  if s.resetAsserted then s
  else
    let found := tickEvents s
    { countTimers s with
      pending := s.pending ++ shuffle Config.order s.choice found
      choice := s.choice + draws found }

end Sys2Proof.Machine
end

