-- ==== Sys2Proof/Machine/Layouts.lean ====
section
/-! DEFINITION. The frame of each row (R194): the command code and payload of a host command, the line, request code and
fields of a station request. -/

namespace Sys2Proof.Machine

/-- A four-byte field, high byte first. -/
def wordBytes (w : Word) : List Byte := u32 w.toNat

/-- A two-byte field, high byte first. -/
def halfBytes (w : Half) : List Byte := u16 w.toNat

/-- A coordinate of a command or a request: three bytes, high byte first. -/
def coordBytes (c : Coord) : List Byte := u24 c.toNat

/-- The command a row sends over the command port; none for the rows that are no host command. -/
def hostCommand (c : Instr) : Option CommandName :=
  match c with
  | .recipeBegin _ => some .recipeBegin
  | .recipeSite _ => some .recipeSite
  | .recipeZone _ => some .recipeZone
  | .recipeEnd => some .recipeEnd
  | .recipeDrop _ => some .recipeDrop
  | .recipeRead _ => some .recipeRead
  | .panelAdmit _ _ _ => some .panelAdmit
  | .panelRetire _ _ => some .panelRetire
  | .panelRead _ => some .panelRead
  | .boardRead _ _ => some .boardRead
  | .tabRead _ _ _ => some .tabRead
  | .decideVerdict _ _ _ => some .decide
  | .tabResolve _ _ _ _ => some .tabResolve
  | .boardResolve _ _ _ => some .boardResolve
  | .bitChange _ _ _ => some .bitChange
  | .stationClear _ => some .stationClear
  | .zoneSet _ _ _ _ _ _ _ => some .zoneSet
  | .magStage _ _ _ _ _ => some .magStage
  | .magGo _ => some .magGo
  | .magUnstage _ => some .magUnstage
  | .magRead _ _ _ => some .magRead
  | .magRelease _ => some .magRelease
  | .bayRoute _ => some .bayRoute
  | .bayExchange _ => some .bayExchange
  | .bayClear _ _ => some .bayClear
  | .pause => some .pause
  | .resume => some .resume
  | .restartWarm => some .restart
  | .restartCold => some .restart
  | .configSet _ _ => some .configSet
  | .configRead _ => some .configRead
  | .noticeRead => some .noticeRead
  | .noticeWriteSet _ => some .noticeWrite
  | .noticeWriteClear _ => some .noticeWrite
  | .noticeWriteEnable _ => some .noticeWrite
  | .noticeWriteDisable _ => some .noticeWrite
  | .noticeWriteGroupEnable _ => some .noticeWrite
  | .noticeWriteGroupDisable _ => some .noticeWrite
  | .faultRead => some .faultRead
  | .faultAck => some .faultAck
  | _ => none

/-- The payload of a host command: its fields in the order its name lists them (R194). -/
def hostPayload (c : Instr) : List Byte :=
  match c with
  | .recipeBegin p | .recipeSite p | .recipeZone p | .bayRoute p => p
  | .recipeDrop n | .recipeRead n => [n]
  | .panelAdmit id recipe fixture => wordBytes id ++ [recipe, fixture]
  | .panelRetire entry force => [entry, force]
  | .panelRead entry => [entry]
  | .boardRead entry site => [entry, site]
  | .tabRead entry site tab => [entry, site, tab]
  | .decideVerdict entry site verdict => [entry, site, verdict]
  | .tabResolve entry site tab outcome => [entry, site, tab, outcome]
  | .boardResolve entry site outcome => [entry, site, outcome]
  | .bitChange spindle limit total => [spindle] ++ wordBytes limit ++ wordBytes total
  | .stationClear station => [station]
  | .zoneSet zone lowX lowY highX highY mode enable =>
    [zone] ++ coordBytes lowX ++ coordBytes lowY ++ coordBytes highX ++ coordBytes highY ++ [mode, enable]
  | .magStage bay id slots pitch clearance => [bay] ++ wordBytes id ++ [slots] ++ halfBytes pitch ++ halfBytes clearance
  | .magGo bay | .magUnstage bay | .bayExchange bay => [bay]
  | .magRead location first count => [location, first, count]
  | .magRelease id => wordBytes id
  | .bayClear bay loaded => [bay, loaded]
  | .restartWarm => [0]
  | .restartCold => [1]
  | .configSet item value => [item] ++ wordBytes value
  | .configRead item => [item]
  | .noticeWriteSet mask => [0] ++ wordBytes mask
  | .noticeWriteClear mask => [1] ++ wordBytes mask
  | .noticeWriteEnable mask => [2] ++ wordBytes mask
  | .noticeWriteDisable mask => [3] ++ wordBytes mask
  | .noticeWriteGroupEnable mask => [4] ++ wordBytes mask
  | .noticeWriteGroupDisable mask => [5] ++ wordBytes mask
  | _ => []

/-- The line, the request code and the fields of a station request (R88, R194); none for the rows that are none, and for
PROGRESS on a line that has no such code. -/
def stationRequest (c : Instr) : Option (LineId × RequestName × List Byte) :=
  match c with
  | .fiducial entry x1 y1 x2 y2 =>
    some (.vision, .fiducial, [entry] ++ coordBytes x1 ++ coordBytes y1 ++ coordBytes x2 ++ coordBytes y2)
  | .siteMark entry site verdict => some (.vision, .siteMark, [entry, site, verdict])
  | .nextTab sp => some (sp.line, .nextTab, [])
  | .tabDone sp entry site tab => some (sp.line, .tabDone, [entry, site, tab])
  | .tabFault sp entry site tab reason => some (sp.line, .tabFault, [entry, site, tab, reason])
  | .progress l =>
    match l with
    | .spindleA => some (.spindleA, .progress, [])
    | .spindleB => some (.spindleB, .progress, [])
    | .gripper => some (.gripper, .progress, [])
    | .vision => none
    | .elevator => none
  | .nextPick => some (.gripper, .nextPick, [])
  | .holdOn entry site => some (.gripper, .holdOn, [entry, site])
  | .placeCheck entry site => some (.gripper, .placeCheck, [entry, site])
  | .placed entry site bay slot => some (.gripper, .placed, [entry, site, bay, slot])
  | .dropped entry site => some (.gripper, .dropped, [entry, site])
  | .bayPoll => some (.elevator, .bayPoll, [])
  | .bayDoneIndex bay ok => some (.elevator, .bayDone, [bay, 0, ok])
  | .bayDoneExchange bay ok => some (.elevator, .bayDone, [bay, 1, ok])
  | _ => none

end Sys2Proof.Machine
end

