-- ==== Sys2Proof/Machine/Transactions.lean ====
section
/-! DEFINITION. The command port byte by byte (R186, R187, R193): what it shifts out while the host clocks a selection, as the part
goes on beside it, the frame that takes effect with its check byte, and the transaction that RESET or power-on cuts. The row
COMMAND_FRAME is such a transaction taken whole (log entry 31). -/

namespace Sys2Proof.Machine

/-! ### A selection -/

/-- A selection of the port by the host: the bytes of its transaction that are in, the answer buffer as the first of them found it,
whether the transaction is abandoned (R193), and how many bytes the host has clocked. -/
structure Selection where
  received : List Byte
  found : AnswerBuffer
  abandoned : Bool
  clocked : Nat
  deriving DecidableEq, Repr

/-- The host selects the port; while RESET is asserted it takes no transaction (R186). -/
def State.selected (s : State) : Selection := ⟨[], s.answer, s.resetAsserted, 0⟩

/-- The byte shifted out with the next byte clocked. RESET holds the output low; a fetch sends the buffer it found, then 0, from its
second byte position on; every other position shows the status byte as it then stands (R186), the first of a read included (log
entry 31). -/
def Selection.output (sel : Selection) (s : State) : Byte :=
  if s.resetAsserted then 0
  else if sel.abandoned then Config.idleOutput sel.clocked
  else
    match sel.received with
    | first :: rest => if first = Config.fetch then sel.found.fetchBytes.getD rest.length 0 else s.statusByte
    | [] => s.statusByte

/-- The port takes bytes: the transaction stands and RESET is negated (R186, R193). -/
def Selection.taking (sel : Selection) (s : State) : Bool := !sel.abandoned && !s.resetAsserted

/-- The selection after a byte. -/
def Selection.receive (sel : Selection) (s : State) (byte : Byte) : Selection :=
  if sel.taking s then
    { sel with
      received := sel.received ++ [byte]
      found := if sel.received.isEmpty then s.answer else sel.found
      clocked := sel.clocked + 1 }
  else { sel with abandoned := true, clocked := sel.clocked + 1 }

/-- The bytes end with the check byte of a command frame (R187). -/
def frameEnds (bytes : List Byte) : Bool :=
  match bytes with
  | code :: len :: body => decide (code ≠ Config.statusRead ∧ code ≠ Config.fetch ∧ body.length = len.toNat + 1)
  | [_] => false
  | [] => false

/-! ### The port beside the part -/

/-- What happens while the port is selected: the host clocks a byte, a command is taken, or the part makes a step of its own. -/
inductive PortEvent where
  | clock (byte : Byte)
  | take (c : Instr)
  | step
  deriving DecidableEq, Repr

/-- The part and the selection of its port. -/
structure PortState where
  part : State
  selection : Selection
  deriving DecidableEq, Repr

/-- The state a part goes on in; no command stops it. -/
def goesOn (o : Result) (s : State) : State :=
  match o with
  | .next t => t
  | .fault _ => s
  | .refused _ => s

/-- A cold restart by RESET or power-on, which cuts a transaction: at the assertion already it can have no effect (R186, R193).
RESTART COLD comes with a transaction of its own. -/
def cutsTransaction (c : Instr) : Bool := decide (c = .resetAssert ∨ c = .resetRelease ∨ c = .powerOn)

/-- A selection as a command is taken. -/
def Selection.past (sel : Selection) (c : Instr) : Selection :=
  { sel with abandoned := sel.abandoned || cutsTransaction c }

/-- One event: a frame takes effect with its check byte (R187), and a cut abandons the transaction (R193). -/
def PortState.next (m : PortState) (e : PortEvent) : PortState :=
  match e with
  | .clock byte =>
    let bytes := m.selection.received ++ [byte]
    { part := if m.selection.taking m.part && frameEnds bytes then goesOn (exec (.commandFrame bytes) m.part) m.part else m.part
      selection := m.selection.receive m.part byte }
  | .take c => ⟨goesOn (exec c m.part) m.part, m.selection.past c⟩
  | .step => ⟨goesOn (Machine.step m.part) m.part, m.part.pending.head?.elim m.selection m.selection.past⟩

/-- The part and its port after events. -/
def PortState.after (m : PortState) (events : List PortEvent) : PortState := events.foldl PortState.next m

/-- The bytes shifted out over events, one for each byte clocked (R186). -/
def PortState.outputs (m : PortState) : List PortEvent → List Byte
  | [] => []
  | .clock byte :: rest => m.selection.output m.part :: (m.next (.clock byte)).outputs rest
  | .take c :: rest => (m.next (.take c)).outputs rest
  | .step :: rest => (m.next .step).outputs rest

/-- The host selects the port and clocks bytes, and nothing else happens. -/
def State.clocked (s : State) (bytes : List Byte) : PortState := PortState.after ⟨s, s.selected⟩ (bytes.map .clock)

/-- The bytes shifted out meanwhile (R186). -/
def State.shiftedOut (s : State) (bytes : List Byte) : List Byte := PortState.outputs ⟨s, s.selected⟩ (bytes.map .clock)

end Sys2Proof.Machine
end

