-- ==== Sys2Proof/WellFormed.lean ====
section
/-! DEFINITION. Which terms of Instr stand for an arrival the port or a line can bring about. -/

namespace Sys2Proof

/-- A payload's length is a one-byte field of the frame (R194). -/
def payloadFits (payload : List Byte) : Bool := payload.length ≤ 255

/-- The bytes of a complete station frame after its start byte: the length L from 1 to 32, the code, L - 1 field
bytes, the check byte (section 5.2, R85). -/
def stationBytesComplete (bytes : List Byte) : Bool :=
  match bytes with
  | [] => false
  | len :: rest => decide (1 ≤ len.toNat ∧ len.toNat ≤ 32 ∧ rest.length = len.toNat + 1)

/-- PROGRESS is a code of the spindle lines and of the gripper line (R88). -/
def progressLine : LineId → Bool
  | .spindleA => true
  | .spindleB => true
  | .gripper => true
  | .vision => false
  | .elevator => false

/-- The well-formed commands: payloads that a frame can carry, station frames that are complete, PROGRESS on a
line of its roles, a command transaction with a first byte. Every other operand is at its field's width already. -/
def Instr.wellFormed : Instr → Bool
  | .recipeBegin p => payloadFits p
  | .recipeSite p => payloadFits p
  | .recipeZone p => payloadFits p
  | .bayRoute p => payloadFits p
  | .progress l => progressLine l
  | .stationFrame _ bytes => stationBytesComplete bytes
  | .commandFrame bytes => !bytes.isEmpty
  | _ => true

end Sys2Proof
end

