-- ==== Sys2Proof/Safety.lean ====
section
/-! DEFINITION. The terms claims use: when the port and a line take what arrives, what an answer leaves behind, and the
invariants every step keeps. -/

namespace Sys2Proof.Machine

/-! ### When an arrival is taken -/

/-- The port examines a frame from test 2 of R187 on: RESET is negated and BSY clear. -/
def PortOpen (s : State) : Prop := s.resetAsserted = false ∧ s.busy = false

/-- The port delivers every command: it is open and the part is in NORMAL (R179, R187). -/
def PortNormal (s : State) : Prop := PortOpen s ∧ s.fault.locked = false

/-- A line delivers every good frame of its role: RESET is negated, fewer than four answers are queued beside the one being sent
(R87), no request is held, the part is in NORMAL (R86). -/
def LineOpen (s : State) (l : LineId) : Prop :=
  s.resetAsserted = false ∧ (s.line l).pump.queue.length < 4 ∧ (s.line l).held = none ∧ s.fault.locked = false

/-! ### What an answer leaves behind -/

/-- OVR is cleared, and an answer to a command stands in the buffer (R187, R188). -/
def State.answered (s : State) (name : CommandName) (code : HostCode) (fields : List Byte) : State :=
  { s with
    ovr := false
    busy := false
    answer := ⟨s.answer.sequence + 1, name.byte, some code, fields⟩ }

/-- The state in which a delivered request finds the part: the receiver is back in HUNT, an answer formed before is being sent,
and a RUNNING watchdog of the station is reloaded (R85, R87, R93). -/
def State.received (s : State) (l : LineId) : State := (s.frameComplete l).reloadWatchdog l

/-- An answer to a request joins the line's queue (R87). -/
def State.replied (s : State) (l : LineId) (request : RequestName) (code : StationCode) (fields : List Byte) : State :=
  s.sendAnswer l ⟨BitVec.ofNat 8 code.code, request.byte :: fields⟩

/-! ### Invariants -/

/-- Every step that answers a next state keeps a property. -/
def StepKeeps (P : State → Prop) : Prop := ∀ s t, P s → step s = .next t → P t

/-- A run is RUNNING exactly for the CORRECTING panels (R37, R22). -/
def RunsMatchPanels (s : State) : Prop :=
  ∀ e : Fin 4, s.runs[e] ≠ .idle ↔ ∃ p, s.panel e = some p ∧ p.state = .correcting

/-- The recipe of every LIVE panel stays LOADED (R17). -/
def RecipesLoaded (s : State) : Prop := ∀ (e : Fin 4) (p : Panel), s.panel e = some p → (s.slots[p.recipe]).isSome = true

/-- At most one panel of a fixture is mounted (R21). -/
def OneMounted (s : State) : Prop :=
  ∀ (e₁ e₂ : Fin 4) (p₁ p₂ : Panel), s.panel e₁ = some p₁ → s.panel e₂ = some p₂ → p₁.fixture = p₂.fixture →
    p₁.state ≠ .queued → p₂.state ≠ .queued → e₁ = e₂

/-- GUARD is a pause cause exactly while the filtered GUARD level reads OPEN (R167). -/
def GuardAgrees (s : State) : Prop := s.causes.guardOpen = s.guardLevel

/-- In LOCKDOWN the part is disarmed and every timer that measures station work is STOPPED (R176, R178). -/
def LockdownStopped (s : State) : Prop :=
  s.fault.locked = true →
    s.fault.armed = false ∧ s.spindleA.watchdog = none ∧ s.spindleB.watchdog = none ∧ s.gripper.watchdog = none
      ∧ (∀ b : Fin 4, s.bays[b].actionTimer = none) ∧ (∀ h t, s.hold = .holding h t → t = none)

/-- Every setting stands in its range (R190). -/
def SettingsInRange (s : State) : Prop :=
  ∀ i : Fin 14, (itemRange i).1 ≤ s.settings.read i ∧ s.settings.read i ≤ (itemRange i).2

/-- The answer queues hold at most five frames on the vision line and four on the others, at most four while a request is
held; a request is held on the vision line exactly while the Verdict Hold is HOLDING, and on no other line (R84, R87). -/
def LinesSound (s : State) : Prop :=
  (s.line .vision).queue.length ≤ 5
    ∧ ((s.line .vision).held.isSome = true → (s.line .vision).queue.length ≤ 4)
    ∧ ((s.line .vision).held.isSome = true ↔ s.hold ≠ .empty)
    ∧ ∀ l : LineId, l ≠ .vision → (s.line l).queue.length ≤ 4 ∧ (s.line l).held = none

/-- A bay's action, its timers and its CURRENT record agree with its state (R142). -/
def BaySound (b : Bay) : Prop :=
  (b.state = .indexing ↔ b.action = some .index) ∧ (b.state = .exchanging ↔ b.action = some .exchange)
    ∧ (b.actionTimer.isSome = true → b.action.isSome = true) ∧ (b.settleTimer.isSome = true → b.state = .settling)
    ∧ (b.state = .empty → b.current = none)

/-- The bays that will send a record out: EXCHANGING with a CURRENT record (R150). -/
def sendingOut (s : State) : Nat :=
  (bayNumbers.filter (fun b => decide (s.bays[b].state = .exchanging) && s.bays[b].current.isSome)).length

/-- Every bay is sound, and the outgoing list with the bays about to send a record out never passes four (R142, R150). -/
def BaysSound (s : State) : Prop := (∀ b : Fin 4, BaySound s.bays[b]) ∧ s.outgoing.length + sendingOut s ≤ 4

/-- The number of release tabs in a list of release flags. -/
def releaseCount (flags : List Bool) : Nat := (flags.filter id).length

/-- Every committed recipe has exactly one release tab on each site (R1, R12). -/
def OneReleasePerSite (s : State) : Prop :=
  ∀ (n : Fin 16) (r : Recipe), s.slots[n] = some r →
    ∀ x ∈ r.sites, releaseCount (x.tabs.map (·.release)) = 1

/-- Board states a panel's boards may stand in before its correction run has ended (R59, R66). -/
def EarlyState (b : BoardState) : Prop :=
  b = .awaitMark ∨ b = .unsure ∨ b = .cutting ∨ b = .ready ∨ b = .xoutLeft

/-- A board's share of the release interlock (R56, R66): one release tab, ASSIGNED only while the board is HELD or SUSPECT. -/
def BoardInterlocked (b : BoardRecord) : Prop :=
  releaseCount (b.tabs.map (·.release)) = 1
    ∧ ∀ t ∈ b.tabs, t.release = true → t.state = .assigned → b.state = .held ∨ b.state = .suspect

/-- The release interlock of the whole part (R66): every board is interlocked, and no board of a panel that is not yet
aligned has come to the gripper. -/
def Interlocked (s : State) : Prop :=
  OneReleasePerSite s ∧ ∀ (e : Fin 4) (p : Panel), s.panel e = some p → ∀ b ∈ p.boards,
    BoardInterlocked b ∧ (p.state ≠ .aligned → p.state ≠ .cleared → EarlyState b.state)

/-- The moves of a board's state in one event (R59). -/
def BoardMove : BoardState → BoardState → Bool
  | .awaitMark, .cutting | .awaitMark, .ready | .awaitMark, .xoutLeft | .awaitMark, .unsure | .awaitMark, .stranded => true
  | .unsure, .cutting | .unsure, .ready | .unsure, .xoutLeft | .unsure, .stranded => true
  | .cutting, .ready | .cutting, .stranded => true
  | .ready, .targeted | .ready, .stranded => true
  | .targeted, .held | .targeted, .ready => true
  | .held, .free | .held, .ready | .held, .suspect => true
  | .free, .placed | .free, .lost | .free, .suspect => true
  | .suspect, .ready | .suspect, .lost | .suspect, .placed => true
  | _, _ => false

/-- A panel's state goes with its correction record: ALIGNED and CLEARED panels have one, the others none (R22). -/
def CorrectionsMatch (s : State) : Prop :=
  ∀ (e : Fin 4) (p : Panel), s.panel e = some p →
    (p.correction.isSome = true ↔ p.state = .aligned ∨ p.state = .cleared)

/-! ### Recipes, as R1 and R12 bound them -/

/-- A point in the travel envelope (R12). -/
def Inside (p : Point) : Prop := 0 ≤ p.x ∧ p.x ≤ 600000 ∧ 0 ≤ p.y ∧ p.y ≤ 450000

/-- What checks 2 to 15 of R12 ask of a recipe. -/
def RecipeValid (r : Recipe) : Prop :=
  (∀ x ∈ r.sites, x.tabs ≠ [] ∧ releaseCount (x.tabs.map (·.release)) = 1)
    ∧ (r.sites.map (fun x => x.tabs.length)).sum ≤ 256 ∧ ((r.sites.flatMap (·.tabs)).map (·.seq)).Nodup
    ∧ 400 ≤ r.header.thickness ∧ r.header.thickness ≤ 3200 ∧ Inside r.header.f1 ∧ Inside r.header.f2
    ∧ 400000000 ≤ (r.header.f2.x - r.header.f1.x) ^ 2 + (r.header.f2.y - r.header.f1.y) ^ 2
    ∧ (∀ x ∈ r.sites, Inside x.origin ∧ x.width ≠ 0 ∧ x.height ≠ 0 ∧ x.topHeight ≤ 25000
        ∧ ∀ t ∈ x.tabs, Inside t.mid ∧ 500 ≤ t.width ∧ t.width ≤ 5000)
    ∧ ∀ z ∈ r.zones.toList, ∀ q, z = some q → Inside q.low ∧ Inside q.high ∧ q.low.x ≤ q.high.x ∧ q.low.y ≤ q.high.y

/-! ### What a failed validation reports (R12) -/

/-- The lowest site a check finds bad. -/
def FirstSite (q : Recipe) (bad : RecipeSite → Prop) (k : Nat) : Prop :=
  ∃ x, q.sites[k]? = some x ∧ bad x ∧ ∀ j y, j < k → q.sites[j]? = some y → ¬ bad y

/-- A tab of a recipe by its site and its tab index. -/
def Recipe.tab (q : Recipe) (site index : Nat) : Option RecipeTab := (q.sites[site]?).bind (fun x => x.tabs[index]?)

/-- A tab comes before another in scan order: by site, then by tab index. -/
def ScannedBefore (site index site' index' : Nat) : Prop := site < site' ∨ (site = site' ∧ index < index')

/-- The first tab in scan order that a check finds bad. -/
def FirstTab (q : Recipe) (bad : Nat → Nat → RecipeTab → Prop) (k i : Nat) : Prop :=
  ∃ t, q.tab k i = some t ∧ bad k i t ∧ ∀ j m u, ScannedBefore j m k i → q.tab j m = some u → ¬ bad j m u

/-- The lowest zone a check finds bad. -/
def FirstZone (q : Recipe) (bad : Rect → Prop) (k : Nat) : Prop :=
  ∃ z, q.zones.toList[k]? = some (some z) ∧ bad z ∧ ∀ j y, j < k → q.zones.toList[j]? = some (some y) → ¬ bad y

/-- One of checks 2 to 15 of R12 fails on a recipe whose sites are all present, and reports these indices. -/
def Reports (q : Recipe) (f : Failure) : Prop :=
  let site := fun bad : RecipeSite → Prop => ∃ k, FirstSite q bad k ∧ f = ⟨f.check, some k, none, none, none⟩
  let tab := fun bad : Nat → Nat → RecipeTab → Prop =>
    ∃ k i, FirstTab q bad k i ∧ f = ⟨f.check, some k, some i, none, none⟩
  let zone := fun bad : Rect → Prop => ∃ k, FirstZone q bad k ∧ f = ⟨f.check, none, none, some k, none⟩
  let whole := fun bad : Prop => bad ∧ f = ⟨f.check, none, none, none, none⟩
  match f.check with
  | .missingSite => False
  | .tabCount => site (fun x => x.tabs = [])
  | .release => ∃ k x, FirstSite q (fun x => releaseCount (x.tabs.map (·.release)) ≠ 1) k ∧ q.sites[k]? = some x
      ∧ (((∀ t ∈ x.tabs, t.release = false) ∧ f = ⟨.release, some k, none, none, none⟩)
        ∨ ∃ i t, x.tabs[i]? = some t ∧ t.release = true ∧ releaseCount ((x.tabs.take i).map (·.release)) = 1
          ∧ f = ⟨.release, some k, some i, none, none⟩)
  | .tabTotal => whole (256 < (q.sites.map (fun x => x.tabs.length)).sum)
  | .sequence => tab (fun k i t => ∃ j m u, ScannedBefore j m k i ∧ q.tab j m = some u ∧ u.seq = t.seq)
  | .thickness => whole (q.header.thickness < 400 ∨ 3200 < q.header.thickness)
  | .fiducial => (¬ Inside q.header.f1 ∧ f = ⟨.fiducial, none, none, none, some 1⟩)
      ∨ (Inside q.header.f1 ∧ ¬ Inside q.header.f2 ∧ f = ⟨.fiducial, none, none, none, some 2⟩)
  | .fidSpacing => whole ((q.header.f2.x - q.header.f1.x) ^ 2 + (q.header.f2.y - q.header.f1.y) ^ 2 < 400000000)
  | .origin => site (fun x => ¬ Inside x.origin)
  | .outline => site (fun x => x.width = 0 ∨ x.height = 0)
  | .topHeight => site (fun x => 25000 < x.topHeight)
  | .midpoint => tab (fun _ _ t => ¬ Inside t.mid)
  | .width => tab (fun _ _ t => t.width < 500 ∨ 5000 < t.width)
  | .zoneCorner => zone (fun z => ¬ Inside z.low ∨ ¬ Inside z.high)
  | .zoneOrder => zone (fun z => z.high.x < z.low.x ∨ z.high.y < z.low.y)

/-! ### Recipe frames -/

/-- The bytes of one tab of a RECIPE-SITE payload: its midpoint pair, its orientation code, width, cut sequence and release
flag (R194). -/
structure TabBytes where
  mid : List Byte
  orient : Orientation
  width : Half
  seq : Byte
  release : Byte

/-- The tab's bytes in the order of the payload. -/
def TabBytes.bytes (t : TabBytes) : List Byte :=
  t.mid ++ [BitVec.ofNat 8 t.orient.code] ++ halfBytes t.width ++ [t.seq, t.release]

/-- The tab those bytes stand for (R6, R9). -/
def TabBytes.tab (packing : Packing) (pitch : Nat) (t : TabBytes) : RecipeTab :=
  { mid := pairAt packing pitch t.mid 0, orient := t.orient, width := t.width.toNat * 10, seq := t.seq.toNat
    release := decide (t.release ≠ 0) }

/-! ### Panels and runs -/

/-- A board in the gripper's work or in doubt: work in flight on its panel (R28). -/
def BoardState.inHand (b : BoardState) : Prop := b = .targeted ∨ b = .held ∨ b = .free ∨ b = .suspect

/-- The items a correction run visits, in the order of R45: the zones present, then for each site its pick point and its
tabs. -/
def runItems (zones : Vector (Option Rect) 8) (boards : List BoardRecord) : List RunItem :=
  (zones.toList.zipIdx.filterMap (fun zi => zi.1.map (fun _ => RunItem.zone zi.2)))
    ++ boards.zipIdx.flatMap (fun bi => .pick bi.2 :: (List.range bi.1.tabs.length).map (fun t => .tab bi.2 t))

end Sys2Proof.Machine
end

