-- ==== Sys2Proof/Certificates/Slice0/Obligations.lean ====
section
/-! DEFINITION. The statements for the provers. A command's statement says, for every state and operands in which the command
takes effect, that `exec` answers a next state and which one; what the named state does not change is the frame. -/

section Statements

open Sys2Proof Sys2Proof.Machine

/-! ### Steps and the queue -/

/-- A step runs the command at the front of the queue on the state with the queue's rest. -/
def Obligations.StepTakesFrontCommand : Prop :=
  ∀ (c : Instr) (rest : List Instr) (s : State), s.pending = c :: rest → step s = exec c { s with pending := rest }

/-- No command stops the part, and none changes what waits in the queue. -/
def Obligations.EveryCommandGoesOnAndKeepsTheQueue : Prop :=
  ∀ (c : Instr) (s : State), ∃ t, exec c s = .next t ∧ t.pending = s.pending

/-- With nothing waiting, a step is one tick (the model's choice, log entry 1): the timers count, the events whose last tick it
is join the queue in some order (log entries 2 and 3), and nothing else changes. The watchdogs and the action timers count
unless GUARD is a pause cause, the settle timers, the confirm windows, the gap timers and the hold timer count always (R85,
R113, R136, R149, R172). The sample clock rises, and a sample is due at the tick with which it reaches the interval (R164, R165;
that the model marks it due is log entry 30). On a line with nothing being sent the oldest queued answer begins to be (R87; that
a tick is when it begins is the model's choice, log entry 29). While RESET is asserted no tick passes. -/
def Obligations.IdleStepIsOneTick : Prop :=
  (∀ s : State, s.pending = [] →
     (s.resetAsserted = true → step s = .next s)
       ∧ (s.resetAsserted = false → ∃ t, step s = .next t ∧ t.pending.Perm (tickEvents s)
           ∧ t = { countTimers s with pending := t.pending, choice := t.choice }))
  ∧ (∀ (s : State) (n : Nat), s.pending = [] → s.resetAsserted = false → ∃ t, step s = .next t
     ∧ (∀ sp, (s.spindle sp).watchdog = some (n + 2) →
         (t.spindle sp).watchdog = some (if s.causes.guardOpen then n + 2 else n + 1))
     ∧ (∀ sp, (s.spindle sp).watchdog = some 1 →
         (.spindleWatchdogExpiry sp ∈ t.pending ↔ s.causes.guardOpen = false))
     ∧ (s.gripper.watchdog = some (n + 2) → t.gripper.watchdog = some (if s.causes.guardOpen then n + 2 else n + 1))
     ∧ (s.gripper.watchdog = some 1 → (.gripperWatchdogExpiry ∈ t.pending ↔ s.causes.guardOpen = false))
     ∧ (∀ b : Fin 4, s.bays[b].actionTimer = some (n + 2) →
         t.bays[b].actionTimer = some (if s.causes.guardOpen then n + 2 else n + 1))
     ∧ (∀ b : Fin 4, s.bays[b].actionTimer = some 1 →
         (.actionTimerExpiry b ∈ t.pending ↔ s.causes.guardOpen = false))
     ∧ (∀ b : Fin 4, s.bays[b].settleTimer = some (n + 2) → t.bays[b].settleTimer = some (n + 1))
     ∧ (∀ b : Fin 4, s.bays[b].settleTimer = some 1 → .settleTimerExpiry b ∈ t.pending)
     ∧ (∀ (b : Fin 4) (slot : Nat), s.bays[b].confirm = some ⟨slot, n + 2⟩ → t.bays[b].confirm = some ⟨slot, n + 1⟩)
     ∧ (∀ (b : Fin 4) (slot : Nat), s.bays[b].confirm = some ⟨slot, 1⟩ → .confirmWindowExpiry b ∈ t.pending)
     ∧ (∀ h, s.hold = .holding h (some (n + 2)) → t.hold = .holding h (some (n + 1)))
     ∧ (∀ h, s.hold = .holding h (some 1) → .holdExpiry ∈ t.pending)
     ∧ (s.sampleClock < 16 → t.sampleClock = s.sampleClock + 1)
     ∧ (s.settings.sampleInterval ≤ s.sampleClock + 1 → .sample s.pins ∈ t.pending ∧ t.sampleDue = true)
     ∧ (s.sampleClock + 1 < s.settings.sampleInterval → t.sampleDue = false)
     ∧ (∀ l, (s.line l).gap = some 2 → .gapTimerExpiry l ∈ t.pending)
     ∧ (∀ l, n < 2 → (s.line l).gap = some n → (t.line l).gap = some (n + 1))
     ∧ (∀ l f rest, (s.line l).tx = none → (s.line l).queue = f :: rest →
         (t.line l).tx = some f ∧ (t.line l).queue = rest)
     ∧ (∀ l f, (s.line l).tx = some f → (t.line l).tx = some f ∧ (t.line l).queue = (s.line l).queue))

/-! ### Reset and the restarts -/

/-- The cold values at reset (R19, R36, R54, R83, R95, R121, R141, R162, R166, R167, R185, R188 to R191). The levels of the
pins and of RESET are the model's choice (log entries 4 and 17), and the sample's due mark is the model's own field (log entry
30). -/
def Obligations.ResetHasTheColdValues : Prop :=
  let s := State.reset
  s.statusByte = 0x34 ∧ s.quietOut = true ∧ s.lckOut = false ∧ s.atnOut = false ∧ s.bsyOut = false
    ∧ (∀ n : Fin 16, s.slots[n] = none) ∧ s.staging = .closed
    ∧ (∀ e, s.panel e = none) ∧ s.admitCounter = 0 ∧ (∀ e : Fin 4, s.runs[e] = .idle) ∧ s.hold = .empty
    ∧ (∀ l, s.line l = ⟨.hunt, [], none, none, [], none⟩)
    ∧ (∀ sp, s.spindle sp = ⟨.ready, none, 0, 60000000, none⟩)
    ∧ (∀ z : Fin 4, s.zones[z] = ⟨⟨⟨0, 0⟩, ⟨0, 0⟩⟩, .keepOut, false⟩)
    ∧ s.gripper = ⟨.ready, none, none⟩ ∧ (∀ v : Fin 16, s.routing[v] = none) ∧ s.lastServed = 3
    ∧ (∀ b : Fin 4, s.bays[b] = ⟨.empty, none, none, false, none, none, none, none, none⟩) ∧ s.outgoing = []
    ∧ (∀ i : Fin 7, s.filters[i] = ⟨false, 0⟩) ∧ s.sampleClock = 0 ∧ s.sampleDue = false
    ∧ s.causes = ⟨false, false, true⟩ ∧ s.fault = ⟨0x7F, true, none, none, 0, false⟩
    ∧ s.notices = ⟨0, BitVec.allOnes 26, BitVec.allOnes 5⟩ ∧ s.answer = ⟨0, 0, none, []⟩
    ∧ s.ovr = false ∧ s.busy = false
    ∧ s.settings = ⟨5000, .xout, 60000, 4000, none, .fixed, 0, 3000, 50, 8000, 300, 2, 3, 3⟩

/-- A cold restart by POWER_ON, by RESET_RELEASE and by RESTART_COLD: every block has its cold values; the pins, the RESET
input, the queue and the model's counter are no block's state and stay (that power-on leaves the pins and RESET as they are
driven is the model's choice, log entry 16). RESTART COLD lets a frame in transmission finish and then places its own OK answer
with sequence number 1 (R95, R185, R188). RESET_ASSERT: a validation and the frames in transmission end without their answers,
the outputs are negated, and until the release or power-on no command has an effect (R11, R95, R185, R186; what happens at the
assertion and what at the release is the model's choice, log entry 15). -/
def Obligations.ColdRestartsAndReset : Prop :=
  (∀ s : State,
     (exec .powerOn s = .next { State.reset with
         pins := s.pins, resetAsserted := s.resetAsserted, choice := s.choice, pending := s.pending })
     ∧ (exec .resetRelease s = .next { State.reset with
         pins := s.pins, resetAsserted := false, choice := s.choice, pending := s.pending })
     ∧ (PortOpen s → exec .restartCold s = .next { State.reset with
         pins := s.pins, resetAsserted := false, choice := s.choice, pending := s.pending
         lines := mapVec (fun l => ⟨.hunt, [], none, none, [], l.tx⟩) s.lines
         answer := ⟨1, 0x62, some .ok, []⟩ }))
  ∧ ((∀ s : State, ∃ t, exec .resetAssert s = .next t ∧ t.resetAsserted = true ∧ t.busy = false
       ∧ (∀ n r, t.staging ≠ .validating n r) ∧ (∀ l, t.line l = { s.line l with tx := none })
       ∧ t.lckOut = false ∧ t.quietOut = false ∧ t.atnOut = false
       ∧ t = { s with resetAsserted := true, busy := false, staging := t.staging, lines := t.lines })
     ∧ ∀ (c : Instr) (s : State), s.resetAsserted = true → c ≠ .resetAssert → c ≠ .resetRelease → c ≠ .powerOn →
         exec c s = .next s)

/-- RESTART WARM: every block takes its warm values (R19, R53, R82, R94, R120, R140, R162, R167, R184, R191), outside the gate of
R183; in LOCKDOWN with a context record that is not recoverable it is refused with the recoverable flag of each record. A bay that
is to be indexed, is indexed or stands settled asks for the index again when a board that is not TARGETED holds a slot of it, and
is ACTIVE otherwise; an EXCHANGING bay is FAULTED; the others stay as they are. A CURRENT record changes by the cancellation of a
TARGETED board's reservation alone. An answer still in a queue is lost, one being sent stays (R94, R96). -/
def Obligations.WarmRestartResult : Prop :=
  (∀ s : State, PortOpen s →
     (s.fault.locked = true → recoverable s.fault.primary = true ∧ recoverable s.fault.lockdownRec = true) →
     ∃ t, exec .restartWarm s = .next t
       ∧ t.answer = ⟨s.answer.sequence + 1, 0x62, some .ok, []⟩ ∧ t.busy = false ∧ t.ovr = false
       ∧ t.slots = s.slots ∧ t.staging = .closed ∧ t.admitCounter = s.admitCounter
       ∧ (∀ e : Fin 4, t.runs[e] = .idle) ∧ t.hold = .empty
       ∧ (∀ l, t.line l = ⟨.hunt, [], none, none, [], (s.line l).tx⟩)
       ∧ (∀ sp, t.spindle sp = { s.spindle sp with
           current := none, watchdog := none
           state := if (s.spindle sp).state = .stalled then .ready else (s.spindle sp).state })
       ∧ t.zones = s.zones ∧ t.gripper = ⟨.ready, none, none⟩ ∧ t.routing = s.routing ∧ t.lastServed = s.lastServed
       ∧ t.outgoing = s.outgoing ∧ t.filters = s.filters ∧ t.sampleClock = s.sampleClock
       ∧ t.sampleDue = s.sampleDue ∧ t.pins = s.pins
       ∧ t.causes = ⟨false, s.guardLevel, true⟩
       ∧ t.fault = { s.fault with armed := true, pendingSet := 0, locked := false }
       ∧ t.notices = ⟨0, BitVec.allOnes 26, BitVec.allOnes 5⟩ ∧ t.settings = s.settings
       ∧ t.resetAsserted = false ∧ t.choice = s.choice ∧ t.pending = s.pending
       ∧ (∀ b : Fin 4, t.bays[b].next = s.bays[b].next ∧ t.bays[b].go = s.bays[b].go
           ∧ t.bays[b].confirm = s.bays[b].confirm ∧ t.bays[b].action = none ∧ t.bays[b].actionTimer = none
           ∧ t.bays[b].settleTimer = none)
       ∧ ∀ b : Fin 4,
         let was : Bay := s.bays[b]
         let now : Bay := t.bays[b]
         let stays := fun n : Nat => ∃ h x, s.board h = some x ∧ x.state ≠ .targeted ∧ x.reservation = some ⟨b, n⟩
         let given := fun (h : BoardHandle) (n : Nat) =>
           ∃ x, s.board h = some x ∧ x.state = .targeted ∧ x.reservation = some ⟨b, n⟩
         let indexed := was.state = .indexWanted ∨ was.state = .indexing ∨ was.state = .settling ∨ was.state = .atSlot
         (indexed → (∃ n, stays n) → now.state = .indexWanted ∧ ∃ n, stays n ∧ now.target = some n)
           ∧ (indexed → (∀ n, ¬ stays n) → now.state = .active ∧ now.target = none)
           ∧ (was.state = .exchanging → now.state = .faulted ∧ now.target = was.target)
           ∧ (was.state = .empty ∨ was.state = .active ∨ was.state = .full ∨ was.state = .faulted →
               now.state = was.state ∧ now.target = was.target)
           ∧ ((∀ h n, ¬ given h n) → now.current = was.current) ∧ (was.current = none → now.current = none)
           ∧ ∀ h n m, given h n → (∀ g k, given g k → g = h) → was.current = some m → ∃ m', now.current = some m'
             ∧ m'.id = m.id ∧ m'.pitch = m.pitch ∧ m'.clearance = m.clearance ∧ m'.fill = n
             ∧ m'.slots.length = m.slots.length ∧ ∀ i x, m.slots[i]? = some x →
               m'.slots[i]? = some (if i = n ∨ x = .spanned n then .empty else x))
  ∧ (∀ s : State, PortOpen s → s.fault.locked = true →
     (recoverable s.fault.primary = false ∨ recoverable s.fault.lockdownRec = false) →
     exec .restartWarm s = .next (s.answered .restart .notRecoverable
       [if recoverable s.fault.primary then 1 else 0, if recoverable s.fault.lockdownRec then 1 else 0]))

/-- What a warm restart does to the panels, boards and tabs (R36, R53, R82): ASSIGNED tabs and HELD and FREE boards become
SUSPECT, TARGETED boards go back to READY without their reservation, a CORRECTING panel goes back to ALIGNING with its BLOCKED
marks and corrected values undone, and everything else is kept. -/
def Obligations.WarmRestartRecords : Prop :=
  ∀ (s : State) (e : Fin 4), PortOpen s →
    (s.fault.locked = true → recoverable s.fault.primary = true ∧ recoverable s.fault.lockdownRec = true) →
    ∃ t, exec .restartWarm s = .next t ∧ (s.panel e = none → t.panel e = none)
      ∧ ∀ p, s.panel e = some p → ∃ q, t.panel e = some q
        ∧ q.id = p.id ∧ q.recipe = p.recipe ∧ q.fixture = p.fixture ∧ q.order = p.order
        ∧ q.state = (if p.state = .correcting then .aligning else p.state)
        ∧ q.correction = (if p.state = .correcting then none else p.correction)
        ∧ q.boards.length = p.boards.length
        ∧ ∀ (i : Nat) (b : BoardRecord), p.boards[i]? = some b → ∃ b', q.boards[i]? = some b'
          ∧ b' = { b with
              state := if b.state = .targeted then .ready
                else if b.state = .held ∨ b.state = .free then .suspect else b.state
              reservation := if b.state = .targeted then none else b.reservation
              pickPoint := if p.state = .correcting then none else b.pickPoint
              tabs := b'.tabs }
          ∧ b'.tabs.length = b.tabs.length
          ∧ ∀ (j : Nat) (x : TabRecord), b.tabs[j]? = some x → b'.tabs[j]? = some { x with
              corrected := if p.state = .correcting then none else x.corrected
              state := if x.state = .assigned then .suspect
                else if p.state = .correcting ∧ x.state = .blocked then
                  (if b.state = .xoutLeft then .skipped else .intact)
                else x.state }

/-! ### The command port and the lines -/

/-- A host command that is turned away (R179, R186, R187): discarded with OVR while BSY, answered LOCKED in LOCKDOWN. -/
def Obligations.HostCommandsTurnedAway : Prop :=
  ∀ (c : Instr) (name : CommandName) (s : State), hostCommand c = some name → s.resetAsserted = false →
    (s.busy = true → exec c s = .next { s with ovr := true })
      ∧ (s.busy = false → s.fault.locked = true → name.takenInLockdown = false →
          exec c s = .next (s.answered name .locked []))

/-- A station request that is turned away (R86, R89, R90): dropped while four answers are queued beside the one being sent (when
one begins to be sent: log entry 29), answered BUSY HELD while the line has a held request, LOCKED in LOCKDOWN. -/
def Obligations.StationRequestsTurnedAway : Prop :=
  ∀ (c : Instr) (l : LineId) (name : RequestName) (fields : List Byte) (s : State),
    stationRequest c = some (l, name, fields) → s.resetAsserted = false →
    (4 ≤ (s.line l).pump.queue.length → exec c s = .next (s.frameComplete l))
      ∧ ((s.line l).pump.queue.length < 4 → (s.line l).held ≠ none →
          exec c s = .next ((s.frameComplete l).replied l name .busy [0]))
      ∧ ((s.line l).pump.queue.length < 4 → (s.line l).held = none → s.fault.locked = true →
          exec c s = .next ((s.frameComplete l).replied l name .locked []))

/-- COMMAND_FRAME: the frame of a host command, laid out as R194 gives, has the effect of its row, whatever bytes follow its
check byte (R187). -/
def Obligations.CommandFramesActAsTheirRows : Prop :=
  ∀ (c : Instr) (name : CommandName) (extra : List Byte) (s : State), hostCommand c = some name → c.wellFormed = true →
    exec (.commandFrame (commandFrameBytes name (hostPayload c) ++ extra)) s = exec c s

/-- COMMAND_FRAME: a status read, a fetch and a frame cut short alter nothing (R186, R187); a frame whose sum is not 0 is answered
BADFRAME, a good one whose code is no command code UNKNOWN, each with OVR cleared and under the frame's own code (R187, tests 2
and 3). A payload that has not its command's length is LENGTH (R187, test 5), RESTART with another form RANGE, in LOCKDOWN too
(R183), NOTICE-WRITE with an action above 5 RANGE (R192). Clocked byte by byte, a transaction has the effect of COMMAND_FRAME, with its
check byte. What the port shifts out (R186): 0 while RESET is asserted; in a fetch, from its second byte position on, the buffer
its first byte found, in the fetch form of R194, and then 0; at every other position the status byte as it then stands, so that a
frame shows what it did from the position after its check byte on. A transaction in progress when RESET is asserted or released or
the power comes on is abandoned, and its later bytes have no effect (R193). That the first position of a read shows the status byte
is the model's choice, and what the port shifts out once a transaction is abandoned is a free value (log entry 31). -/
def Obligations.FramesThatReachNoCommand : Prop :=
  (∀ (bytes : List Byte) (code len : Byte) (s : State),
     exec (.commandFrame (0xA5 :: bytes)) s = .next s ∧ exec (.commandFrame (0xA6 :: bytes)) s = .next s
       ∧ exec (.commandFrame [code]) s = .next s
       ∧ (bytes.length ≤ len.toNat → exec (.commandFrame (code :: len :: bytes)) s = .next s))
  ∧ (∀ (code check : Byte) (payload : List Byte) (s : State), PortOpen s → payload.length ≤ 255 → code ≠ 0xA5 → code ≠ 0xA6 →
     let bytes := code :: BitVec.ofNat 8 payload.length :: payload ++ [check]
     (sumBytes bytes ≠ 0 → exec (.commandFrame bytes) s = .next { s with
         ovr := false, answer := ⟨s.answer.sequence + 1, code, some .badFrame, []⟩ })
       ∧ (sumBytes bytes = 0 → commandOf code = none → exec (.commandFrame bytes) s = .next { s with
           ovr := false, answer := ⟨s.answer.sequence + 1, code, some .unknown, []⟩ }))
  ∧ (∀ (name : CommandName) (payload : List Byte) (s : State), PortOpen s → payload.length ≤ 255 →
     let refused := fun code : HostCode =>
       exec (.commandFrame (commandFrameBytes name payload)) s = .next (s.answered name code [])
     let lengths : List (CommandName × Nat) := [(.recipeEnd, 0), (.recipeDrop, 1), (.recipeRead, 1), (.panelAdmit, 6),
       (.panelRetire, 2), (.panelRead, 1), (.boardRead, 2), (.tabRead, 3), (.decide, 3), (.tabResolve, 4), (.boardResolve, 3),
       (.bitChange, 9), (.stationClear, 1), (.zoneSet, 15), (.magStage, 10), (.magGo, 1), (.magUnstage, 1), (.magRead, 3),
       (.magRelease, 4), (.bayExchange, 1), (.bayClear, 2), (.pause, 0), (.resume, 0), (.restart, 1), (.configSet, 5),
       (.configRead, 1), (.noticeRead, 0), (.noticeWrite, 5), (.faultRead, 0), (.faultAck, 0)]
     (s.fault.locked = false ∨ name.takenInLockdown = true →
         (∀ n, (name, n) ∈ lengths → payload.length ≠ n → refused .length)
           ∧ (name = .bayRoute → payload = [] ∨ payload.length % 2 = 1 ∨ 32 < payload.length → refused .length))
       ∧ (∀ form : Byte, name = .restart → payload = [form] → 1 < form.toNat → refused .range)
       ∧ ∀ (action : Byte) (mask : List Byte), s.fault.locked = false → name = .noticeWrite → payload = action :: mask →
         mask.length = 4 → 5 < action.toNat → refused .range)
  ∧ (∀ (a : AnswerBuffer), let n := a.fields.length + 2
     ∃ check, sumBytes a.fetchBytes = 0 ∧ a.fetchBytes =
       a.sequence :: BitVec.ofNat 8 (n / 256) :: BitVec.ofNat 8 n :: a.command
         :: (match a.code with
           | some c => BitVec.ofNat 8 c.code
           | none => 0xFF) :: a.fields ++ [check])
  ∧ (∀ (code len : Byte) (rest : List Byte) (s t : State), s.resetAsserted = false →
    let bytes := code :: len :: rest
    exec (.commandFrame bytes) s = .next t →
      (s.clocked bytes).part = t ∧ (s.shiftedOut bytes).length = bytes.length ∧ ∀ i, i < bytes.length →
        (code ≠ 0xA5 → code ≠ 0xA6 →
            (s.shiftedOut bytes)[i]? = some (if i < len.toNat + 3 then s.statusByte else t.statusByte))
          ∧ (code = 0xA5 → (s.shiftedOut bytes)[i]? = some s.statusByte)
          ∧ (code = 0xA6 → (s.shiftedOut bytes)[i]? =
              some (if i = 0 then s.statusByte else s.answer.fetchBytes.getD (i - 1) 0)))
  ∧ (∀ (m : PortState) (byte : Byte),
    let n := m.after [.clock byte]
    let out := m.outputs [.clock byte]
    (m.part.resetAsserted = true → out = [0] ∧ n.part = m.part ∧ n.selection.abandoned = true)
      ∧ (m.part.resetAsserted = false → m.selection.abandoned = true →
          out = [Config.idleOutput m.selection.clocked] ∧ n.part = m.part ∧ n.selection.abandoned = true)
      ∧ (m.part.resetAsserted = false → m.selection.abandoned = false →
        n.selection.received = m.selection.received ++ [byte] ∧ n.selection.abandoned = false
          ∧ (m.selection.received = [] → out = [m.part.statusByte] ∧ n.selection.found = m.part.answer)
          ∧ (∀ first rest, m.selection.received = first :: rest → n.selection.found = m.selection.found
              ∧ out = [if first = 0xA6 then m.selection.found.fetchBytes.getD rest.length 0 else m.part.statusByte])
          ∧ (∀ code len body, m.selection.received ++ [byte] = code :: len :: body →
              code ≠ 0xA5 → code ≠ 0xA6 → body.length = len.toNat + 1 →
              exec (.commandFrame (m.selection.received ++ [byte])) m.part = .next n.part)
          ∧ ((∀ code len body, m.selection.received ++ [byte] = code :: len :: body →
              code = 0xA5 ∨ code = 0xA6 ∨ body.length ≠ len.toNat + 1) → n.part = m.part)))
  ∧ (∀ (m : PortState) (c : Instr),
    exec c m.part = .next (m.after [.take c]).part
      ∧ (c = .resetAssert ∨ c = .resetRelease ∨ c = .powerOn → (m.after [.take c]).selection.abandoned = true)
      ∧ (c ≠ .resetAssert → c ≠ .resetRelease → c ≠ .powerOn → (m.after [.take c]).selection = m.selection)
      ∧ Machine.step m.part = .next (m.after [.step]).part
      ∧ (∀ rest, m.part.pending = c :: rest → (m.after [.step]).selection = (m.after [.take c]).selection)
      ∧ (m.part.pending = [] → (m.after [.step]).selection = m.selection))
  ∧ ∀ (m : PortState) (events : List PortEvent), m.selection.abandoned = true →
    (m.after events).selection.abandoned = true
      ∧ ((∀ e ∈ events, ∃ byte, e = .clock byte) → (m.after events).part = m.part)

/-- STATION_FRAME: the frame of a station request, laid out as R194 gives, has the effect of its row; so has the arrival of its
bytes one by one on a line in HUNT (R85). Tests 1 to 3 of R86: a complete frame whose sum is not 0 is dropped, a code foreign to
the line is answered UNKNOWN, or dropped while four answers are queued beside the one being sent (log entry 29), a length that is
not its code's is dropped. -/
def Obligations.StationFramesActAsTheirRows : Prop :=
  (∀ (c : Instr) (l : LineId) (name : RequestName) (fields : List Byte) (s : State),
     stationRequest c = some (l, name, fields) →
     exec (.stationFrame l (frameBody ⟨name.byte, fields⟩)) s = exec c s
       ∧ ((s.line l).receiver = .hunt →
           (frameBytes ⟨name.byte, fields⟩).foldl
             (fun o b => match o with
               | .next t => exec (.stationLineByte l b false) t
               | .fault r => .fault r
               | .refused r => .refused r) (.next s) = exec c s))
  ∧ (∀ (l : LineId) (len code : Byte) (rest : List Byte) (s : State), s.resetAsserted = false → 1 ≤ len.toNat →
     len.toNat ≤ 32 → rest.length = len.toNat →
     let bytes := len :: code :: rest
     (sumBytes bytes ≠ 0 → exec (.stationFrame l bytes) s = .next (s.frameComplete l))
       ∧ (sumBytes bytes = 0 → requestOf l code = none → 4 ≤ (s.line l).pump.queue.length →
           exec (.stationFrame l bytes) s = .next (s.frameComplete l))
       ∧ (sumBytes bytes = 0 → requestOf l code = none → (s.line l).pump.queue.length < 4 →
           exec (.stationFrame l bytes) s = .next ((s.frameComplete l).sendAnswer l ⟨0x90, [code]⟩))
       ∧ (∀ name, sumBytes bytes = 0 → requestOf l code = some name → len.toNat ≠ name.length →
           exec (.stationFrame l bytes) s = .next (s.frameComplete l)))

/-- STATION_LINE_BYTE: what one byte does to the receiver; GAP_TIMER_EXPIRY drops the frame in progress at the gap timer's last
tick, and has no effect while that timer is stopped or has counted fewer ticks (log entry 2); FRAME_TRANSMITTED lets the next
queued answer follow; an answer joins the tail of its queue in the event that forms it (R85, R87, R96). When nothing is being
sent, the oldest queued answer begins to be with the next tick or with the next frame of the line that is completed or
transmitted (the model's choice, log entry 29). -/
def Obligations.LinesReceiveAndTransmit : Prop :=
  (∀ (l : LineId) (byte : Byte) (err : Bool) (s : State), s.resetAsserted = false →
     let idle := s.setLine l { s.line l with receiver := .hunt, partialFrame := [], gap := none }
     ((s.line l).receiver = .hunt → byte = 0x7E → err = false →
         exec (.stationLineByte l byte err) s =
           .next (s.setLine l { s.line l with receiver := .length, partialFrame := [], gap := some 0 }))
       ∧ ((s.line l).receiver = .hunt → (byte ≠ 0x7E ∨ err = true) → exec (.stationLineByte l byte err) s = .next s)
       ∧ ((s.line l).receiver = .length → err = false → 1 ≤ byte.toNat → byte.toNat ≤ 32 →
           exec (.stationLineByte l byte err) s =
             .next (s.setLine l { s.line l with receiver := .body, partialFrame := [byte], gap := some 0 }))
       ∧ ((s.line l).receiver = .length → (err = true ∨ byte.toNat = 0 ∨ 32 < byte.toNat) →
           exec (.stationLineByte l byte err) s = .next idle)
       ∧ ((s.line l).receiver = .body → err = true → exec (.stationLineByte l byte err) s = .next idle)
       ∧ ((s.line l).receiver = .body → err = false →
           bytesComplete ((s.line l).partialFrame ++ [byte]) = false →
           exec (.stationLineByte l byte err) s =
             .next (s.setLine l { s.line l with partialFrame := (s.line l).partialFrame ++ [byte], gap := some 0 }))
       ∧ ((s.line l).receiver = .body → err = false →
           bytesComplete ((s.line l).partialFrame ++ [byte]) = true →
           exec (.stationLineByte l byte err) s = exec (.stationFrame l ((s.line l).partialFrame ++ [byte])) s))
  ∧ (∀ (l : LineId) (s : State), s.resetAsserted = false →
     ((s.line l).gap = some 2 → exec (.gapTimerExpiry l) s =
         .next (s.setLine l { s.line l with receiver := .hunt, partialFrame := [], gap := none }))
       ∧ ((s.line l).gap = none → exec (.gapTimerExpiry l) s = .next s)
       ∧ (∀ n, n < 2 → (s.line l).gap = some n → exec (.gapTimerExpiry l) s = .next s)
       ∧ (∀ f g rest, (s.line l).tx = some f → (s.line l).queue = g :: rest → exec (.frameTransmitted l) s =
           .next (s.setLine l { s.line l with tx := some g, queue := rest }))
       ∧ (∀ f, (s.line l).tx = some f → (s.line l).queue = [] → exec (.frameTransmitted l) s =
           .next (s.setLine l { s.line l with tx := none }))
       ∧ ((s.line l).tx = none → (s.line l).queue = [] → exec (.frameTransmitted l) s = .next s)
       ∧ (∀ f rest, (s.line l).tx = none → (s.line l).queue = f :: rest → exec (.frameTransmitted l) s =
           exec (.frameTransmitted l) (s.setLine l { s.line l with tx := some f, queue := rest }))
       ∧ (∀ f, s.sendAnswer l f = s.setLine l { s.line l with queue := (s.line l).queue ++ [f] })
       ∧ (∀ f rest, (s.line l).tx = none → (s.line l).queue = f :: rest → s.frameComplete l =
           s.setLine l ⟨.hunt, [], none, (s.line l).held, rest, some f⟩)
       ∧ ((s.line l).tx ≠ none ∨ (s.line l).queue = [] → s.frameComplete l =
           s.setLine l ⟨.hunt, [], none, (s.line l).held, (s.line l).queue, (s.line l).tx⟩))

/-- CONFIG_SET and CONFIG_READ (R190): items 0 to 13 are clamped to their ranges and read back as taken, item 14 takes the low
seven bits, an item above 14 is RANGE. With a changed sample interval the next sample waits for a tick to find it due (R165; the
due mark is the model's own field, log entry 30). -/
def Obligations.ConfigItems : Prop :=
  (List.finRange 14).map itemRange = [(100, 30000), (0, 1), (20000, 200000), (50, 20000), (0, 4), (0, 2), (0, 3), (50, 20000),
      (0, 500), (100, 60000), (0, 2000), (1, 16), (1, 16), (1, 16)]
  ∧ ∀ (s : State) (value : Word), PortNormal s →
    (∀ i : Fin 14, ∃ c : Settings,
        let v := min (max (itemRange i).1 value.toNat) (itemRange i).2
        exec (.configSet (BitVec.ofNat 8 i) value) s = .next
            ({ s with
              settings := c
              sampleDue := s.sampleDue && decide (c.sampleInterval = s.settings.sampleInterval) }.answered
                .configSet .ok (BitVec.ofNat 8 i :: u32 v))
          ∧ c.read i = v ∧ (∀ j, j ≠ i → c.read j = s.settings.read j)
          ∧ exec (.configRead (BitVec.ofNat 8 i)) s =
              .next (s.answered .configRead .ok (BitVec.ofNat 8 i :: u32 (s.settings.read i))))
      ∧ exec (.configSet 14 value) s = .next ({ s with fault := { s.fault with enables := value.setWidth 7 } }.answered
          .configSet .ok (14 :: u32 (value.setWidth 7).toNat))
      ∧ exec (.configRead 14) s = .next (s.answered .configRead .ok (14 :: u32 s.fault.enables.toNat))
      ∧ ∀ item : Byte, 14 < item.toNat → exec (.configSet item value) s = .next (s.answered .configSet .range [])
          ∧ exec (.configRead item) s = .next (s.answered .configRead .range [])

/-- NOTICE_WRITE: the six actions on the flags, the enables and the group enables the mask selects; bits outside the mask
stay, mask bits that name nothing are disregarded, and the answer carries the flags and ATN after the command (R192). -/
def Obligations.NoticeWriteActions : Prop :=
  ∀ (s : State) (mask : Word), PortNormal s →
    let m : BitVec 26 := mask.setWidth 26
    let g : BitVec 5 := mask.setWidth 5
    let after := fun n : NoticeUnit =>
      { s with notices := n }.answered .noticeWrite .ok (u32 n.flags.toNat ++ [if n.atn then 1 else 0])
    exec (.noticeWriteSet mask) s = .next (after { s.notices with flags := s.notices.flags ||| m })
      ∧ exec (.noticeWriteClear mask) s = .next (after { s.notices with flags := s.notices.flags &&& ~~~m })
      ∧ exec (.noticeWriteEnable mask) s = .next (after { s.notices with enables := s.notices.enables ||| m })
      ∧ exec (.noticeWriteDisable mask) s = .next (after { s.notices with enables := s.notices.enables &&& ~~~m })
      ∧ exec (.noticeWriteGroupEnable mask) s =
          .next (after { s.notices with groupEnables := s.notices.groupEnables ||| g })
      ∧ exec (.noticeWriteGroupDisable mask) s =
          .next (after { s.notices with groupEnables := s.notices.groupEnables &&& ~~~g })

/-- ATN is asserted exactly while some group holds a flag that is set and enabled, and the group is enabled; a group's flags
stand where R194 puts them (R191). The status byte shows BSY, OVR, PAUSED, QUIET, LOCKDOWN, ARMED, ATN and STAGING in bits 7 to 0,
each while the state it stands for holds (R189, R194). -/
def Obligations.AtnSummarisesEnabledFlags : Prop :=
  (∀ s : State, s.statusByte.getLsbD 7 = s.busy ∧ s.statusByte.getLsbD 6 = s.ovr
    ∧ (s.statusByte.getLsbD 5 = true ↔ s.causes ≠ ⟨false, false, false⟩)
    ∧ (s.statusByte.getLsbD 4 = true ↔ s.pauseState = .paused)
    ∧ s.statusByte.getLsbD 3 = s.fault.locked ∧ s.statusByte.getLsbD 2 = s.fault.armed
    ∧ s.statusByte.getLsbD 1 = s.notices.atn ∧ (s.statusByte.getLsbD 0 = true ↔ s.staging ≠ .closed))
  ∧ ∀ n : NoticeUnit, n.atn = true ↔
    ((∃ i, i < 4 ∧ n.flags.getLsbD i = true ∧ n.enables.getLsbD i = true) ∧ n.groupEnables.getLsbD 0 = true)
    ∨ ((∃ i, 4 ≤ i ∧ i < 10 ∧ n.flags.getLsbD i = true ∧ n.enables.getLsbD i = true) ∧ n.groupEnables.getLsbD 1 = true)
    ∨ ((∃ i, 10 ≤ i ∧ i < 12 ∧ n.flags.getLsbD i = true ∧ n.enables.getLsbD i = true) ∧ n.groupEnables.getLsbD 2 = true)
    ∨ ((∃ i, 12 ≤ i ∧ i < 16 ∧ n.flags.getLsbD i = true ∧ n.enables.getLsbD i = true) ∧ n.groupEnables.getLsbD 3 = true)
    ∨ ((∃ i, 16 ≤ i ∧ i < 26 ∧ n.flags.getLsbD i = true ∧ n.enables.getLsbD i = true) ∧ n.groupEnables.getLsbD 4 = true)

/-- The reads in NORMAL and in LOCKDOWN alike: each is refused as its rule gives or answered OK, and alters nothing but the answer
buffer and OVR (R16, R31, R80, R81, R159, R179, R181, R190, R192). Then the fields of these answers one by one, in the order of
their rules and at the widths of R194: the header, counts and staging mark of RECIPE-READ, the panel, board and tab records, the
magazine record with its bay and its slots, the context records. The form of these answers where the spec leaves it open is the
model's choice: widths (log entry 9), absent fields (10), context records (13), MAG-READ (22). -/
def Obligations.ReadsAnswerAndAlterNothing : Prop :=
  (∀ s : State, PortOpen s →
    ((∀ n : Fin 16, exec (.recipeRead (BitVec.ofNat 8 n)) s = .next (s.answered .recipeRead .ok
        (u8 n ++ u8 (if (s.slots[n]).isSome then 1 else 0) ++ headerFields s.slots[n] ++ u16 (s.inUse n)
          ++ stagingFields s.staging n)))
      ∧ ∀ number : Byte, 15 < number.toNat → exec (.recipeRead number) s = .next (s.answered .recipeRead .range []))
    ∧ ((∀ (e : Fin 4), exec (.panelRead (BitVec.ofNat 8 e)) s = .next (s.answered .panelRead .ok
          (match s.panel e with
            | none => [5]
            | some p => panelFields s e p)))
      ∧ ∀ entry : Byte, 3 < entry.toNat → exec (.panelRead entry) s = .next (s.answered .panelRead .range []))
    ∧ ((∀ entry site tab : Byte,
          (3 < entry.toNat ∨ 63 < site.toNat → exec (.boardRead entry site) s = .next (s.answered .boardRead .range []))
            ∧ (3 < entry.toNat ∨ 63 < site.toNat ∨ 7 < tab.toNat →
              exec (.tabRead entry site tab) s = .next (s.answered .tabRead .range [])))
      ∧ ∀ (e : Fin 4) (site tab : Byte), site.toNat ≤ 63 →
        let e8 : Byte := BitVec.ofNat 8 e
        let h : BoardHandle := ⟨e, site.toNat⟩
        (s.panel e = none → exec (.boardRead e8 site) s = .next (s.answered .boardRead .noPanel []))
          ∧ (s.panel e ≠ none → s.board h = none → exec (.boardRead e8 site) s = .next (s.answered .boardRead .noRecord []))
          ∧ (∀ b, s.board h = some b → exec (.boardRead e8 site) s = .next (s.answered .boardRead .ok (boardFields s h b)))
          ∧ (tab.toNat ≤ 7 →
            (s.panel e = none → exec (.tabRead e8 site tab) s = .next (s.answered .tabRead .noPanel []))
              ∧ (s.panel e ≠ none → s.tab ⟨e, site.toNat, tab.toNat⟩ = none →
                  exec (.tabRead e8 site tab) s = .next (s.answered .tabRead .noRecord []))
              ∧ ∀ b x, s.board h = some b → b.tabs[tab.toNat]? = some x →
                exec (.tabRead e8 site tab) s = .next (s.answered .tabRead .ok (tabFields b x))))
    ∧ ((∀ p : Fin 4, locationOf (BitVec.ofNat 8 p) = some (.currentOf p)
          ∧ locationOf (BitVec.ofNat 8 (0x10 + p)) = some (.nextOf p)
          ∧ locationOf (BitVec.ofNat 8 (0x20 + p)) = some (.outgoingAt p))
      ∧ ∀ code first count : Byte,
        ((∀ p : Fin 4, code.toNat ≠ p ∧ code.toNat ≠ 0x10 + p ∧ code.toNat ≠ 0x20 + p) →
            exec (.magRead code first count) s = .next (s.answered .magRead .range []))
          ∧ ∀ l, locationOf code = some l →
            (s.magazineAt l = none → exec (.magRead code first count) s = .next (s.answered .magRead .noMagazine []))
              ∧ ∀ m, s.magazineAt l = some m →
                (m.slots.length ≤ first.toNat ∨ count.toNat = 0 ∨ 16 < count.toNat →
                    exec (.magRead code first count) s = .next (s.answered .magRead .range []))
                  ∧ (first.toNat < m.slots.length → 1 ≤ count.toNat → count.toNat ≤ 16 →
                    exec (.magRead code first count) s =
                      .next (s.answered .magRead .ok (magFields s l m first.toNat count.toNat))))
    ∧ ((∀ i : Fin 14, exec (.configRead (BitVec.ofNat 8 i)) s =
          .next (s.answered .configRead .ok (BitVec.ofNat 8 i :: u32 (s.settings.read i))))
      ∧ exec (.configRead 14) s = .next (s.answered .configRead .ok (14 :: u32 s.fault.enables.toNat))
      ∧ ∀ item : Byte, 14 < item.toNat → exec (.configRead item) s = .next (s.answered .configRead .range []))
    ∧ exec .noticeRead s = .next (s.answered .noticeRead .ok
        (u32 s.notices.flags.toNat ++ u32 s.notices.enables.toNat ++ u32 s.notices.groupEnables.toNat
          ++ s.notices.summaries.flatMap flag ++ flag s.notices.atn))
    ∧ exec .faultRead s = .next (s.answered .faultRead .ok
        (flag s.fault.locked ++ flag s.fault.armed ++ classMarks s.fault.enables ++ classMarks s.fault.pendingSet
          ++ recordFields s.fault.primary ++ recordFields s.fault.lockdownRec)))
  ∧ (∀ (n : Nat) (i : Int) (b : Bool) (p : Point) (z : Rect),
     u8 n = [BitVec.ofNat 8 n] ∧ u16 n = [BitVec.ofNat 8 (n / 256), BitVec.ofNat 8 n]
       ∧ u24 n = [BitVec.ofNat 8 (n / 65536), BitVec.ofNat 8 (n / 256), BitVec.ofNat 8 n]
       ∧ u32 n = BitVec.ofNat 8 (n / 16777216) :: u24 n
       ∧ s24 i = u24 (i % 16777216).toNat ∧ s32 i = u32 (i % 4294967296).toNat ∧ flag b = (if b then [1] else [0])
       ∧ opt8 none = [0xFF] ∧ opt8 (some n) = u8 n
       ∧ pointBytes p = s24 p.x ++ s24 p.y ∧ rectBytes z = pointBytes z.low ++ pointBytes z.high)
  ∧ ∀ wide : Nat → Option (List Byte) → List Byte,
    (∀ width, wide width none = List.replicate (width + 1) 0) → (∀ width bytes, wide width (some bytes) = 1 :: bytes) →
    (headerFields none = List.replicate 23 0
      ∧ (∀ r : Recipe, headerFields (some r) = u8 r.header.packing.code ++ u8 r.header.pitch ++ u8 r.header.siteCount
          ++ u16 (r.sites.map (fun x => x.tabs.length)).sum ++ u16 (r.zones.toList.filter Option.isSome).length
          ++ pointBytes r.header.f1 ++ pointBytes r.header.f2 ++ u24 r.header.thickness ++ u8 r.header.xout.code)
      ∧ (∀ (n : Fin 16) (r : StagedRecipe), stagingFields (.opened n r) n =
          [1] ++ wide 2 (some (u16 (r.sites.filter Option.isSome).length))
            ++ wide 2 (some (u16 (r.zones.toList.filter Option.isSome).length)))
      ∧ (∀ (st : Staging) (n : Fin 16), (∀ r, st ≠ .opened n r) → stagingFields st n = [0] ++ wide 2 none ++ wide 2 none)
      ∧ ∀ (s : State) (n : Fin 16),
        s.inUse n = ((List.finRange 4).filter (fun e => decide ((s.panel e).map (·.recipe) = some n))).length)
    ∧ (∀ (s : State) (e : Fin 4) (p : Panel) (other : Option (Fin 4)), s.panel e = some p →
        (∀ x, other = some x ↔ x ≠ e ∧ ∃ q, s.panel x = some q ∧ q.fixture = p.fixture) →
        let tabs := p.boards.flatMap (·.tabs)
        panelFields s e p = u32 p.id.toNat ++ u8 p.recipe ++ u8 p.fixture ++ u8 p.state.code
          ++ (if p.state = .queued then [1] else [0]) ++ opt8 (other.map Fin.val)
          ++ wide 4 (p.correction.map (fun c => s32 c.c)) ++ wide 4 (p.correction.map (fun c => s32 c.s))
          ++ wide 6 (p.correction.map (fun c => pointBytes c.f1m)) ++ u8 p.boards.length ++ u16 tabs.length
          ++ [BoardState.awaitMark, .unsure, .cutting, .ready, .targeted, .held, .free, .suspect, .placed, .xoutLeft, .stranded,
              .lost].flatMap (fun st => u16 (p.boards.filter (fun b => decide (b.state = st))).length)
          ++ [TabState.intact, .assigned, .cut, .skipped, .blocked, .suspect].flatMap
            (fun st => u16 (tabs.filter (fun x => decide (x.state = st))).length)
          ++ flag (s.clampLevel p.fixture))
    ∧ (∀ (s : State) (h : BoardHandle) (b : BoardRecord) (mark : Bool), (mark = true ↔ ∃ t, s.hold = .holding h t) →
        boardFields s h b = u8 b.site ++ u8 b.variant ++ pointBytes b.origin ++ u24 b.width ++ u24 b.height ++ u24 b.topHeight
          ++ wide 6 (b.pickPoint.map pointBytes) ++ u8 b.verdict.code ++ u8 b.remaining ++ u8 b.state.code
          ++ opt8 (b.reservation.map (fun r => r.bay.val)) ++ opt8 (b.reservation.map (·.slot)) ++ flag b.notedNoDest
          ++ flag b.notedUnfit ++ flag mark ++ b.tabs.flatMap (fun x => u8 x.state.code))
    ∧ (∀ (b : BoardRecord) (x : TabRecord) (mark : Bool),
        (mark = true ↔ x.state = .intact
          ∧ ((x.release = false ∧ b.state = .cutting) ∨ (x.release = true ∧ b.state = .held))) →
        tabFields b x = u8 x.ownerSite ++ u8 x.index ++ pointBytes x.nominal ++ u8 x.orient.code ++ u24 x.width ++ u8 x.seq
          ++ flag x.release ++ wide 6 (x.corrected.map pointBytes) ++ u8 x.state.code
          ++ (match x.lastSpindle with
            | none => [0xFF]
            | some .a => [0]
            | some .b => [1])
          ++ wide 12 (x.corrected.map (fun m => rectBytes (segmentBox x.orient x.width m))) ++ flag mark)
    ∧ (∀ (s : State) (l : Location) (m : Magazine) (first count : Nat),
        let placed := fun p : PlacedBoard => u32 p.panelId.toNat ++ u8 p.site ++ u8 p.variant ++ u8 p.verdict.code
        let slot := fun x : Slot => match x with
          | .empty => [0]
          | .reserved h => [1] ++ u8 h.entry ++ u8 h.site
          | .spanned head => [2] ++ u8 head
          | .occupied p => [3] ++ placed p
          | .doubtful p => [4] ++ placed p
        let bay := fun b : Bay => u8 b.state.code ++ flag b.go ++ opt8 b.target
          ++ (match b.action with
            | none => [0xFF]
            | some .index => [0]
            | some .exchange => [1])
          ++ (match b.confirm with
            | none => [0, 0xFF] ++ wide 2 none
            | some w => [1] ++ u8 w.slot ++ wide 2 (some (u16 w.remaining)))
        (∀ b : Fin 4, s.magazineAt (.currentOf b) = s.bays[b].current ∧ s.magazineAt (.nextOf b) = s.bays[b].next
            ∧ s.magazineAt (.outgoingAt b) = s.outgoing[b.val]?)
          ∧ magFields s l m first count =
            u32 m.id.toNat ++ u8 m.slots.length ++ u16 m.pitch ++ u16 m.clearance ++ u8 m.fill
              ++ (match l with
                | .currentOf b => bay s.bays[b]
                | .nextOf b => bay s.bays[b]
                | .outgoingAt _ => [])
              ++ u16 s.outgoing.length ++ ((m.slots.drop first).take count).flatMap slot)
    ∧ (∀ m : BitVec 7, classMarks m = ([0, 1, 2, 3, 4, 5, 6] : List Nat).flatMap (fun i => flag (m.getLsbD i)))
    ∧ recordFields none = [1]
    ∧ ∀ c : Context, recordFields (some c) = [0] ++ u8 c.cls.code ++ u8 c.cause.code
        ++ opt8 (c.station.map (fun l => l.idx.val)) ++ opt8 (c.bay.map Fin.val) ++ opt8 (c.entry.map Fin.val)
        ++ wide 4 (c.panelId.map (fun w => u32 w.toNat)) ++ opt8 c.site ++ opt8 c.tab ++ flag c.recoverable

/-! ### Faults -/

/-- FAULT_ACK in NORMAL arms the part and empties the pending set, and is answered with the set as it was; in LOCKDOWN it is
refused and changes nothing else (R182). That the answer sends the set as seven marks is the model's choice (log entry 13). -/
def Obligations.FaultAckReArms : Prop :=
  ∀ s : State, PortOpen s →
    (s.fault.locked = false → exec .faultAck s = .next
        ({ s with fault := { s.fault with armed := true, pendingSet := 0 } }.answered .faultAck .ok
          (classMarks s.fault.pendingSet)))
      ∧ (s.fault.locked = true → exec .faultAck s = .next (s.answered .faultAck .locked []))

/-- The Fault Unit takes a reported fault: the table of R177 in NORMAL, R180 in LOCKDOWN, and LOCKDOWN entry by R178. -/
def Obligations.FaultUnitTakesAFault : Prop :=
  ∀ (s : State) (c : Context),
    let raised := fun (n : Notice) => { s.notices with flags := s.notices.flags ||| BitVec.twoPow 26 n.bit }
    let severe := c.cls = .handling ∨ c.cls = .clamp
    let pended := { s with
      fault := { s.fault with pendingSet := s.fault.pendingSet ||| BitVec.twoPow 7 c.cls.code }
      notices := raised .pending }
    (s.fault.enables.getLsbD c.cls.code = false →
        s.reportFault c = { s with notices := raised (.classFlag c.cls) })
      ∧ (s.fault.enables.getLsbD c.cls.code = true → s.fault.locked = true → s.reportFault c = pended)
      ∧ (s.fault.enables.getLsbD c.cls.code = true → s.fault.locked = false → s.fault.armed = true →
          s.reportFault c = { s with
            fault := { s.fault with primary := some c, armed := false }
            notices := raised .captured })
      ∧ (s.fault.enables.getLsbD c.cls.code = true → s.fault.locked = false → s.fault.armed = false → ¬severe →
          s.reportFault c = pended)
      ∧ (s.fault.enables.getLsbD c.cls.code = true → s.fault.locked = false → s.fault.armed = false → severe →
          s.reportFault c = { s with
            fault := { s.fault with lockdownRec := some c, locked := true }
            notices := raised .lockdown
            spindleA := { s.spindleA with watchdog := none }
            spindleB := { s.spindleB with watchdog := none }
            gripper := { s.gripper with watchdog := none }
            bays := mapVec (fun b => { b with actionTimer := none }) s.bays
            hold := s.hold.stop })

/-! ### Recipes -/

/-- The three packings (R3, R4, R5): P12 is two 12-bit numbers times the grid pitch, W16 two 16-bit numbers times 10, S24 two
signed 24-bit numbers; a W16 y above 45,000, a W16 x above 60,000 and a negative S24 value lie outside the envelope. -/
def Obligations.PairsExpandByTheirPacking : Prop :=
  ∀ (before after : List Byte) (pitch : Nat) (b0 b1 b2 b3 b4 b5 : Byte),
    let i := before.length
    pairAt .p12 pitch (before ++ b0 :: b1 :: b2 :: after) i =
        ⟨((b0 ++ b1.extractLsb' 4 4 : BitVec 12).toNat * pitch : Nat),
          ((b1.extractLsb' 0 4 ++ b2 : BitVec 12).toNat * pitch : Nat)⟩
      ∧ pairAt .w16 pitch (before ++ b0 :: b1 :: b2 :: b3 :: after) i =
        ⟨((b0 ++ b1 : BitVec 16).toNat * 10 : Nat), ((b2 ++ b3 : BitVec 16).toNat * 10 : Nat)⟩
      ∧ (60000 < (b0 ++ b1 : BitVec 16).toNat ∨ 45000 < (b2 ++ b3 : BitVec 16).toNat →
          ¬ Inside (pairAt .w16 pitch (before ++ b0 :: b1 :: b2 :: b3 :: after) i))
      ∧ pairAt .s24 pitch (before ++ b0 :: b1 :: b2 :: b3 :: b4 :: b5 :: after) i =
        ⟨(b0 ++ b1 ++ b2 : BitVec 24).toInt, (b3 ++ b4 ++ b5 : BitVec 24).toInt⟩
      ∧ (∀ q, q = pairAt .w16 pitch (before ++ b0 :: b1 :: b2 :: b3 :: after) i →
          0 ≤ q.x ∧ q.x ≤ 655350 ∧ 0 ≤ q.y ∧ q.y ≤ 655350)
      ∧ pairAt .p12 255 [0xFF, 0xFF, 0xFF] 0 = ⟨1044225, 1044225⟩
      ∧ (b0.msb = true ∨ b3.msb = true →
          ¬ Inside (pairAt .s24 pitch (before ++ b0 :: b1 :: b2 :: b3 :: b4 :: b5 :: after) i))

/-- RECIPE_BEGIN, RECIPE_SITE and RECIPE_ZONE write the staging area and nothing else (R6 to R10): BEGIN opens a fresh staging
and drops any open one, SITE and ZONE replace their whole entry. Their refusals in the order of R7, R9 and R10: BEGIN is RANGE
for a packing code of none, LENGTH, RANGE for a number above 15, a P12 pitch of 0, a site count of 0 or above 64 or an x-out
code of none, INUSE for a number in use; SITE is NOT-OPEN without an open staging, RANGE for a tab count above 8, LENGTH, RANGE
for a site index not below the site count, a variant above 15 or an orientation code of none; ZONE is NOT-OPEN, LENGTH, RANGE
for an index above 7. What a payload too short to hold its packing code (RANGE) or its tab count (LENGTH) is answered is the
model's choice (log entry 8). -/
def Obligations.RecipeFramesFillTheStaging : Prop :=
  ∀ s : State, PortNormal s →
    (∀ (n : Fin 16) (packing : Packing) (pitch count : Byte) (f1 f2 : List Byte) (thickness : Half) (mode : XoutMode),
      f1.length = packing.width → f2.length = packing.width → (packing = .p12 → pitch ≠ 0) → 1 ≤ count.toNat →
      count.toNat ≤ 64 →
      let payload := [BitVec.ofNat 8 n, BitVec.ofNat 8 packing.code, pitch, count] ++ f1 ++ f2 ++ halfBytes thickness
        ++ [BitVec.ofNat 8 mode.code]
      let grid := if packing = .p12 then pitch.toNat else 0
      (s.inUse n ≠ 0 → exec (.recipeBegin payload) s = .next (s.answered .recipeBegin .inUse []))
        ∧ (s.inUse n = 0 → exec (.recipeBegin payload) s = .next ({ s with
            staging := .opened n ⟨⟨packing, grid, count.toNat, pairAt packing grid f1 0, pairAt packing grid f2 0,
              thickness.toNat * 10, mode⟩, List.replicate count.toNat none, Vector.replicate 8 none⟩ }.answered
                .recipeBegin .ok [BitVec.ofNat 8 n])))
    ∧ (∀ (n : Fin 16) (r : StagedRecipe), s.staging = .opened n r →
      let w := r.header.packing.width
      let pair := fun l => pairAt r.header.packing r.header.pitch l 0
      (∀ (site variant : Byte) (origin : List Byte) (width height top : Half) (tabs : List TabBytes),
        site.toNat < r.header.siteCount → variant.toNat ≤ 15 → origin.length = w → tabs.length ≤ 8 →
        (∀ t ∈ tabs, t.mid.length = w) →
        let entry : RecipeSite := ⟨variant.toNat, pair origin, width.toNat * 10, height.toNat * 10, top.toNat * 10,
          tabs.map (TabBytes.tab r.header.packing r.header.pitch)⟩
        let r' : StagedRecipe := { r with sites := r.sites.set site.toNat (some entry) }
        exec (.recipeSite ([site, variant] ++ origin ++ halfBytes width ++ halfBytes height ++ halfBytes top
            ++ [BitVec.ofNat 8 tabs.length] ++ tabs.flatMap TabBytes.bytes)) s =
          .next ({ s with staging := .opened n r' }.answered .recipeSite .ok (site :: u16 r'.sitesReceived)))
        ∧ ∀ (z : Fin 8) (low high : List Byte), low.length = w → high.length = w →
          let r' : StagedRecipe := { r with zones := r.zones.set z (some ⟨pair low, pair high⟩) }
          exec (.recipeZone (BitVec.ofNat 8 z :: low ++ high)) s =
            .next ({ s with staging := .opened n r' }.answered .recipeZone .ok
              (BitVec.ofNat 8 z :: u16 (zoneCount r'.zones))))
    ∧ ((∀ n r, s.staging ≠ .opened n r) → ∀ payload,
        exec (.recipeSite payload) s = .next (s.answered .recipeSite .notOpen [])
          ∧ exec (.recipeZone payload) s = .next (s.answered .recipeZone .notOpen []))
    ∧ ∀ payload : List Byte,
      let byte := fun i => (payload.getD i 0).toNat
      let begin := fun code : HostCode => exec (.recipeBegin payload) s = .next (s.answered .recipeBegin code [])
      let site := fun code : HostCode => exec (.recipeSite payload) s = .next (s.answered .recipeSite code [])
      let zone := fun code : HostCode => exec (.recipeZone payload) s = .next (s.answered .recipeZone code [])
      ((∀ packing : Packing, payload[1]? ≠ some (BitVec.ofNat 8 packing.code)) → begin .range)
      ∧ (∀ packing : Packing, payload[1]? = some (BitVec.ofNat 8 packing.code) →
        let w := packing.width
        (payload.length ≠ 7 + 2 * w → begin .length)
          ∧ (payload.length = 7 + 2 * w → 15 < byte 0 ∨ (packing = .p12 ∧ byte 2 = 0) ∨ byte 3 = 0 ∨ 64 < byte 3
              ∨ 1 < byte (6 + 2 * w) → begin .range))
      ∧ ∀ (n : Fin 16) (r : StagedRecipe), s.staging = .opened n r →
        let w := r.header.packing.width
        let count := byte (8 + w)
        (payload.length ≤ 8 + w → site .length)
          ∧ (8 + w < payload.length → 8 < count → site .range)
          ∧ (8 + w < payload.length → count ≤ 8 → payload.length ≠ 9 + w + count * (5 + w) → site .length)
          ∧ (payload.length = 9 + w + count * (5 + w) → count ≤ 8 → r.header.siteCount ≤ byte 0 ∨ 15 < byte 1
              ∨ (∃ i, i < count ∧ 1 < byte (9 + w + i * (5 + w) + w)) → site .range)
          ∧ (payload.length ≠ 1 + 2 * w → zone .length)
          ∧ (payload.length = 1 + 2 * w → 7 < byte 0 → zone .range)

/-- RECIPE_END starts the validation with BSY set and no answer; VALIDATION_END commits the recipe or discards it, closes the
staging and places the answer (R11, R13, R14). That the end of a validation is a command of its own is the model's choice (log
entry 5), and so is the one byte of the fiducial number in INVALID (log entry 9). -/
def Obligations.ValidationCommitsOrDiscards : Prop :=
  ∀ (s : State) (n : Fin 16) (r : StagedRecipe),
    (PortNormal s → s.staging = .opened n r →
        exec .recipeEnd s = .next { s with staging := .validating n r, busy := true, ovr := false })
      ∧ (PortNormal s → (∀ n r, s.staging ≠ .opened n r) →
        exec .recipeEnd s = .next (s.answered .recipeEnd .notOpen []))
      ∧ (s.resetAsserted = false → s.staging = .validating n r → ∀ q, validate r = .ok q →
        exec .validationEnd s = .next { s with
          slots := s.slots.set n (some q), staging := .closed, busy := false
          answer := ⟨s.answer.sequence + 1, 0x13, some .ok,
            u8 n ++ u8 q.header.siteCount ++ u16 (tabTotal q.sites) ++ u16 (zoneCount q.zones)⟩ })
      ∧ (s.resetAsserted = false → s.staging = .validating n r → ∀ f, validate r = .error f →
        exec .validationEnd s = .next { s with
          staging := .closed, busy := false
          answer := ⟨s.answer.sequence + 1, 0x13, some .invalid,
            u8 f.check.code ++ opt8 f.site ++ opt8 f.tab ++ opt8 f.zone ++ opt8 f.fiducial⟩ })

/-- A staged recipe is committed exactly when every site is present and the fifteen checks of R12 pass, and then whole. A failed
validation reports the first check in table order that fails: the lowest absent site, and with every site present what the check
reports at the first site, tab or zone in scan order. -/
def Obligations.ValidationAcceptsExactlyValidRecipes : Prop :=
  (∀ (r : StagedRecipe) (q : Recipe),
    validate r = .ok q ↔
      r.header = q.header ∧ r.zones = q.zones ∧ r.sites = q.sites.map some ∧ RecipeValid q)
  ∧ (∀ (r : StagedRecipe) (k : Nat), r.sites[k]? = some none → (∀ j, j < k → r.sites[j]? ≠ some none) →
    validate r = .error ⟨.missingSite, some k, none, none, none⟩)
  ∧ ([Check.missingSite, .tabCount, .release, .tabTotal, .sequence, .thickness, .fiducial, .fidSpacing, .origin, .outline,
      .topHeight, .midpoint, .width, .zoneCorner, .zoneOrder].map Check.code = List.range 15)
  ∧ ∀ (q : Recipe) (f : Failure), validate ⟨q.header, q.sites.map some, q.zones⟩ = .error f ↔
    Reports q f ∧ ∀ g, Reports q g → f.check.code ≤ g.check.code

/-- RECIPE_DROP: RANGE above 15, INUSE for a number in use, otherwise the slot becomes EMPTY; the staging area is not touched
(R15). -/
def Obligations.RecipeDropEmptiesASlot : Prop :=
  ∀ (s : State) (number : Byte), PortNormal s →
    (15 < number.toNat → exec (.recipeDrop number) s = .next (s.answered .recipeDrop .range []))
      ∧ ∀ n : Fin 16, n.val = number.toNat →
        (s.inUse n ≠ 0 → exec (.recipeDrop number) s = .next (s.answered .recipeDrop .inUse []))
          ∧ (s.inUse n = 0 → exec (.recipeDrop number) s =
              .next ({ s with slots := s.slots.set n none }.answered .recipeDrop .ok []))

/-! ### Panels -/

/-- PANEL_ADMIT: its refusals in the order of R23 (RANGE, NO-RECIPE, FULL, DUPLICATE with the place the id was found in first,
R24); otherwise the lowest FREE entry becomes LIVE, ALIGNING on an empty fixture and QUEUED behind a mounted panel, with the
records R26 gives (R20, R23 to R26). -/
def Obligations.PanelAdmitCreatesAPanel : Prop :=
  ∀ (s : State) (id : Word), PortNormal s →
    (∀ number fixture : Byte, 15 < number.toNat ∨ 1 < fixture.toNat →
      exec (.panelAdmit id number fixture) s = .next (s.answered .panelAdmit .range []))
    ∧ ∀ (n : Fin 16) (f : Fin 2),
      let admitting : Instr := .panelAdmit id (BitVec.ofNat 8 n) (BitVec.ofNat 8 f)
      let refused := fun (code : HostCode) (fields : List Byte) => s.answered .panelAdmit code fields
      (s.slots[n] = none ∨ s.staging.number = some n → exec admitting s = .next (refused .noRecipe []))
      ∧ ∀ r, s.slots[n] = some r → s.staging.number ≠ some n →
        (2 ≤ (s.onFixture f).length → exec admitting s = .next (refused .full []))
        ∧ ((s.onFixture f).length < 2 →
          (∀ (e : Fin 4) p, s.panel e = some p → p.id = id → (∀ x q, x < e → s.panel x = some q → q.id ≠ id) →
            exec admitting s = .next (refused .duplicate [0, BitVec.ofNat 8 e]))
          ∧ ((∀ x p, s.panel x = some p → p.id ≠ id) →
            (∀ before code m after slot x, s.magazines = before ++ (code, m) :: after →
              (∀ lm ∈ before, ∀ y ∈ lm.2.slots, y.panelId ≠ some id) → m.slots[slot]? = some x → x.panelId = some id →
              (∀ j y, j < slot → m.slots[j]? = some y → y.panelId ≠ some id) →
              exec admitting s = .next (refused .duplicate [1, BitVec.ofNat 8 code, BitVec.ofNat 8 slot]))
            ∧ ∀ e : Fin 4, (∀ lm ∈ s.magazines, ∀ x ∈ lm.2.slots, x.panelId ≠ some id) → s.panel e = none →
              (∀ x, x < e → s.panel x ≠ none) →
              let st : PanelState := if (s.mounted f).isSome then .queued else .aligning
              ∃ boards : List BoardRecord,
                exec admitting s = .next ({ s.setPanel e (some ⟨id, n, f, st, s.admitCounter, none, boards⟩) with
                    admitCounter := s.admitCounter + 1 }.answered .panelAdmit .ok
                  (u8 e ++ u8 st.code ++ u8 r.sites.length ++ u16 (tabTotal r.sites)))
                ∧ boards.length = r.sites.length
                ∧ ∀ (i : Nat) (x : RecipeSite), r.sites[i]? = some x → ∃ tabs : List TabRecord,
                  boards[i]? = some ⟨i, x.variant, x.origin, x.width, x.height, x.topHeight, none, .none,
                      x.tabs.length - 1, .awaitMark, none, false, false, tabs⟩
                    ∧ tabs.length = x.tabs.length
                    ∧ ∀ (j : Nat) (t : RecipeTab), x.tabs[j]? = some t →
                      tabs[j]? = some ⟨i, j, t.mid, t.orient, t.width, t.seq, t.release, none, .intact, none⟩))

/-- PANEL_RETIRE: RANGE for an entry above 3, NO-PANEL for a FREE one; a CLEARED panel, or with force one without work in
flight, leaves its entry FREE and its run IDLE; the panel queued behind a mounted one becomes ALIGNING; a panel that is not
CLEARED is BUSY without force, and with it while work is in flight, with the first cause in the order of R28 (R28 to R30, R52;
the cause codes of the BUSY answer are the model's, log entry 11). A CLEARED panel is retired with a request held for one of its
boards too (R28, to which R75 refers). That the hold stays then, and counts as work in flight on the entry's next panel, whatever
its sites, is the model's choice (log entry 28). -/
def Obligations.PanelRetireFreesTheEntry : Prop :=
  (∀ (s : State) (entry force : Byte), PortNormal s →
    (3 < entry.toNat → exec (.panelRetire entry force) s = .next (s.answered .panelRetire .range []))
      ∧ ∀ e : Fin 4, s.panel e = none →
        exec (.panelRetire (BitVec.ofNat 8 e) force) s = .next (s.answered .panelRetire .noPanel []))
  ∧ ∀ (s : State) (e : Fin 4) (p : Panel) (force : Byte), PortNormal s → s.panel e = some p →
    let retiring : Instr := .panelRetire (BitVec.ofNat 8 e) force
    let inWork : Prop := ∃ b ∈ p.boards, ∃ x ∈ b.tabs, x.state = .assigned ∨ x.state = .suspect
    let inHand : Prop := ∃ b ∈ p.boards, b.state.inHand
    let held : Prop := ∃ h t, s.hold = .holding h t ∧ h.entry = e
    let busy := fun cause : Byte => exec retiring s = .next (s.answered .panelRetire .busy [cause])
    (p.state = .cleared ∨ (p.state ≠ .cleared ∧ force ≠ 0 ∧ ¬ inWork ∧ ¬ inHand ∧ ¬ held) → ∃ (t : State) (mounted : Option Nat),
        exec retiring s = .next (t.answered .panelRetire .ok (u8 e ++ opt8 mounted))
          ∧ t = { s with panels := t.panels, runs := s.runs.set e .idle } ∧ t.panel e = none
          ∧ mounted = (t.mounted p.fixture).map Fin.val
          ∧ ∀ x, x ≠ e → (s.panel x = none → t.panel x = none) ∧ ∀ q, s.panel x = some q →
            (q.fixture ≠ p.fixture ∨ q.state ≠ .queued → t.panel x = some q)
              ∧ (q.fixture = p.fixture → q.state = .queued →
                  (∀ y q', y ≠ e → y ≠ x → s.panel y = some q' → q'.fixture ≠ p.fixture) →
                  t.panel x = some { q with state := .aligning }))
      ∧ (p.state ≠ .cleared → force = 0 → busy 0)
      ∧ (p.state ≠ .cleared → force ≠ 0 → inWork → busy 1)
      ∧ (p.state ≠ .cleared → force ≠ 0 → ¬ inWork → inHand → busy 2)
      ∧ (p.state ≠ .cleared → force ≠ 0 → ¬ inWork → ¬ inHand → held → busy 3)

/-! ### Alignment -/

/-- The rounded quotient (R40, steps 1 to 4), and the correction of a fiducial pair and of a point (R41, R44): c, s and the
corrected coordinates are within half of their exact quotients, fiducial 1 corrects to F1m exactly, and a panel that lies as its
recipe has c 1 and s 0 in Q20 and is only shifted. -/
def Obligations.CorrectionFollowsTheFiducials : Prop :=
  (∀ a b : Int, 0 < b → ∃ q r : Nat, a.natAbs = q * b.natAbs + r ∧ r < b.natAbs
     ∧ roundDiv a b = (if a < 0 then -1 else 1) * (if b.natAbs ≤ 2 * r then (q : Int) + 1 else q))
  ∧ (∀ (f1n f2n f1m f2m p : Point) (c s : Int),
     let q := correctPoint c s f1m f1n p
     let u := p.x - f1n.x
     let v := p.y - f1n.y
     let nx := f2n.x - f1n.x
     let ny := f2n.y - f1n.y
     let mx := f2m.x - f1m.x
     let my := f2m.y - f1m.y
     let n := nx * nx + ny * ny
     let cs := correctionValues f1n f2n f1m f2m
     q = ⟨f1m.x + roundDiv (c * u - s * v) 1048576, f1m.y + roundDiv (s * u + c * v) 1048576⟩
       ∧ cs = (roundDiv ((mx * nx + my * ny) * 1048576) n, roundDiv ((nx * my - ny * mx) * 1048576) n)
       ∧ correctPoint c s f1m f1n f1n = f1m
       ∧ 2 * (1048576 * (q.x - f1m.x) - (c * u - s * v)).natAbs ≤ 1048576
       ∧ 2 * (1048576 * (q.y - f1m.y) - (s * u + c * v)).natAbs ≤ 1048576
       ∧ (0 < n → 2 * (n * cs.1 - (mx * nx + my * ny) * 1048576).natAbs ≤ n.natAbs
           ∧ 2 * (n * cs.2 - (nx * my - ny * mx) * 1048576).natAbs ≤ n.natAbs)
       ∧ (0 < n → mx = nx → my = ny → cs = (1048576, 0))
       ∧ correctPoint 1048576 0 f1m f1n p = ⟨f1m.x + u, f1m.y + v⟩)

/-- FIDUCIAL: the refusals of R38, STATE for an entry above 3 among them, the rejections of R39 and R42 with their ALIGN fault,
and the acceptance that starts the correction run (R38, R39, R42, R43). That REJECT RANGE sends the fiducial number in one byte
is the model's choice (log entry 9). -/
def Obligations.FiducialStartsTheRunOrIsRejected : Prop :=
  ∀ (s : State) (e : Fin 4) (x1 y1 x2 y2 : Coord), LineOpen s .vision →
    let f1m : Point := ⟨x1.toInt, y1.toInt⟩
    let f2m : Point := ⟨x2.toInt, y2.toInt⟩
    let request : Instr := .fiducial (BitVec.ofNat 8 e) x1 y1 x2 y2
    let r0 := s.received .vision
    (∀ above : Byte, 3 < above.toNat →
        exec (.fiducial above x1 y1 x2 y2) s = .next (r0.replied .vision .fiducial .state []))
      ∧ (s.panel e = none → exec request s = .next (r0.replied .vision .fiducial .state []))
      ∧ ∀ p, s.panel e = some p →
        let fault := fun cause => r0.reportFault ⟨.align, cause, some .vision, none, some e, some p.id, none, none, true⟩
        (p.state = .correcting → exec request s = .next (r0.replied .vision .fiducial .busy [1]))
        ∧ (p.state ≠ .correcting → p.state ≠ .aligning →
            exec request s = .next (r0.replied .vision .fiducial .state []))
        ∧ (p.state = .aligning → s.clampLevel p.fixture = false →
            exec request s = .next (r0.replied .vision .fiducial .unclamped []))
        ∧ ∀ r, s.slots[p.recipe] = some r → p.state = .aligning → s.clampLevel p.fixture = true →
          let cs := correctionValues r.header.f1 r.header.f2 f1m f2m
          (¬ Inside f1m → exec request s = .next ((fault .range).replied .vision .fiducial .reject [0, 1]))
          ∧ (Inside f1m → ¬ Inside f2m →
              exec request s = .next ((fault .range).replied .vision .fiducial .reject [0, 2]))
          ∧ (Inside f1m → Inside f2m → 5243 < (cs.1 - 1048576).natAbs → exec request s =
              .next ((fault .scale).replied .vision .fiducial .reject ([1] ++ s32 cs.1 ++ s32 cs.2)))
          ∧ (Inside f1m → Inside f2m → (cs.1 - 1048576).natAbs ≤ 5243 → 36700 < cs.2.natAbs → exec request s =
              .next ((fault .angle).replied .vision .fiducial .reject ([2] ++ s32 cs.1 ++ s32 cs.2)))
          ∧ (Inside f1m → Inside f2m → (cs.1 - 1048576).natAbs ≤ 5243 → cs.2.natAbs ≤ 36700 → exec request s =
              .next ({ r0.setPanel e (some { p with state := .correcting }) with
                  runs := s.runs.set e (.running ⟨cs.1, cs.2, f1m, [], false,
                    (runItems r.zones p.boards).headD .finished⟩) }.replied .vision .fiducial .ok
                (s32 cs.1 ++ s32 cs.2)))

/-- ZONE_VISIT, PICK_POINT_VISIT and TAB_VISIT: what each visit writes, and that the run goes through the items in the order of
R45 (R45 to R48). A segment box lies about the corrected midpoint, half the tab's width to either side, along x for H and along
y for V; two boxes meet when they overlap in x and in y, their ends included (R48). That a visit is a command of its own is the
model's choice (log entry 5). -/
def Obligations.RunVisitsWriteCorrectedValues : Prop :=
  (∀ (width : Nat) (m : Point) (a b : Rect),
     segmentBox .h width m = ⟨⟨m.x - (width / 2 : Nat), m.y⟩, ⟨m.x + (width / 2 : Nat), m.y⟩⟩
       ∧ segmentBox .v width m = ⟨⟨m.x, m.y - (width / 2 : Nat)⟩, ⟨m.x, m.y + (width / 2 : Nat)⟩⟩
       ∧ (meets a b = true ↔
           a.low.x ≤ b.high.x ∧ b.low.x ≤ a.high.x ∧ a.low.y ≤ b.high.y ∧ b.low.y ≤ a.high.y))
  ∧ ∀ (s : State) (e : Fin 4) (v : RunValues) (p : Panel) (r : Recipe), s.resetAsserted = false →
    s.runs[e] = .running v → s.panel e = some p → p.state = .correcting → s.slots[p.recipe] = some r →
    let items := runItems r.zones p.boards
    let correct := correctPoint v.c v.s v.f1m r.header.f1
    let after := fun (t : State) (w : RunValues) => { t with runs := s.runs.set e (.running w) }
    ∀ i : Nat, items[i]? = some v.position →
      let next := items.getD (i + 1) .finished
      (∀ (k : Nat) (z : Rect), v.position = .zone k → r.zones.toList[k]? = some (some z) → ∃ box : Rect,
          exec (.zoneVisit e) s = .next (after s { v with zones := v.zones ++ [box], position := next })
            ∧ ∀ corners, corners = [correct z.low, correct ⟨z.high.x, z.low.y⟩, correct z.high, correct ⟨z.low.x, z.high.y⟩] →
              (∀ c ∈ corners, box.low.x ≤ c.x ∧ c.x ≤ box.high.x ∧ box.low.y ≤ c.y ∧ c.y ≤ box.high.y)
                ∧ (∃ c ∈ corners, c.x = box.low.x) ∧ (∃ c ∈ corners, c.x = box.high.x)
                ∧ (∃ c ∈ corners, c.y = box.low.y) ∧ ∃ c ∈ corners, c.y = box.high.y)
      ∧ (∀ (site : Nat), v.position = .pick site → exec (.pickPointVisit e) s = .next (after
          (s.modifyBoard ⟨e, site⟩ (fun b => { b with
            pickPoint := some (correct ⟨b.origin.x + (b.width / 2 : Nat), b.origin.y + (b.height / 2 : Nat)⟩) }))
          { v with position := next }))
      ∧ ∀ (site j : Nat) (x : TabRecord), v.position = .tab site j → s.tab ⟨e, site, j⟩ = some x →
        let mid := correct x.nominal
        let box := segmentBox x.orient x.width mid
        let fails := x.state = .intact ∧ (¬ (Inside box.low ∧ Inside box.high) ∨ ∃ z ∈ v.zones, meets box z = true)
        (fails → exec (.tabVisit e) s = .next (after
            (s.modifyTab ⟨e, site, j⟩ (fun x => { x with corrected := some mid, state := .blocked }))
            { v with stranding := true, position := next }))
          ∧ (¬ fails → exec (.tabVisit e) s = .next (after
              (s.modifyTab ⟨e, site, j⟩ (fun x => { x with corrected := some mid })) { v with position := next }))

/-- CORRECTION_RUN_END, in the order of R49: the boards with a BLOCKED tab that are not terminal are STRANDED, the correction
record is written, the panel is ALIGNED, or CLEARED when every board is terminal, the notices are raised, the run is IDLE. -/
def Obligations.CorrectionRunEnds : Prop :=
  ∀ (s : State) (e : Fin 4) (v : RunValues) (p : Panel), s.resetAsserted = false →
    s.runs[e] = .running v → v.position = .finished → s.panel e = some p → p.state = .correcting →
    (s.slots[p.recipe]).isSome = true →
    let strands := fun b : BoardRecord => !b.state.terminal && b.tabs.any (fun t => decide (t.state = .blocked))
    let boards := p.boards.map (fun b => if strands b then { b with state := .stranded } else b)
    let cleared := boards.all (fun b => b.state.terminal)
    exec (.correctionRunEnd e) s = .next { s with
      panels := s.panels.set e (some { p with
        boards := boards, correction := some ⟨v.c, v.s, v.f1m⟩, state := if cleared then .cleared else .aligned })
      runs := s.runs.set e .idle
      notices := { s.notices with flags := s.notices.flags ||| Notice.aligned.mask
        ||| (if v.stranding = true ∧ p.boards.any strands = true then Notice.stranded.mask else 0)
        ||| (if cleared then Notice.cleared.mask else 0) } }

/-! ### Board and tab records -/

/-- A verdict applied to a board (R60 to R62), by SITE-MARK, DECIDE or the end of a hold: GOOD and an x-out to be ejected set
CUTTING, or READY when nothing but the release tab is left; an x-out left in the frame is XOUT-LEFT with its INTACT tabs
SKIPPED, and the clearing test follows; a STRANDED board takes the verdict alone. -/
def Obligations.VerdictsAreApplied : Prop :=
  ∀ (s : State) (h : BoardHandle) (p : Panel) (r : Recipe) (b : BoardRecord) (v : Verdict),
    s.panel h.entry = some p → s.slots[p.recipe] = some r → s.board h = some b →
    let toCut := fun (v : Verdict) (b : BoardRecord) =>
      { b with verdict := v, state := if b.remaining = 0 then .ready else .cutting }
    let eject := r.header.xout = .eject ∧ s.settings.rejectBay ≠ none
    (v = .good → s.applyVerdict h v = s.modifyBoard h (toCut .good))
      ∧ (v = .xout → eject → s.applyVerdict h v = s.modifyBoard h (toCut .xout))
      ∧ (v = .xout → ¬ eject → s.applyVerdict h v = (s.modifyBoard h (fun b => { b with
          verdict := .xout, state := .xoutLeft
          tabs := b.tabs.map (fun t => if t.state = .intact then { t with state := .skipped } else t) })).clearingTest
            h.entry)
      ∧ (b.state = .stranded → s.settleVerdict h v = s.modifyBoard h (fun b => { b with verdict := v }))
      ∧ (b.state = .unsure → s.settleVerdict h v = s.applyVerdict h v)

/-- A tab that becomes CUT, and the clearing test (R27, R64, R65): a non-release tab lowers the remaining count and makes a
CUTTING board with nothing left to cut and no SUSPECT tab READY, the release tab makes a HELD board FREE; an ALIGNED panel whose
boards are all terminal becomes CLEARED with its notice. -/
def Obligations.CutTabsUpdateTheirBoardAndPanelsClear : Prop :=
  ∀ s : State,
    (∀ (h : TabHandle) (b : BoardRecord) (x : TabRecord), s.board h.board = some b → b.tabs[h.tab]? = some x →
      let tabs := b.tabs.modify h.tab (fun x => { x with state := .cut })
      let left := if x.release then b.remaining else b.remaining - 1
      let ready := x.release = false ∧ b.state = .cutting ∧ left = 0 ∧ ∀ y ∈ tabs, y.state ≠ .suspect
      (s.cutTab h).board h.board = some { b with
          tabs := tabs, remaining := left
          state := if x.release = true ∧ b.state = .held then .free else if ready then .ready else b.state }
        ∧ (∀ g, g ≠ h.board → (s.cutTab h).board g = s.board g)
        ∧ s.cutTab h = { s with panels := (s.cutTab h).panels })
    ∧ ∀ (e : Fin 4) (p : Panel), s.panel e = some p →
      (p.state = .aligned ∧ (∀ b ∈ p.boards, b.state.terminal = true) →
          s.clearingTest e = (s.setPanel e (some { p with state := .cleared })).raise .cleared)
        ∧ (¬ (p.state = .aligned ∧ ∀ b ∈ p.boards, b.state.terminal = true) → s.clearingTest e = s)

/-- SITE_MARK (R63, R75): the refusals, STATE for an entry above 3 among them; GOOD and XOUT are applied and answered with the
board's state; UNSURE on a board in AWAIT-MARK starts a hold and is not answered; on a STRANDED board without a verdict it is
written. -/
def Obligations.SiteMarkGivesAVerdict : Prop :=
  ∀ (s : State) (e : Fin 4) (site verdict : Byte), LineOpen s .vision →
    let h : BoardHandle := ⟨e, site.toNat⟩
    let request : Instr := .siteMark (BitVec.ofNat 8 e) site verdict
    let r0 := s.received .vision
    let answer := fun (t : State) => t.replied .vision .siteMark .ok (opt8 ((t.board h).map (fun b => b.state.code)))
    (∀ above : Byte, 3 < above.toNat →
        exec (.siteMark above site verdict) s = .next (r0.replied .vision .siteMark .state []))
      ∧ (s.board h = none → exec request s = .next (r0.replied .vision .siteMark .state []))
      ∧ ∀ b, s.board h = some b →
        (3 ≤ verdict.toNat → exec request s = .next (r0.replied .vision .siteMark .reject [0]))
        ∧ (verdict.toNat ≤ 2 → b.state ≠ .awaitMark → ¬ (b.state = .stranded ∧ b.verdict = .none) →
            exec request s = .next (r0.replied .vision .siteMark .state []))
        ∧ (verdict = 0 → b.state = .awaitMark → exec request s = .next (answer (r0.applyVerdict h .good)))
        ∧ (verdict = 1 → b.state = .awaitMark → exec request s = .next (answer (r0.applyVerdict h .xout)))
        ∧ (verdict = 2 → b.state = .awaitMark → exec request s = .next
            ({ (r0.modifyBoard h (fun b => { b with verdict := .unsure, state := .unsure })).setLine .vision
                { r0.line .vision with held := some ⟨0x41, [BitVec.ofNat 8 e, site, verdict]⟩ } with
              hold := .holding h (some s.settings.holdTime) }.raise .verdictHeld))
        ∧ ∀ v, verdictOf verdict = some v → b.state = .stranded → b.verdict = .none →
          exec request s = .next (answer (r0.modifyBoard h (fun b => { b with verdict := v })))

/-- DECIDE and HOLD_EXPIRY settle an UNSURE board (R76, R77): the verdict is applied, a request held for the board is answered
on the vision line with OK or TIMED-OUT, its hold ends; DECIDE is LATE for a board that is settled, RANGE for an entry above 3, a
site above 63 or another verdict, NO-PANEL for a FREE entry, NO-RECORD for a site without a record. A hold expiry comes with the
last tick of its running timer, and has no effect with no hold, a stopped timer or more ticks to go (R78; log entry 2). -/
def Obligations.UnsureBoardsAreDecided : Prop :=
  (∀ s : State, s.resetAsserted = false →
    s.hold = .empty ∨ (∃ h, s.hold = .holding h none) ∨ (∃ h n, s.hold = .holding h (some (n + 2))) →
    exec .holdExpiry s = .next s)
  ∧ (∀ (s : State) (entry site code : Byte), PortNormal s →
    let refused := fun (entry : Byte) (answer : HostCode) =>
      exec (.decideVerdict entry site code) s = .next (s.answered .decide answer [])
    (3 < entry.toNat ∨ 63 < site.toNat ∨ 1 < code.toNat → refused entry .range)
      ∧ ∀ e : Fin 4, site.toNat ≤ 63 → code.toNat ≤ 1 →
        (s.panel e = none → refused (BitVec.ofNat 8 e) .noPanel)
          ∧ (s.panel e ≠ none → s.board ⟨e, site.toNat⟩ = none → refused (BitVec.ofNat 8 e) .noRecord))
  ∧ ∀ (s : State) (h : BoardHandle) (b : BoardRecord), s.board h = some b → h.site ≤ 63 →
    let released := fun (t : State) (code : StationCode) (v : Verdict) =>
      { (t.setLine .vision { t.line .vision with held := none }).replied .vision .siteMark code
          (boardHandleBytes h ++ u8 v.code) with hold := .empty }
    let decide := fun (code : Byte) => Instr.decideVerdict (BitVec.ofNat 8 h.entry) (BitVec.ofNat 8 h.site) code
    let answer := fun (t : State) (held : Byte) =>
      t.answered .decide .ok (opt8 ((t.board h).map (fun b => b.state.code)) ++ [held])
    (PortNormal s → ∀ (code : Byte) (v : Verdict), (code = 0 ∧ v = .good) ∨ (code = 1 ∧ v = .xout) →
      (b.state ≠ .unsure → ¬ (b.state = .stranded ∧ b.verdict = .unsure) →
          exec (decide code) s = .next (s.answered .decide .late []))
        ∧ (b.state = .unsure ∨ (b.state = .stranded ∧ b.verdict = .unsure) →
          ((∀ t, s.hold ≠ .holding h t) → exec (decide code) s = .next (answer (s.settleVerdict h v) 0))
            ∧ ∀ t, s.hold = .holding h t →
              exec (decide code) s = .next (answer (released (s.settleVerdict h v) .ok v) 1)))
    ∧ (s.resetAsserted = false → s.hold = .holding h (some 1) →
        exec .holdExpiry s = .next
          ((released (s.settleVerdict h s.settings.defaultVerdict) .timedOut s.settings.defaultVerdict).raise
            .verdictDefaulted))

/-- TAB_RESOLVE and BOARD_RESOLVE settle SUSPECT records (R70, R72, R73): a tab is cut by the rule of TAB-DONE or made INTACT
again; a board goes back to READY or is LOST with its reservation cancelled, or is PLACED in its reserved slot; BUSY while the
release tab is ASSIGNED or SUSPECT, RELEASE-CUT for IN-FRAME when it is CUT, STATE for a record that is not SUSPECT, RANGE for a
field above its range, NO-PANEL for a FREE entry, NO-RECORD for a site or tab without a record. That the answer to TAB_RESOLVE
sends the remaining count in one byte is the model's choice (log entry 9). -/
def Obligations.SuspectRecordsAreResolved : Prop :=
  (∀ (s : State) (entry site tab outcome : Byte), PortNormal s →
    let refusedTab := fun (entry : Byte) (answer : HostCode) =>
      exec (.tabResolve entry site tab outcome) s = .next (s.answered .tabResolve answer [])
    let refusedBoard := fun (entry : Byte) (answer : HostCode) =>
      exec (.boardResolve entry site outcome) s = .next (s.answered .boardResolve answer [])
    (3 < entry.toNat ∨ 63 < site.toNat ∨ 7 < tab.toNat ∨ 1 < outcome.toNat → refusedTab entry .range)
      ∧ (3 < entry.toNat ∨ 63 < site.toNat ∨ 2 < outcome.toNat → refusedBoard entry .range)
      ∧ ∀ e : Fin 4, site.toNat ≤ 63 →
        (tab.toNat ≤ 7 → outcome.toNat ≤ 1 →
          (s.panel e = none → refusedTab (BitVec.ofNat 8 e) .noPanel)
            ∧ (s.panel e ≠ none → s.tab ⟨e, site.toNat, tab.toNat⟩ = none → refusedTab (BitVec.ofNat 8 e) .noRecord))
        ∧ (outcome.toNat ≤ 2 →
          (s.panel e = none → refusedBoard (BitVec.ofNat 8 e) .noPanel)
            ∧ (s.panel e ≠ none → s.board ⟨e, site.toNat⟩ = none → refusedBoard (BitVec.ofNat 8 e) .noRecord)))
  ∧ ∀ (s : State) (e : Fin 4) (site tab : Byte) (b : BoardRecord), PortNormal s → site.toNat ≤ 63 → tab.toNat ≤ 7 →
    s.board ⟨e, site.toNat⟩ = some b →
    let h : BoardHandle := ⟨e, site.toNat⟩
    let ht : TabHandle := ⟨e, site.toNat, tab.toNat⟩
    let e8 : Byte := BitVec.ofNat 8 e
    let resolved := fun t : State => t.answered .boardResolve .ok (opt8 ((t.board h).map (fun b => b.state.code)))
    let done := fun t : State => t.answered .tabResolve .ok (opt8 ((t.tab ht).map (fun x => x.state.code))
      ++ opt8 ((t.board h).map (fun b => b.state.code)) ++ opt8 ((t.board h).map (·.remaining)))
    let free : Prop := b.releaseState ≠ some .assigned ∧ b.releaseState ≠ some .suspect
    (∀ x, b.tabs[tab.toNat]? = some x →
      (x.state = .suspect → exec (.tabResolve e8 site tab 0) s = .next (done (s.cutTab ht))
          ∧ exec (.tabResolve e8 site tab 1) s =
              .next (done (s.modifyTab ht (fun x => { x with state := .intact }))))
        ∧ (x.state ≠ .suspect → ∀ o : Byte, o.toNat ≤ 1 →
            exec (.tabResolve e8 site tab o) s = .next (s.answered .tabResolve .state [])))
    ∧ (b.state ≠ .suspect → ∀ o : Byte, o.toNat ≤ 2 →
        exec (.boardResolve e8 site o) s = .next (s.answered .boardResolve .state []))
    ∧ (b.state = .suspect → ¬ free → ∀ o : Byte, o.toNat ≤ 2 →
        exec (.boardResolve e8 site o) s = .next (s.answered .boardResolve .busy []))
    ∧ (b.state = .suspect → b.releaseState = some .cut →
        exec (.boardResolve e8 site 0) s = .next (s.answered .boardResolve .releaseCut []))
    ∧ (b.state = .suspect → free →
        (b.releaseState ≠ some .cut → exec (.boardResolve e8 site 0) s =
            .next (resolved ((s.cancelReservation h).modifyBoard h (fun b => { b with state := .ready }))))
          ∧ exec (.boardResolve e8 site 1) s = .next (resolved
              (((s.cancelReservation h).modifyBoard h (fun b => { b with state := .lost })).clearingTest e))
          ∧ exec (.boardResolve e8 site 2) s = .next (resolved
              (((s.occupySlot h).modifyBoard h (fun b => { b with state := .placed })).clearingTest e)))

/-! ### Cut dispatch -/

/-- The candidates of NEXT-TAB are exactly the eligible tabs of workable panels, the release tab of a HELD board before the
others, and the others by fixture and cut sequence (R32, R66, R101). -/
def Obligations.CandidatesAreTheEligibleTabs : Prop :=
  ∀ s : State,
    (∀ (h : TabHandle) (x : TabRecord) (m : Point), (⟨h, x, m⟩ : Candidate) ∈ s.candidates ↔
      ∃ p b, s.panel h.entry = some p ∧ p.state = .aligned ∧ s.clampLevel p.fixture = true ∧ s.board h.board = some b
        ∧ s.tab h = some x ∧ x.corrected = some m ∧ x.state = .intact
        ∧ ((x.release = false ∧ b.state = .cutting) ∨ (x.release = true ∧ b.state = .held)))
    ∧ ∃ held others, s.candidates = held ++ others ∧ (∀ c ∈ held, c.tab.release = true)
      ∧ (∀ c ∈ others, c.tab.release = false)
      ∧ others.Pairwise (fun c d => ∀ p q, s.panel c.handle.entry = some p → s.panel d.handle.entry = some q →
          p.fixture < q.fixture ∨ (p.fixture = q.fixture ∧ c.tab.seq ≤ d.tab.seq))

/-- NEXT_TAB assigns the first candidate that no KEEP-OUT zone and no tab of the other spindle keeps back (R99, R100, R102,
R104, R113). -/
def Obligations.NextTabAssignsTheFirstFreeCandidate : Prop :=
  ∀ (s : State) (sp : Spindle) (before after : List Candidate) (c : Candidate), LineOpen s sp.line →
    s.causes = ⟨false, false, false⟩ → (s.spindle sp).current = none →
    ((s.spindle sp).state = .ready ∨ (s.spindle sp).state = .worn) →
    (s.spindle sp).cutTotal < (s.spindle sp).lifeLimit → s.candidates = before ++ c :: after →
    let box := fun d : Candidate => segmentBox d.tab.orient d.tab.width d.mid
    let meetsZone := fun (mode : ZoneMode) (d : Candidate) =>
      ∃ z ∈ s.zones.toList, z.enabled = true ∧ z.mode = mode ∧ meets (box d) z.rect = true
    let near := fun d : Candidate => ∃ w x m, (s.spindle sp.other).current = some w ∧ s.tab w.handle = some x
      ∧ x.corrected = some m ∧ max (m.x - d.mid.x).natAbs (m.y - d.mid.y).natAbs < s.settings.clearance
    (∀ d ∈ before, meetsZone .keepOut d ∨ near d) → ¬ meetsZone .keepOut c → ¬ near c →
    let r := s.spindle sp
    let feed : FeedClass := if r.lifeLimit * 3 ≤ r.cutTotal * 4 then .reduced else .normal
    let given := fun (t : State) (watch : Bool) =>
      (t.modifyTab c.handle (fun x => { x with state := .assigned, lastSpindle := some sp })).setSpindle sp
        { r with current := some ⟨c.handle, feed, watch⟩, watchdog := some s.settings.spindleTimeout }
    let work := fun (t : State) (watch : Byte) => t.replied sp.line .nextTab .work
      (tabHandleBytes c.handle ++ pointBytes c.mid ++ u8 c.tab.orient.code ++ u24 c.tab.width ++ u8 feed.code ++ [watch])
    (¬ meetsZone .watch c → exec (.nextTab sp) s = .next (work (given (s.received sp.line) false) 0))
      ∧ (meetsZone .watch c →
          exec (.nextTab sp) s = .next (work ((given (s.received sp.line) true).raise .watchZone) 1))

/-- NEXT_TAB without work, in the order of R100 (R99, R100, R105): PAUSED, STATE with the work held, STALLED, BROKEN, WORN with
notice BIT-WORN once, WAIT and IDLE. -/
def Obligations.NextTabIsRefusedInOrder : Prop :=
  ∀ (s : State) (sp : Spindle), LineOpen s sp.line →
    let r0 := s.received sp.line
    let r := s.spindle sp
    let answer := fun (t : State) (code : StationCode) => t.replied sp.line .nextTab code []
    (s.causes ≠ ⟨false, false, false⟩ → exec (.nextTab sp) s = .next (answer r0 .paused))
      ∧ (s.causes = ⟨false, false, false⟩ →
        (∀ c x m, r.current = some c → s.tab c.handle = some x → x.corrected = some m →
          exec (.nextTab sp) s = .next (r0.replied sp.line .nextTab .state
            (tabHandleBytes c.handle ++ pointBytes m ++ u8 x.orient.code ++ u24 x.width ++ u8 c.feed.code
              ++ flag c.watch)))
        ∧ (r.current = none → r.state = .stalled → exec (.nextTab sp) s = .next (answer r0 .stalled))
        ∧ (r.current = none → r.state = .broken → exec (.nextTab sp) s = .next (answer r0 .broken))
        ∧ (r.current = none → r.lifeLimit ≤ r.cutTotal → r.state = .worn →
            exec (.nextTab sp) s = .next (answer r0 .worn))
        ∧ (r.current = none → r.lifeLimit ≤ r.cutTotal → r.state = .ready → exec (.nextTab sp) s = .next
            (answer ((r0.setSpindle sp { r0.spindle sp with state := .worn }).raise .bitWorn) .worn))
        ∧ (r.current = none → r.state ≠ .stalled → r.state ≠ .broken → r.cutTotal < r.lifeLimit →
            (∀ c ∈ s.candidates, s.passedOver sp c = true) →
            let pending := s.candidates ≠ [] ∨ ∃ e p b x, s.panel e = some p ∧ p.state = .aligned ∧ b ∈ p.boards
              ∧ b.state.terminal = false ∧ x ∈ b.tabs ∧ x.state = .intact
            (pending → exec (.nextTab sp) s = .next (answer r0 .wait))
              ∧ (¬ pending → exec (.nextTab sp) s = .next (answer r0 .idle))))

/-- TAB_DONE and TAB_FAULT from the spindle whose current tab they name (R110, R111), and from any other or about an entry above 3
(R109: LATE, NOT-YOURS, and nothing changes). That the answer to TAB_DONE sends the remaining count in one byte is the model's
choice (log entry 9). -/
def Obligations.CutReportsAreTaken : Prop :=
  ∀ (s : State) (sp : Spindle) (e : Fin 4) (site tab reason : Byte), LineOpen s sp.line →
    let e8 : Byte := BitVec.ofNat 8 e
    let h : TabHandle := ⟨e, site.toNat, tab.toNat⟩
    let r0 := s.received sp.line
    let r := s.spindle sp
    let idle : SpindleRecord := { r with current := none, watchdog := none }
    (∀ c x, r.current = some c → c.handle = h → s.tab h = some x →
      let total := min (r.cutTotal + x.width) 4294967295
      let t := (r0.setSpindle sp { idle with cutTotal := total }).cutTab h
      let lost := fun (st : SpindleState) =>
        (r0.modifyTab h (fun x => { x with state := .suspect })).setSpindle sp { idle with state := st }
      let context := fun (k : FaultClass) (cause : FaultCause) =>
        (⟨k, cause, some sp.line, none, some e, (s.panel e).map (·.id), some site.toNat, some tab.toNat, true⟩ : Context)
      exec (.tabDone sp e8 site tab) s = .next (t.replied sp.line .tabDone .ok
          ([e8, site, tab] ++ opt8 ((t.board h.board).map (fun b => b.state.code))
            ++ opt8 ((t.board h.board).map (·.remaining)) ++ u32 total ++ (if r.lifeLimit ≤ total then [1] else [0])))
        ∧ (reason = 0 → exec (.tabFault sp e8 site tab reason) s = .next
            ((((lost .broken).reportFault (context .bit .bitBreak)).raise .bitBroken).replied sp.line .tabFault .ok
              [e8, site, tab, 2]))
        ∧ (reason ≠ 0 → exec (.tabFault sp e8 site tab reason) s = .next
            (((lost r.state).reportFault (context .cut .stall)).replied sp.line .tabFault .ok
              ([e8, site, tab] ++ u8 r.state.code))))
    ∧ ((∀ c, r.current = some c → c.handle ≠ h) →
      let late := ∃ x, s.tab h = some x ∧ x.state = .suspect ∧ x.lastSpindle = some sp
      (late → exec (.tabDone sp e8 site tab) s = .next (r0.replied sp.line .tabDone .late [])
          ∧ exec (.tabFault sp e8 site tab reason) s = .next (r0.replied sp.line .tabFault .late []))
        ∧ (¬ late → exec (.tabDone sp e8 site tab) s = .next (r0.replied sp.line .tabDone .notYours [])
          ∧ exec (.tabFault sp e8 site tab reason) s = .next (r0.replied sp.line .tabFault .notYours [])))
    ∧ ∀ above : Byte, 3 < above.toNat →
      exec (.tabDone sp above site tab) s = .next (r0.replied sp.line .tabDone .notYours [])
        ∧ exec (.tabFault sp above site tab reason) s = .next (r0.replied sp.line .tabFault .notYours [])

/-- PROGRESS from a spindle: the watchdog's reload is its one effect, the answer is OK with the spindle's state and current tab,
during a pause as at any other time; LOCKED in LOCKDOWN (R112). From the gripper it is the same with the gripper's board and
reservation (R135). The form of an absent handle, 0xFF in each of its fields, is the model's choice (log entry 10). -/
def Obligations.ProgressReloadsTheWatchdog : Prop :=
  ∀ (s : State) (sp : Spindle),
    let r := s.spindle sp
    let idle := s.frameComplete sp.line
    (LineOpen s sp.line → exec (.progress sp.line) s = .next
        ((idle.setSpindle sp { r with watchdog := r.watchdog.map (fun _ => s.settings.spindleTimeout) }).replied sp.line
          .progress .ok (u8 r.state.code ++ (match r.current with
            | none => [0xFF, 0xFF, 0xFF]
            | some c => [BitVec.ofNat 8 c.handle.entry, BitVec.ofNat 8 c.handle.site, BitVec.ofNat 8 c.handle.tab]))))
      ∧ (s.resetAsserted = false → (s.line sp.line).pump.queue.length < 4 → (s.line sp.line).held = none →
          s.fault.locked = true → exec (.progress sp.line) s = .next (idle.replied sp.line .progress .locked []))
      ∧ (LineOpen s .gripper →
          let b := s.gripper.current.bind s.board
          exec (.progress .gripper) s = .next ((s.received .gripper).replied .gripper .progress .ok
            (u8 s.gripper.state.code ++ optBoardHandle s.gripper.current ++ opt8 (b.map (fun b => b.state.code))
              ++ optReservation (b.bind (·.reservation)))))

/-- The watchdog expiries of the spindles and of the gripper, each at the last tick of its running timer and not while GUARD is
a pause cause (R114, R137). One that finds its timer stopped, reloaded or held by GUARD has no effect (R115, R138, R172). That an
expiry acts at the last tick alone is the model's choice (log entry 2). -/
def Obligations.WatchdogsRunOut : Prop :=
  (∀ (s : State) (n : Nat), s.resetAsserted = false →
    (∀ sp : Spindle, (s.spindle sp).watchdog = none ∨ (s.spindle sp).watchdog = some (n + 2) ∨ s.causes.guardOpen = true →
      exec (.spindleWatchdogExpiry sp) s = .next s)
    ∧ (s.gripper.watchdog = none ∨ s.gripper.watchdog = some (n + 2) ∨ s.causes.guardOpen = true →
      exec .gripperWatchdogExpiry s = .next s))
  ∧ ∀ s : State, s.resetAsserted = false → s.causes.guardOpen = false →
    (∀ (sp : Spindle) (c : CurrentTab), (s.spindle sp).watchdog = some 1 → (s.spindle sp).current = some c →
      exec (.spindleWatchdogExpiry sp) s = .next
        ((((s.modifyTab c.handle (fun x => { x with state := .suspect })).setSpindle sp
            { s.spindle sp with current := none, watchdog := none, state := .stalled }).reportFault
              ⟨.watchdog, .spindleExpiry, some sp.line, none, some c.handle.entry, (s.panel c.handle.entry).map (·.id),
                some c.handle.site, some c.handle.tab, true⟩).raise .stalled))
    ∧ ∀ (h : BoardHandle) (b : BoardRecord), s.gripper.watchdog = some 1 → s.gripper.current = some h →
      s.board h = some b →
      let t := { s with gripper := ⟨.stalled, none, none⟩ }
      let context := fun (k : FaultClass) (recoverable : Bool) =>
        (⟨k, .gripperExpiry, some .gripper, none, some h.entry, (s.panel h.entry).map (·.id), some h.site, none,
          recoverable⟩ : Context)
      (b.state = .targeted → exec .gripperWatchdogExpiry s = .next
          ((((t.cancelReservation h).modifyBoard h (fun b => { b with state := .ready })).reportFault
            (context .watchdog true)).raise .stalled))
        ∧ (b.state = .held ∨ b.state = .free → exec .gripperWatchdogExpiry s = .next
            (((t.modifyBoard h (fun b => { b with state := .suspect })).reportFault (context .handling false)).raise
              .stalled))

/-- BIT_CHANGE, STATION_CLEAR and ZONE_SET (R108, R116, R117, R135), with the refusals that leave the records as they were. The
layout of the answers to ZONE_SET and STATION_CLEAR (log entry 14) and the form of an absent handle in them (log entry 10) are the
model's choice. -/
def Obligations.HostSetsSpindlesGripperAndZones : Prop :=
  ∀ s : State, PortNormal s →
    (∀ (sp : Spindle) (limit total : Word),
      let r := s.spindle sp
      let r' : SpindleRecord := { r with
        lifeLimit := min (max 1000000 limit.toNat) 1000000000, cutTotal := total.toNat
        state := if r.state = .worn ∨ r.state = .broken then .ready else r.state }
      (r.current = none → exec (.bitChange (BitVec.ofNat 8 (spindleCode sp)) limit total) s = .next
          ((s.setSpindle sp r').answered .bitChange .ok (u8 r'.state.code ++ u32 r'.lifeLimit ++ u32 r'.cutTotal)))
        ∧ (r.current ≠ none → exec (.bitChange (BitVec.ofNat 8 (spindleCode sp)) limit total) s =
            .next (s.answered .bitChange .busy []))
        ∧ (let fields := fun st : SpindleState => u8 st.code ++ optTabHandle (r.current.map (·.handle)) ++ u32 r.cutTotal
              ++ u32 r.lifeLimit
          (r.state = .stalled → exec (.stationClear (BitVec.ofNat 8 (spindleCode sp))) s =
              .next ((s.setSpindle sp { r with state := .ready }).answered .stationClear .ok (fields .ready)))
            ∧ (r.state ≠ .stalled → exec (.stationClear (BitVec.ofNat 8 (spindleCode sp))) s =
              .next (s.answered .stationClear .state (fields r.state)))))
    ∧ (s.gripper.state = .stalled → exec (.stationClear 2) s =
        .next ({ s with gripper := { s.gripper with state := .ready } }.answered .stationClear .ok
          (u8 0 ++ optBoardHandle s.gripper.current)))
    ∧ (s.gripper.state = .ready → exec (.stationClear 2) s =
        .next (s.answered .stationClear .state (u8 0 ++ optBoardHandle s.gripper.current)))
    ∧ ∀ (z : Fin 4) (lowX lowY highX highY : Coord) (mode : ZoneMode) (enable : Byte),
      let zone : Instr := .zoneSet (BitVec.ofNat 8 z) lowX lowY highX highY (BitVec.ofNat 8 mode.code) enable
      let rect : Rect := ⟨⟨lowX.toInt, lowY.toInt⟩, ⟨highX.toInt, highY.toInt⟩⟩
      (highX.toInt < lowX.toInt ∨ highY.toInt < lowY.toInt → exec zone s = .next (s.answered .zoneSet .order []))
        ∧ (lowX.toInt ≤ highX.toInt → lowY.toInt ≤ highY.toInt → exec zone s = .next
            ({ s with zones := s.zones.set z ⟨rect, mode, decide (enable ≠ 0)⟩ }.answered .zoneSet .ok
              (u8 z ++ rectBytes rect ++ u8 mode.code ++ flag (decide (enable ≠ 0)))))
        ∧ ∀ spindle station zone mode : Byte,
          (1 < spindle.toNat → ∀ limit total, exec (.bitChange spindle limit total) s =
              .next (s.answered .bitChange .range []))
            ∧ (2 < station.toNat → exec (.stationClear station) s = .next (s.answered .stationClear .range []))
            ∧ (3 < zone.toNat ∨ 1 < mode.toNat → exec (.zoneSet zone lowX lowY highX highY mode enable) s =
              .next (s.answered .zoneSet .range []))

/-! ### Pick and placement -/

/-- Reservations and slots (R144 to R146, R148): reserving takes the slots from the fill index and asks for an index unless the
bay stands settled there; cancelling empties exactly the reservation's slots and moves the fill index back; placing makes the
head slot OCCUPIED with the board's identity; a bay in INDEX-WANTED becomes ACTIVE by either; the span is the least number of
pitches that takes the board. -/
def Obligations.ReservationsTakeTheSpan : Prop :=
  ((∀ (b : Bay) (m : Magazine) (h : BoardHandle) (k : Nat), ∃ m' : Magazine,
       b.reserve m h k = (if b.state = .atSlot ∧ b.target = some m.fill then { b with current := some m' }
           else { b with current := some m', state := .indexWanted, target := some m.fill })
         ∧ m'.id = m.id ∧ m'.pitch = m.pitch ∧ m'.clearance = m.clearance ∧ m'.fill = m.fill + k
         ∧ m'.slots.length = m.slots.length ∧ ∀ i x, m.slots[i]? = some x → m'.slots[i]? = some
           (if i = m.fill then .reserved h else if m.fill < i ∧ i < m.fill + k then .spanned m.fill else x))
     ∧ ∀ (s : State) (h : BoardHandle) (p : Panel) (b : BoardRecord) (r : Reservation) (m : Magazine),
       s.panel h.entry = some p → s.board h = some b → b.reservation = some r → s.bays[r.bay].current = some m →
       let bay : Bay := s.bays[r.bay]
       let bay' := fun m' => if bay.state = .indexWanted then { bay with current := some m', state := .active, target := none }
         else { bay with current := some m' }
       let unreserved := fun t : State => t.modifyBoard h (fun b => { b with reservation := none })
       (∃ m' : Magazine, s.cancelReservation h = unreserved (s.setBay r.bay (bay' m'))
           ∧ m'.id = m.id ∧ m'.pitch = m.pitch ∧ m'.clearance = m.clearance ∧ m'.fill = r.slot
           ∧ m'.slots.length = m.slots.length ∧ ∀ i x, m.slots[i]? = some x → m'.slots[i]? = some
             (if i = r.slot ∨ x = .spanned r.slot then .empty else x))
         ∧ (s.occupySlot h = unreserved (s.setBay r.bay (bay' { m with
             slots := m.slots.set r.slot (.occupied ⟨p.id, h.site, b.variant, b.verdict⟩) }))))
  ∧ (∀ (thickness topHeight : Nat) (m : Magazine), 0 < m.pitch →
     let k := spanOf thickness topHeight m
     thickness + topHeight + m.clearance ≤ k * m.pitch
       ∧ ∀ j, thickness + topHeight + m.clearance ≤ j * m.pitch → k ≤ j)

/-- NEXT_PICK: the refusals in the order of R125, the board the walk chooses with its reservation (R126 to R128), and WAIT or
IDLE when it chooses none (R129). The candidates are the READY boards on workable panels; one without a destination is set aside
with notice NO-DEST once; the bays are walked in the order of the pick mode (R126). A bay that does not accept is passed over;
in a bay a board of a span above 8 or above the slot count is skipped with notice UNFIT once, the first other board that finds
no room makes the bay FULL, and the first that finds room is chosen (R127). The chosen board is READY on a workable panel, its
destination is the bay, the bay accepts, and the span R144 gives fits. That WORK and STATE send the span in one byte is the
model's choice (log entry 9). -/
def Obligations.NextPickGivesABoard : Prop :=
  (∀ s : State, LineOpen s .gripper →
    let r0 := s.received .gripper
    let answer := fun (t : State) (code : StationCode) => t.replied .gripper .nextPick code []
    (s.causes ≠ ⟨false, false, false⟩ → exec .nextPick s = .next (answer r0 .paused))
      ∧ (s.causes = ⟨false, false, false⟩ →
        (∀ h b r m x, s.gripper.current = some h → s.board h = some b → b.pickPoint = some x → b.reservation = some r →
          s.bays[r.bay].current = some m → exec .nextPick s = .next (r0.replied .gripper .nextPick .state
            (boardHandleBytes h ++ pointBytes x ++ u8 r.bay ++ u8 r.slot
              ++ u8 (1 + (m.slots.filter (fun y => decide (y = .spanned r.slot))).length) ++ u8 b.state.code)))
        ∧ (s.gripper.current = none → s.gripper.state = .stalled → exec .nextPick s = .next (answer r0 .stalled))
        ∧ (s.gripper.current = none → s.gripper.state = .ready → s.suspectReserved = true →
            exec .nextPick s = .next (answer r0 .wait))
        ∧ (s.gripper.current = none → s.gripper.state = .ready → s.suspectReserved = false →
          let walk := walkBays r0.pickCandidates (setAside r0 r0.pickCandidates) r0.bayOrder
          (∀ t c, walk = (t, some c) → ∃ p r b m, s.panel c.board.entry = some p ∧ p.state = .aligned
            ∧ s.clampLevel p.fixture = true ∧ s.slots[p.recipe] = some r ∧ s.board c.board = some b ∧ b.state = .ready
            ∧ s.destination b = some c.bay ∧ s.bays[c.bay].current = some m ∧ t.bays[c.bay] = s.bays[c.bay]
            ∧ (s.bays[c.bay].state = .active ∨ s.bays[c.bay].state = .atSlot) ∧ s.bays[c.bay].confirm = none
            ∧ c.span = spanOf r.header.thickness b.topHeight m ∧ c.span ≤ 8 ∧ m.fill + c.span ≤ m.slots.length
            ∧ exec .nextPick s = .next
              ({ (t.setBay c.bay (s.bays[c.bay].reserve m c.board c.span)).modifyBoard c.board
                  (fun b => { b with state := .targeted, reservation := some ⟨c.bay, m.fill⟩ }) with
                gripper := { s.gripper with current := some c.board, watchdog := some s.settings.gripperTimeout }
                lastServed := c.bay }.replied .gripper .nextPick .work
                (boardHandleBytes c.board ++ pointBytes (b.pickPoint.getD ⟨0, 0⟩) ++ u8 c.bay ++ u8 m.fill
                  ++ u8 c.span)))
          ∧ ∀ t, walk = (t, none) →
            let ready := ∃ e p b, s.panel e = some p ∧ p.state = .aligned ∧ b ∈ p.boards ∧ b.state = .ready
            (ready → exec .nextPick s = .next (answer t .wait)) ∧ (¬ ready → exec .nextPick s = .next (answer t .idle)))))
  ∧ (∀ s : State,
    (∀ h, h ∈ s.pickCandidates ↔ ∃ p b, s.panel h.entry = some p ∧ p.state = .aligned ∧ s.clampLevel p.fixture = true
      ∧ s.board h = some b ∧ b.state = .ready)
    ∧ s.pickCandidates.Pairwise (fun h g => ∀ p q, s.panel h.entry = some p → s.panel g.entry = some q →
        p.fixture < q.fixture ∨ (p.fixture = q.fixture ∧ (h.entry = g.entry → h.site < g.site)))
    ∧ (s.settings.pickMode = .fixed → s.bayOrder = [0, 1, 2, 3])
    ∧ (s.settings.pickMode = .rotating →
        s.bayOrder = [s.lastServed + 1, s.lastServed + 2, s.lastServed + 3, s.lastServed])
    ∧ (s.settings.pickMode = .preferred →
        s.bayOrder = s.settings.preferredBay :: [0, 1, 2, 3].filter (fun b => decide (b ≠ s.settings.preferredBay)))
    ∧ setAside s [] = s
    ∧ ∀ (h : BoardHandle) (rest : List BoardHandle) (b : BoardRecord), s.board h = some b →
      (s.destination b = none → b.notedNoDest = false → setAside s (h :: rest) =
          setAside ((s.modifyBoard h (fun b => { b with notedNoDest := true })).raise .noDest) rest)
        ∧ (s.destination b ≠ none ∨ b.notedNoDest = true → setAside s (h :: rest) = setAside s rest))
  ∧ ∀ (s : State) (candidates : List BoardHandle) (b : Fin 4) (rest : List (Fin 4)),
    let bay : Bay := s.bays[b]
    let accepting := (bay.state = .active ∨ bay.state = .atSlot) ∧ bay.confirm = none ∧ bay.current ≠ none
    walkBays candidates s [] = (s, none)
      ∧ (¬ accepting → walkBays candidates s (b :: rest) = walkBays candidates s rest)
      ∧ ∀ m, bay.current = some m → accepting →
        let walk := walkBay b m s (candidates.filter (fun h => decide ((s.board h).bind s.destination = some b)))
        (∀ t c, walk = (t, some c) → walkBays candidates s (b :: rest) = (t, some c))
          ∧ (∀ t, walk = (t, none) → walkBays candidates s (b :: rest) = walkBays candidates t rest)
          ∧ walkBay b m s [] = (s, none)
          ∧ ∀ (h : BoardHandle) (others : List BoardHandle) (p : Panel) (r : Recipe) (x : BoardRecord),
            s.panel h.entry = some p → s.slots[p.recipe] = some r → s.board h = some x →
            let k := spanOf r.header.thickness x.topHeight m
            let unfit := 8 < k ∨ m.slots.length < k
            (unfit → x.notedUnfit = false → walkBay b m s (h :: others) =
                walkBay b m ((s.modifyBoard h (fun x => { x with notedUnfit := true })).raise .unfit) others)
              ∧ (unfit → x.notedUnfit = true → walkBay b m s (h :: others) = walkBay b m s others)
              ∧ (¬ unfit → m.slots.length < m.fill + k → walkBay b m s (h :: others) =
                  (s.setBay b { bay with state := .full, target := none }, none))
              ∧ (¬ unfit → m.fill + k ≤ m.slots.length → walkBay b m s (h :: others) = (s, some ⟨b, h, k⟩))

/-- HOLD_ON, PLACE_CHECK, PLACED and DROPPED on the gripper's own board (R68, R131 to R134, R146), and the STATE answer for
every other. That HOLD_ON and PLACE_CHECK send 0xFF as the state of a handle that names no board, an entry above 3 included, is
the model's choice (log entry 20), and so is the board's new state in the answer to a DROPPED under cut or from FREE, which R134
gives for an abandoned pick alone (log entry 32). -/
def Obligations.GripperRequestsAreTaken : Prop :=
  ∀ (s : State) (e : Fin 4) (site bay slot : Byte), LineOpen s .gripper →
    let e8 : Byte := BitVec.ofNat 8 e
    let h : BoardHandle := ⟨e, site.toNat⟩
    let r0 := s.received .gripper
    let off := { r0 with gripper := { s.gripper with current := none, watchdog := none } }
    let become := fun (t : State) (st : BoardState) => t.modifyBoard h (fun b => { b with state := st })
    let stateOf := fun t : State => opt8 ((t.board h).map (fun b => b.state.code))
    let dropped := fun t : State => t.replied .gripper .dropped .ok (stateOf t)
    let context := fun (cause : FaultCause) (tab : Option Nat) (recoverable : Bool) =>
      (⟨.handling, cause, some .gripper, none, some e, (s.panel e).map (·.id), some site.toNat, tab, recoverable⟩ : Context)
    (s.gripper.current ≠ some h →
      exec (.holdOn e8 site) s = .next (r0.replied .gripper .holdOn .state (stateOf s))
        ∧ exec (.placeCheck e8 site) s = .next (r0.replied .gripper .placeCheck .state (stateOf s))
        ∧ exec (.placed e8 site bay slot) s = .next (r0.replied .gripper .placed .state [])
        ∧ exec (.dropped e8 site) s = .next (r0.replied .gripper .dropped .state []))
    ∧ (∀ above : Byte, 3 < above.toNat →
      exec (.holdOn above site) s = .next (r0.replied .gripper .holdOn .state [0xFF])
        ∧ exec (.placeCheck above site) s = .next (r0.replied .gripper .placeCheck .state [0xFF])
        ∧ exec (.placed above site bay slot) s = .next (r0.replied .gripper .placed .state [])
        ∧ exec (.dropped above site) s = .next (r0.replied .gripper .dropped .state []))
    ∧ ∀ b, s.gripper.current = some h → s.board h = some b →
      (b.state = .targeted →
        exec (.holdOn e8 site) s = .next ((become r0 .held).replied .gripper .holdOn .ok [])
          ∧ exec (.dropped e8 site) s = .next (dropped (become (off.cancelReservation h) .ready)))
      ∧ (b.state ≠ .targeted → exec (.holdOn e8 site) s = .next (r0.replied .gripper .holdOn .state (u8 b.state.code)))
      ∧ (b.state ≠ .free →
        exec (.placeCheck e8 site) s = .next (r0.replied .gripper .placeCheck .state (u8 b.state.code))
          ∧ exec (.placed e8 site bay slot) s = .next (r0.replied .gripper .placed .state []))
      ∧ (b.state = .held → b.releaseState = some .intact →
          exec (.dropped e8 site) s = .next (dropped (become (off.cancelReservation h) .ready)))
      ∧ (∀ j x, b.state = .held → b.releaseTab = some (j, x) → x.state = .assigned ∨ x.state = .suspect →
          exec (.dropped e8 site) s =
            .next (dropped ((become off .suspect).reportFault (context .dropUnderCut (some j) false))))
      ∧ (b.state = .free → exec (.dropped e8 site) s = .next
          (dropped (((become (off.cancelReservation h) .lost).clearingTest e).reportFault (context .drop none false))))
      ∧ ∀ r, b.state = .free → b.reservation = some r →
        let there : Prop := s.bays[r.bay].state = .atSlot ∧ s.bays[r.bay].target = some r.slot
        let report := u8 s.bays[r.bay].state.code ++ opt8 s.bays[r.bay].target
        let right : Prop := r.bay.val = bay.toNat ∧ r.slot = slot.toNat
        let t := (become { r0.occupySlot h with gripper := { s.gripper with current := none, watchdog := none } }
          .placed).clearingTest e
        (there → exec (.placeCheck e8 site) s = .next (r0.replied .gripper .placeCheck .ok report))
          ∧ (¬ there → exec (.placeCheck e8 site) s = .next (r0.replied .gripper .placeCheck .wait report))
          ∧ (right → exec (.placed e8 site bay slot) s =
              .next ((t.judgePlacement r.bay r.slot).replied .gripper .placed .ok [e8, site, bay, slot]))
          ∧ (¬ right → exec (.placed e8 site bay slot) s = .next
              ((r0.reportFault (context .mismatch none true)).replied .gripper .placed .mismatch []))

/-- How a placement is judged (R146, R147): confirmed at once when the sensor reads PRESENT, found DOUBTFUL at once with fault
UNSEEN at a confirm time of 0, and awaited in an open confirm window otherwise; CONFIRM_WINDOW_EXPIRY at the window's last tick
is the same as the second, and has no effect on a window that is closed or has more ticks to go (R147; log entry 2). -/
def Obligations.PlacementsAreJudged : Prop :=
  (∀ (s : State) (b : Fin 4), s.resetAsserted = false →
    s.bays[b].confirm = none ∨ (∃ slot n, s.bays[b].confirm = some ⟨slot, n + 2⟩) →
    exec (.confirmWindowExpiry b) s = .next s)
  ∧ ∀ (s : State) (b : Fin 4) (slot : Nat) (m : Magazine) (x : PlacedBoard), s.bays[b].current = some m →
    m.slots[slot]? = some (.occupied x) →
    let bay : Bay := s.bays[b]
    let closed := fun bay : Bay => if bay.state = .settling ∨ bay.state = .atSlot
      then { bay with confirm := none, state := .active, settleTimer := none, target := none }
      else { bay with confirm := none }
    let unseen := (s.setBay b (closed { bay with current := some { m with
        slots := m.slots.set slot (.doubtful x) } })).reportFault
      ⟨.handling, .unseen, some .gripper, none, s.entryOfId x.panelId, some x.panelId, some x.site, none, true⟩
    (s.bayLevel b = true → s.judgePlacement b slot = s.setBay b (closed bay))
      ∧ (s.bayLevel b = false → s.settings.confirmTime = 0 → s.judgePlacement b slot = unseen)
      ∧ (s.bayLevel b = false → s.settings.confirmTime ≠ 0 →
          s.judgePlacement b slot = s.setBay b { bay with confirm := some ⟨slot, s.settings.confirmTime⟩ })
      ∧ (s.resetAsserted = false → bay.confirm = some ⟨slot, 1⟩ → exec (.confirmWindowExpiry b) s = .next unseen)

/-! ### Bays -/

/-- BAY_POLL decides the bays in ascending order within the one request, each by the table of R150; a new action is withheld
while a pause cause stands (R91). Each bay is reported in four bytes: action, outstanding mark, target slot, HOLD reason (R194);
that the slot is sent with INDEX alone, the reason with HOLD alone and 0xFF in their place elsewhere is the model's choice (log
entry 24). -/
def Obligations.BayPollDecidesEachBay : Prop :=
  (∀ s : State, LineOpen s .elevator →
    let (s0, r0) := pollBay (s.received .elevator) 0
    let (s1, r1) := pollBay s0 1
    let (s2, r2) := pollBay s1 2
    let (s3, r3) := pollBay s2 3
    exec .bayPoll s =
      .next (s3.replied .elevator .bayPoll .ok (r0.fields ++ r1.fields ++ r2.fields ++ r3.fields)))
  ∧ (∀ (slot : Nat) (outstanding : Bool),
    let mark : Byte := if outstanding then 1 else 0
    (BayReport.index (some slot) outstanding).fields = [0, mark, BitVec.ofNat 8 slot, 0xFF]
      ∧ (BayReport.index none outstanding).fields = [0, mark, 0xFF, 0xFF]
      ∧ (BayReport.exchange outstanding).fields = [1, mark, 0xFF, 0xFF]
      ∧ BayReport.needMagazine.fields = [2, 0, 0xFF, 0] ∧ BayReport.outgoingFull.fields = [2, 0, 0xFF, 1]
      ∧ BayReport.paused.fields = [3, 0, 0xFF, 0xFF] ∧ BayReport.nothing.fields = [4, 0, 0xFF, 0xFF])
  ∧ ∀ (s : State) (b : Fin 4),
    let bay : Bay := s.bays[b]
    let staged := bay.next ≠ none ∧ bay.go = true
    let room := s.outgoing.length + sendingOut s < 4
    let paused := s.causes ≠ ⟨false, false, false⟩
    let given := fun (st : BayState) (a : BayAction) =>
      s.setBay b { bay with state := st, action := some a, actionTimer := some s.settings.actionTimeout }
    (bay.state = .indexWanted → paused → pollBay s b = (s, .paused))
      ∧ (bay.state = .indexWanted → ¬ paused → pollBay s b = (given .indexing .index, .index bay.target false))
      ∧ (bay.state = .indexing → pollBay s b = (s, .index bay.target true))
      ∧ (bay.state = .exchanging → pollBay s b = (s, .exchange true))
      ∧ (bay.state = .full ∨ bay.state = .empty → ¬ staged → pollBay s b = (s.raise .needMagazine, .needMagazine))
      ∧ (bay.state = .full → staged → ¬ room → pollBay s b = (s.raise .outgoingFull, .outgoingFull))
      ∧ ((bay.state = .full ∧ room) ∨ bay.state = .empty → staged → paused → pollBay s b = (s, .paused))
      ∧ ((bay.state = .full ∧ room) ∨ bay.state = .empty → staged → ¬ paused →
          pollBay s b = (given .exchanging .exchange, .exchange false))
      ∧ (bay.state = .active ∨ bay.state = .settling ∨ bay.state = .atSlot ∨ bay.state = .faulted →
          pollBay s b = (s, .nothing))

/-- The ends of an elevator action (R151 to R153): BAY_DONE_INDEX and BAY_DONE_EXCHANGE with and without ok, STATE for a report
that names no outstanding action, ACTION_TIMER_EXPIRY and SETTLE_TIMER_EXPIRY at the last tick of their timers, and without effect
on a timer that is stopped, reloaded or, for the action timer, held by GUARD (R153, R172; log entry 2). That a report about a bay
above 3 sends 0xFF for the bay's state and for its action is the model's choice (log entry 20). -/
def Obligations.BayActionsEnd : Prop :=
  (∀ (s : State) (b : Fin 4) (n : Nat), s.resetAsserted = false →
    (s.bays[b].actionTimer = none ∨ s.bays[b].actionTimer = some (n + 2) ∨ s.causes.guardOpen = true →
      exec (.actionTimerExpiry b) s = .next s)
    ∧ (s.bays[b].settleTimer = none ∨ s.bays[b].settleTimer = some (n + 2) → exec (.settleTimerExpiry b) s = .next s))
  ∧ ∀ (s : State) (b : Fin 4) (ok : Byte),
    let b8 : Byte := BitVec.ofNat 8 b
    let r0 := s.received .elevator
    let bay : Bay := s.bays[b]
    let ended : Bay := { bay with action := none, actionTimer := none }
    let done := fun (t : State) (fields : List Byte) => t.replied .elevator .bayDone .ok fields
    let failed := fun (t : State) (cause : FaultCause) => ((t.setBay b { ended with state := .faulted }).reportFault
      ⟨.bay, cause, some .elevator, some b, none, none, none, none, true⟩).raise .bayFaulted
    let state := opt8 (some bay.state.code) ++ opt8 (bay.action.map BayAction.code)
    (LineOpen s .elevator →
      (bay.action = some .index → ok ≠ 0 → s.settings.settleTime ≠ 0 → exec (.bayDoneIndex b8 ok) s = .next (done
          (r0.setBay b { ended with state := .settling, settleTimer := some s.settings.settleTime }) [4]))
      ∧ (bay.action = some .index → ok ≠ 0 → s.settings.settleTime = 0 → exec (.bayDoneIndex b8 ok) s =
          .next (done (r0.setBay b { ended with state := .atSlot }) [5]))
      ∧ (bay.action = some .index → ok = 0 → exec (.bayDoneIndex b8 ok) s = .next (done (failed r0 .indexFailed) [8]))
      ∧ (bay.action = some .exchange → ok = 0 → exec (.bayDoneExchange b8 ok) s =
          .next (done (failed r0 .exchangeFailed) [8]))
      ∧ (∀ m, bay.action = some .exchange → ok ≠ 0 → bay.next = some m →
          let fresh : Bay := { ended with current := some m, next := none, go := false, state := .active, target := none }
          (bay.current = none → exec (.bayDoneExchange b8 ok) s =
              .next (done (r0.setBay b fresh) (u32 m.id.toNat ++ [0xFF])))
            ∧ ∀ old, bay.current = some old → exec (.bayDoneExchange b8 ok) s = .next (done
              (({ r0 with outgoing := s.outgoing ++ [old] }.raise .magazineOut).setBay b fresh)
                (u32 m.id.toNat ++ u8 s.outgoing.length)))
      ∧ (bay.action ≠ some .index → exec (.bayDoneIndex b8 ok) s =
          .next (r0.replied .elevator .bayDone .state state))
      ∧ (bay.action ≠ some .exchange → exec (.bayDoneExchange b8 ok) s =
          .next (r0.replied .elevator .bayDone .state state))
      ∧ ∀ above : Byte, 3 < above.toNat →
        exec (.bayDoneIndex above ok) s = .next (r0.replied .elevator .bayDone .state [0xFF, 0xFF])
          ∧ exec (.bayDoneExchange above ok) s = .next (r0.replied .elevator .bayDone .state [0xFF, 0xFF]))
    ∧ (s.resetAsserted = false → bay.actionTimer = some 1 → s.causes.guardOpen = false →
        exec (.actionTimerExpiry b) s = .next (failed s .actionTimeout))
    ∧ (s.resetAsserted = false → bay.settleTimer = some 1 →
        exec (.settleTimerExpiry b) s = .next (s.setBay b { bay with settleTimer := none, state := .atSlot }))

/-- The host's bay commands on one bay: MAG_STAGE, MAG_GO, MAG_UNSTAGE, BAY_EXCHANGE, BAY_CLEAR, with their refusals, RANGE for
a bay above 3 among them (R154 to R157). -/
def Obligations.HostManagesABay : Prop :=
  (∀ (s : State) (above slots loaded : Byte) (id : Word) (pitch clearance : Half), PortNormal s → 3 < above.toNat →
    exec (.magStage above id slots pitch clearance) s = .next (s.answered .magStage .range [])
      ∧ exec (.magGo above) s = .next (s.answered .magGo .range [])
      ∧ exec (.magUnstage above) s = .next (s.answered .magUnstage .range [])
      ∧ exec (.bayExchange above) s = .next (s.answered .bayExchange .range [])
      ∧ exec (.bayClear above loaded) s = .next (s.answered .bayClear .range []))
  ∧ ∀ (s : State) (b : Fin 4), PortNormal s →
    let b8 : Byte := BitVec.ofNat 8 b
    let bay : Bay := s.bays[b]
    let reserved : Prop := ∃ h r x, s.board h = some x ∧ x.reservation = some r ∧ r.bay = b
    (∀ (id : Word) (slots : Byte) (pitch clearance : Half),
      let stage : Instr := .magStage b8 id slots pitch clearance
      let dup : Prop := (∃ x : Fin 4, ∃ m, s.bays[x].current = some m ∧ m.id = id)
        ∨ (∃ x : Fin 4, ∃ m, x ≠ b ∧ s.bays[x].next = some m ∧ m.id = id) ∨ ∃ m ∈ s.outgoing, m.id = id
      let committed : Prop := bay.next ≠ none ∧ bay.go = true
      let m : Magazine := ⟨id, min (max 2000 pitch.toNat) 20000, min clearance.toNat 5000, 0,
        List.replicate slots.toNat .empty⟩
      (slots.toNat = 0 ∨ 80 < slots.toNat → exec stage s = .next (s.answered .magStage .range []))
        ∧ (1 ≤ slots.toNat → slots.toNat ≤ 80 → committed → exec stage s = .next (s.answered .magStage .busy []))
        ∧ (1 ≤ slots.toNat → slots.toNat ≤ 80 → ¬ committed → dup →
            exec stage s = .next (s.answered .magStage .duplicate []))
        ∧ (1 ≤ slots.toNat → slots.toNat ≤ 80 → ¬ committed → ¬ dup → exec stage s = .next
            ((s.setBay b { bay with next := some m, go := false }).answered .magStage .ok
              ([b8] ++ u32 id.toNat ++ u16 m.pitch ++ u16 m.clearance))))
    ∧ (bay.next = none → exec (.magGo b8) s = .next (s.answered .magGo .noNext [])
        ∧ exec (.magUnstage b8) s = .next (s.answered .magUnstage .noNext []))
    ∧ (∀ m, bay.next = some m →
        exec (.magGo b8) s = .next ((s.setBay b { bay with go := true }).answered .magGo .ok (u32 m.id.toNat))
          ∧ (bay.go = true → exec (.magUnstage b8) s = .next (s.answered .magUnstage .busy []))
          ∧ (bay.go = false → exec (.magUnstage b8) s =
              .next ((s.setBay b { bay with next := none }).answered .magUnstage .ok (u32 m.id.toNat))))
    ∧ (bay.state ≠ .active → bay.state ≠ .atSlot →
        exec (.bayExchange b8) s = .next (s.answered .bayExchange .state []))
    ∧ (bay.state = .active ∨ bay.state = .atSlot → reserved ∨ bay.confirm ≠ none →
        exec (.bayExchange b8) s = .next (s.answered .bayExchange .busy []))
    ∧ (∀ m, bay.current = some m → bay.state = .active ∨ bay.state = .atSlot → ¬ reserved → bay.confirm = none →
        exec (.bayExchange b8) s = .next ((s.setBay b { bay with state := .full, target := none }).answered .bayExchange
          .ok (u8 m.fill ++ u8 m.slots.length)))
    ∧ (∀ loaded : Byte, bay.state ≠ .faulted →
        exec (.bayClear b8 loaded) s = .next (s.answered .bayClear .state []))
    ∧ (bay.state = .faulted →
      (∀ loaded : Byte, loaded ≠ 0 →
        (bay.current = none → exec (.bayClear b8 loaded) s = .next (s.answered .bayClear .noMagazine []))
          ∧ (bay.current ≠ none → reserved → exec (.bayClear b8 loaded) s =
              .next ((s.setBay b { bay with state := .indexWanted }).answered .bayClear .ok [2]))
          ∧ (bay.current ≠ none → ¬ reserved → exec (.bayClear b8 loaded) s =
              .next ((s.setBay b { bay with state := .active, target := none }).answered .bayClear .ok [1])))
      ∧ (reserved ∨ bay.confirm ≠ none → exec (.bayClear b8 0) s = .next (s.answered .bayClear .busy []))
      ∧ (¬ reserved → bay.confirm = none →
        let empty : Bay := { bay with current := none, state := .empty, target := none }
        (bay.current = none → exec (.bayClear b8 0) s = .next ((s.setBay b empty).answered .bayClear .ok [0]))
          ∧ ∀ m, bay.current = some m →
            (4 ≤ s.outgoing.length + sendingOut s →
                exec (.bayClear b8 0) s = .next (s.answered .bayClear .outgoingFull []))
              ∧ (s.outgoing.length + sendingOut s < 4 → exec (.bayClear b8 0) s = .next
                  ((({ s with outgoing := s.outgoing ++ [m] }.raise .magazineOut).setBay b empty).answered .bayClear .ok
                    [0]))))

/-- MAG_RELEASE removes an outgoing record and keeps the order of the others, NOT-FOUND for any other id (R158); BAY_ROUTE
writes its pairs in list order, RANGE for a pair out of range, LENGTH for a payload that is no list of one to sixteen pairs
(R160). That its answer is sixteen bytes with 4 for NONE is the model's choice (log entry 14). -/
def Obligations.ManifestsAreReleasedAndVariantsRouted : Prop :=
  ∀ s : State, PortNormal s →
    (∀ (before after : List Magazine) (m : Magazine), s.outgoing = before ++ m :: after → (∀ x ∈ before, x.id ≠ m.id) →
      exec (.magRelease m.id) s = .next ({ s with outgoing := before ++ after }.answered .magRelease .ok
        (u16 (before ++ after).length)))
    ∧ (∀ id : Word, (∀ x ∈ s.outgoing, x.id ≠ id) →
      exec (.magRelease id) s = .next (s.answered .magRelease .notFound []))
    ∧ (∀ payload : List Byte, payload = [] ∨ payload.length % 2 = 1 ∨ 32 < payload.length →
      exec (.bayRoute payload) s = .next (s.answered .bayRoute .length []))
    ∧ ∀ pairs : List (Byte × Byte), 1 ≤ pairs.length → pairs.length ≤ 16 →
      let payload := pairs.flatMap (fun p => [p.1, p.2])
      ((∃ p ∈ pairs, 15 < p.1.toNat ∨ 4 < p.2.toNat) →
          exec (.bayRoute payload) s = .next (s.answered .bayRoute .range []))
        ∧ ((∀ p ∈ pairs, p.1.toNat ≤ 15 ∧ p.2.toNat ≤ 4) → ∃ table : Vector (Option (Fin 4)) 16,
          exec (.bayRoute payload) s = .next ({ s with routing := table }.answered .bayRoute .ok
              (table.toList.flatMap (fun d : Option (Fin 4) => u8 (d.elim 4 Fin.val))))
            ∧ ∀ v : Fin 16,
              ((∀ p ∈ pairs, p.1.toNat ≠ v.val) → table[v] = s.routing[v])
                ∧ ∀ before after d, pairs = before ++ (BitVec.ofNat 8 v, d) :: after →
                  (∀ p ∈ after, p.1.toNat ≠ v.val) →
                  table[v].elim 4 Fin.val = d.toNat)

/-! ### Sensors and pausing -/

/-- SAMPLE when a sample is due (R164, R165; that the operand stands for the pins and that a tick marks the sample due are the
model's choice, log entries 4 and 30): every filter record follows its raw level, and with no edge nothing else changes; a lone
edge acts on its block, and with several edges each block takes its own, in some order (R164; the order is a free value, log
entry 3). While no sample is due the pins alone change. GUARD changes the pause causes (R167); a rising clamp edge changes no
record (R32), a falling one reports CLAMP with the context of R34 when the mounted panel has work given out and raises
CLAMP-OPEN otherwise (R33); a rising bay sensor edge confirms an open window, any other has no effect (R147). -/
def Obligations.SamplesFilterTheInputsAndEdgesAct : Prop :=
  (∀ (s : State) (raw : BitVec 7), s.resetAsserted = false →
     (s.sampleDue = false → exec (.sample raw) s = .next { s with pins := raw })
     ∧ (s.sampleDue = true → ∃ (t u : State), exec (.sample raw) s = .next t
       ∧ t.filters = u.filters ∧ t.sampleClock = 0 ∧ t.sampleDue = false ∧ t.pins = raw
       ∧ u = { s with pins := raw, sampleClock := 0, sampleDue := false, filters := u.filters }
       ∧ (∀ i : Fin 7,
         let level := raw.getLsbD i
         let old : FilterRecord := s.filters[i]
         let enough := if level then s.settings.riseCount else s.settings.fallCount
         (level = old.level → u.filters[i] = ⟨old.level, 0⟩)
           ∧ (level ≠ old.level → old.run + 1 < enough → u.filters[i] = ⟨old.level, old.run + 1⟩)
           ∧ (level ≠ old.level → enough ≤ old.run + 1 → u.filters[i] = ⟨level, 0⟩))
       ∧ ((∀ i : Fin 7, u.filters[i].level = s.filters[i].level) → t = u)
       ∧ (∃ order : List (Fin 7),
           order.Perm ((List.finRange 7).filter (fun i => decide (u.filters[i].level ≠ s.filters[i].level)))
             ∧ t = { order.foldl (fun v i => v.takeEdge i (raw.getLsbD i)) u with choice := t.choice })
       ∧ (∀ i : Fin 7, u.filters[i].level ≠ s.filters[i].level →
           (∀ j : Fin 7, j ≠ i → u.filters[j].level = s.filters[j].level) → t = u.takeEdge i (raw.getLsbD i))))
  ∧ (∀ s : State,
     (∀ opened, s.takeEdge 0 opened = { s with causes := { s.causes with guardOpen := opened } })
     ∧ (∀ f : Fin 2, s.takeEdge ⟨f.val + 1, by omega⟩ true = s
       ∧ (s.mounted f = none → s.takeEdge ⟨f.val + 1, by omega⟩ false = s.raise .clampOpen)
       ∧ ∀ e p, s.mounted f = some e → s.panel e = some p →
         let assigned := (s.tabsOf e).filter (fun ht => decide (ht.2.state = .assigned))
         let handled := p.boards.filter (fun b => decide (b.state = .targeted ∨ b.state = .held ∨ b.state = .free))
         let clamp := fun (station : Option LineId) (site : Nat) (tab : Option Nat) =>
           s.reportFault ⟨.clamp, .openedUnderWork, station, none, some e, some p.id, some site, tab, true⟩
         (∀ h x rest, assigned = (h, x) :: rest →
             s.takeEdge ⟨f.val + 1, by omega⟩ false = clamp (x.lastSpindle.map Spindle.line) h.site (some h.tab))
           ∧ (∀ b rest, assigned = [] → handled = b :: rest →
             s.takeEdge ⟨f.val + 1, by omega⟩ false = clamp (some .gripper) b.site none)
           ∧ (assigned = [] → handled = [] → s.takeEdge ⟨f.val + 1, by omega⟩ false = s.raise .clampOpen))
     ∧ ∀ b : Fin 4, s.takeEdge ⟨b.val + 3, by omega⟩ false = s
       ∧ (s.bays[b].confirm = none → s.takeEdge ⟨b.val + 3, by omega⟩ true = s)
       ∧ (s.bays[b].confirm ≠ none → s.takeEdge ⟨b.val + 3, by omega⟩ true = s.confirmPlacement b))

/-- PAUSE adds HOST, RESUME removes HOST and RESTART and keeps GUARD (R167, R168); the pause state is RUN with no cause, PAUSED
with a cause and nothing in flight, PAUSING otherwise (R169), and QUIET shows PAUSED (R170). The answer of both carries the three
causes, the pause state, a mark for each of the four in-flight conditions, the number of ASSIGNED tabs, the first TARGETED or FREE
board, the bays that move, the bays with an open window and the seven filtered levels. The layout of the answer, the width of its
count and the form of an absent board are the model's (log entries 9, 10 and 12). -/
def Obligations.PauseAndResumeChangeTheCauses : Prop :=
  (∀ s : State,
    let boards := (List.finRange 4).flatMap (fun e => (s.boardsOf e).zipIdx.map (fun bi => ((⟨e, bi.2⟩ : BoardHandle), bi.1)))
    let cutting := (boards.flatMap (fun hb => hb.2.tabs)).filter (fun x => decide (x.state = .assigned))
    let carried := boards.filter (fun hb => decide (hb.2.state = .targeted ∨ hb.2.state = .free))
    let moving := (List.finRange 4).map (fun b => decide (s.bays[b].state = .indexing ∨ s.bays[b].state = .exchanging))
    let waiting := (List.finRange 4).map (fun b => s.bays[b].confirm.isSome)
    pauseFields s = flag s.causes.host ++ flag s.causes.guardOpen ++ flag s.causes.restart
      ++ (match s.pauseState with
        | .run => [0]
        | .pausing => [1]
        | .paused => [2])
      ++ flag (!cutting.isEmpty) ++ flag (!carried.isEmpty) ++ flag (moving.any id) ++ flag (waiting.any id)
      ++ u16 cutting.length
      ++ (match carried with
        | [] => [0xFF, 0xFF]
        | hb :: _ => u8 hb.1.entry ++ u8 hb.1.site)
      ++ moving.flatMap flag ++ waiting.flatMap flag ++ (List.finRange 7).flatMap (fun i => flag s.filters[i].level))
  ∧ ∀ s : State,
    let paused : State := { s with causes := { s.causes with host := true } }
    let resumed : State := { s with causes := ⟨false, s.causes.guardOpen, false⟩ }
    (PortNormal s → exec .pause s = .next (paused.answered .pause .ok (pauseFields paused))
      ∧ exec .resume s = .next (resumed.answered .resume .ok (pauseFields resumed)))
    ∧ (∀ idle : PauseCauses, idle = ⟨false, false, false⟩ →
      let moving := (∃ h x, s.tab h = some x ∧ x.state = .assigned)
        ∨ (∃ h b, s.board h = some b ∧ (b.state = .targeted ∨ b.state = .free))
        ∨ ∃ b : Fin 4, s.bays[b].state = .indexing ∨ s.bays[b].state = .exchanging ∨ s.bays[b].confirm ≠ none
      (s.causes = idle → s.pauseState = .run) ∧ (s.causes ≠ idle → moving → s.pauseState = .pausing)
        ∧ (s.causes ≠ idle → ¬ moving → s.pauseState = .paused)
        ∧ (s.quietOut = true ↔ s.resetAsserted = false ∧ s.causes ≠ idle ∧ ¬ moving))

/-! ### Invariants and headlines -/

/-- The invariants hold at reset. -/
def Obligations.InvariantsHoldAtReset : Prop :=
  let s := State.reset
  RunsMatchPanels s ∧ RecipesLoaded s ∧ OneMounted s ∧ CorrectionsMatch s ∧ GuardAgrees s ∧ LockdownStopped s
    ∧ SettingsInRange s ∧ LinesSound s ∧ BaysSound s ∧ Interlocked s

/-- Every step keeps the Panel Table sound: a run is RUNNING exactly for the CORRECTING panels, the recipe of every LIVE panel
stays LOADED, at most one panel of a fixture is mounted, and exactly the ALIGNED and CLEARED panels have a correction record
(R17, R21, R22, R37). -/
def Obligations.PanelTableStaysSound : Prop :=
  StepKeeps (fun s => RunsMatchPanels s ∧ RecipesLoaded s ∧ OneMounted s ∧ CorrectionsMatch s)

/-- Every step keeps every setting in its range, GUARD a pause cause exactly while its filtered level reads OPEN, and in LOCKDOWN
the part disarmed with its work timers STOPPED (R167, R176, R178, R190). -/
def Obligations.SettingsGuardAndLockdownStaySound : Prop :=
  StepKeeps (fun s => SettingsInRange s ∧ GuardAgrees s ∧ LockdownStopped s)

/-- Every step keeps the answer queues within their bounds, a request held exactly while the Verdict Hold is HOLDING, each bay's
action and timers in step with its state, and the outgoing list with the exchanges under way within four (R84, R87, R142,
R150). -/
def Obligations.LinesAndBaysStaySound : Prop := StepKeeps (fun s => LinesSound s ∧ BaysSound s)

/-- Every step keeps the release interlock: a release tab is ASSIGNED only while its board is HELD or SUSPECT (R66), and every
recipe and board keeps exactly one release tab. -/
def Obligations.ReleaseInterlockHolds : Prop := StepKeeps Interlocked

/-- In one step a board of an interlocked part keeps its state or makes a move of the table of R59. -/
def Obligations.BoardsMoveByTheTable : Prop :=
  ∀ (s t : State) (h : BoardHandle) (b c : BoardRecord), Interlocked s → step s = .next t → s.board h = some b →
    t.board h = some c → c.state = b.state ∨ BoardMove b.state c.state = true

/-- A tab becomes ASSIGNED in a step only if it was eligible, on a panel that was workable, with no pause cause and outside
LOCKDOWN (R32, R66, R104, R171). -/
def Obligations.TabsAreAssignedOnlyWhenEligible : Prop :=
  ∀ (s t : State) (h : TabHandle) (y : TabRecord), step s = .next t → t.tab h = some y → y.state = .assigned →
    (∃ x, s.tab h = some x ∧ x.state = .assigned)
      ∨ ∃ x b p, s.tab h = some x ∧ s.board h.board = some b ∧ s.panel h.entry = some p ∧ x.state = .intact
        ∧ ((x.release = false ∧ b.state = .cutting) ∨ (x.release = true ∧ b.state = .held))
        ∧ p.state = .aligned ∧ s.clampLevel p.fixture = true ∧ s.causes = ⟨false, false, false⟩
        ∧ s.fault.locked = false

/-- The two spindles stand apart when a tab is given out: the tab a step assigns lies at the clearance setting or more from the
other spindle's current tab (R102, R103). -/
def Obligations.SpindlesStayApart : Prop :=
  ∀ (s t : State) (sp : Spindle) (c d : CurrentTab) (x y : TabRecord) (m n : Point), step s = .next t →
    (s.spindle sp).current = none → (t.spindle sp).current = some c → (t.spindle sp.other).current = some d →
    t.tab c.handle = some x → x.corrected = some m → t.tab d.handle = some y → y.corrected = some n →
    s.settings.clearance ≤ max (n.x - m.x).natAbs (n.y - m.y).natAbs

end Statements
end

