-- ==== Sys2Proof/Laws/State.lean ====
section
/-! SUPPORT. Every field of the state after each plain update, true by definition, and what reading a record back after a
write gives. -/

namespace Sys2Proof.Machine

/-! ### One record written -/

/-- The fields of a state after an entry of the Panel Table is written. -/
@[simp] theorem setPanel_fields (s : State) (e : Fin 4) (p : Option Panel) :
    (s.setPanel e p).slots = s.slots
    ∧ (s.setPanel e p).staging = s.staging
    ∧ (s.setPanel e p).admitCounter = s.admitCounter
    ∧ (s.setPanel e p).runs = s.runs
    ∧ (s.setPanel e p).hold = s.hold
    ∧ (s.setPanel e p).lines = s.lines
    ∧ (s.setPanel e p).spindleA = s.spindleA
    ∧ (s.setPanel e p).spindleB = s.spindleB
    ∧ (s.setPanel e p).zones = s.zones
    ∧ (s.setPanel e p).gripper = s.gripper
    ∧ (s.setPanel e p).routing = s.routing
    ∧ (s.setPanel e p).lastServed = s.lastServed
    ∧ (s.setPanel e p).bays = s.bays
    ∧ (s.setPanel e p).outgoing = s.outgoing
    ∧ (s.setPanel e p).filters = s.filters
    ∧ (s.setPanel e p).sampleClock = s.sampleClock
    ∧ (s.setPanel e p).sampleDue = s.sampleDue
    ∧ (s.setPanel e p).pins = s.pins
    ∧ (s.setPanel e p).causes = s.causes
    ∧ (s.setPanel e p).fault = s.fault
    ∧ (s.setPanel e p).notices = s.notices
    ∧ (s.setPanel e p).answer = s.answer
    ∧ (s.setPanel e p).ovr = s.ovr
    ∧ (s.setPanel e p).busy = s.busy
    ∧ (s.setPanel e p).settings = s.settings
    ∧ (s.setPanel e p).resetAsserted = s.resetAsserted
    ∧ (s.setPanel e p).choice = s.choice
    ∧ (s.setPanel e p).pending = s.pending
    ∧ (s.setPanel e p).panels = s.panels.set e p := by
  and_intros <;> rfl

/-- The fields after a bay record is written. -/
@[simp] theorem setBay_fields (s : State) (b : Fin 4) (r : Bay) :
    (s.setBay b r).slots = s.slots
    ∧ (s.setBay b r).staging = s.staging
    ∧ (s.setBay b r).panels = s.panels
    ∧ (s.setBay b r).admitCounter = s.admitCounter
    ∧ (s.setBay b r).runs = s.runs
    ∧ (s.setBay b r).hold = s.hold
    ∧ (s.setBay b r).lines = s.lines
    ∧ (s.setBay b r).spindleA = s.spindleA
    ∧ (s.setBay b r).spindleB = s.spindleB
    ∧ (s.setBay b r).zones = s.zones
    ∧ (s.setBay b r).gripper = s.gripper
    ∧ (s.setBay b r).routing = s.routing
    ∧ (s.setBay b r).lastServed = s.lastServed
    ∧ (s.setBay b r).outgoing = s.outgoing
    ∧ (s.setBay b r).filters = s.filters
    ∧ (s.setBay b r).sampleClock = s.sampleClock
    ∧ (s.setBay b r).sampleDue = s.sampleDue
    ∧ (s.setBay b r).pins = s.pins
    ∧ (s.setBay b r).causes = s.causes
    ∧ (s.setBay b r).fault = s.fault
    ∧ (s.setBay b r).notices = s.notices
    ∧ (s.setBay b r).answer = s.answer
    ∧ (s.setBay b r).ovr = s.ovr
    ∧ (s.setBay b r).busy = s.busy
    ∧ (s.setBay b r).settings = s.settings
    ∧ (s.setBay b r).resetAsserted = s.resetAsserted
    ∧ (s.setBay b r).choice = s.choice
    ∧ (s.setBay b r).pending = s.pending
    ∧ (s.setBay b r).bays = s.bays.set b r := by
  and_intros <;> rfl

/-- The fields after a line record is written. -/
@[simp] theorem setLine_fields (s : State) (l : LineId) (r : Line) :
    (s.setLine l r).slots = s.slots
    ∧ (s.setLine l r).staging = s.staging
    ∧ (s.setLine l r).panels = s.panels
    ∧ (s.setLine l r).admitCounter = s.admitCounter
    ∧ (s.setLine l r).runs = s.runs
    ∧ (s.setLine l r).hold = s.hold
    ∧ (s.setLine l r).spindleA = s.spindleA
    ∧ (s.setLine l r).spindleB = s.spindleB
    ∧ (s.setLine l r).zones = s.zones
    ∧ (s.setLine l r).gripper = s.gripper
    ∧ (s.setLine l r).routing = s.routing
    ∧ (s.setLine l r).lastServed = s.lastServed
    ∧ (s.setLine l r).bays = s.bays
    ∧ (s.setLine l r).outgoing = s.outgoing
    ∧ (s.setLine l r).filters = s.filters
    ∧ (s.setLine l r).sampleClock = s.sampleClock
    ∧ (s.setLine l r).sampleDue = s.sampleDue
    ∧ (s.setLine l r).pins = s.pins
    ∧ (s.setLine l r).causes = s.causes
    ∧ (s.setLine l r).fault = s.fault
    ∧ (s.setLine l r).notices = s.notices
    ∧ (s.setLine l r).answer = s.answer
    ∧ (s.setLine l r).ovr = s.ovr
    ∧ (s.setLine l r).busy = s.busy
    ∧ (s.setLine l r).settings = s.settings
    ∧ (s.setLine l r).resetAsserted = s.resetAsserted
    ∧ (s.setLine l r).choice = s.choice
    ∧ (s.setLine l r).pending = s.pending
    ∧ (s.setLine l r).lines = s.lines.set l.idx r := by
  and_intros <;> rfl

/-- The fields after a notice is raised (R191). -/
@[simp] theorem raise_fields (s : State) (n : Notice) :
    (s.raise n).slots = s.slots
    ∧ (s.raise n).staging = s.staging
    ∧ (s.raise n).panels = s.panels
    ∧ (s.raise n).admitCounter = s.admitCounter
    ∧ (s.raise n).runs = s.runs
    ∧ (s.raise n).hold = s.hold
    ∧ (s.raise n).lines = s.lines
    ∧ (s.raise n).spindleA = s.spindleA
    ∧ (s.raise n).spindleB = s.spindleB
    ∧ (s.raise n).zones = s.zones
    ∧ (s.raise n).gripper = s.gripper
    ∧ (s.raise n).routing = s.routing
    ∧ (s.raise n).lastServed = s.lastServed
    ∧ (s.raise n).bays = s.bays
    ∧ (s.raise n).outgoing = s.outgoing
    ∧ (s.raise n).filters = s.filters
    ∧ (s.raise n).sampleClock = s.sampleClock
    ∧ (s.raise n).sampleDue = s.sampleDue
    ∧ (s.raise n).pins = s.pins
    ∧ (s.raise n).causes = s.causes
    ∧ (s.raise n).fault = s.fault
    ∧ (s.raise n).answer = s.answer
    ∧ (s.raise n).ovr = s.ovr
    ∧ (s.raise n).busy = s.busy
    ∧ (s.raise n).settings = s.settings
    ∧ (s.raise n).resetAsserted = s.resetAsserted
    ∧ (s.raise n).choice = s.choice
    ∧ (s.raise n).pending = s.pending
    ∧ (s.raise n).notices = { s.notices with flags := s.notices.flags ||| n.mask } := by
  and_intros <;> rfl

/-- The fields after an answer is placed (R188). -/
@[simp] theorem placeAnswer_fields (s : State) (code : Byte) (a : Answer) :
    (s.placeAnswer code a).slots = s.slots
    ∧ (s.placeAnswer code a).staging = s.staging
    ∧ (s.placeAnswer code a).panels = s.panels
    ∧ (s.placeAnswer code a).admitCounter = s.admitCounter
    ∧ (s.placeAnswer code a).runs = s.runs
    ∧ (s.placeAnswer code a).hold = s.hold
    ∧ (s.placeAnswer code a).lines = s.lines
    ∧ (s.placeAnswer code a).spindleA = s.spindleA
    ∧ (s.placeAnswer code a).spindleB = s.spindleB
    ∧ (s.placeAnswer code a).zones = s.zones
    ∧ (s.placeAnswer code a).gripper = s.gripper
    ∧ (s.placeAnswer code a).routing = s.routing
    ∧ (s.placeAnswer code a).lastServed = s.lastServed
    ∧ (s.placeAnswer code a).bays = s.bays
    ∧ (s.placeAnswer code a).outgoing = s.outgoing
    ∧ (s.placeAnswer code a).filters = s.filters
    ∧ (s.placeAnswer code a).sampleClock = s.sampleClock
    ∧ (s.placeAnswer code a).sampleDue = s.sampleDue
    ∧ (s.placeAnswer code a).pins = s.pins
    ∧ (s.placeAnswer code a).causes = s.causes
    ∧ (s.placeAnswer code a).fault = s.fault
    ∧ (s.placeAnswer code a).notices = s.notices
    ∧ (s.placeAnswer code a).ovr = s.ovr
    ∧ (s.placeAnswer code a).settings = s.settings
    ∧ (s.placeAnswer code a).resetAsserted = s.resetAsserted
    ∧ (s.placeAnswer code a).choice = s.choice
    ∧ (s.placeAnswer code a).pending = s.pending
    ∧ (s.placeAnswer code a).answer = ⟨s.answer.sequence + 1, code, some a.code, a.fields⟩
    ∧ (s.placeAnswer code a).busy = false := by
  and_intros <;> rfl

/-- The fields after a context is captured into the primary record (R177). -/
@[simp] theorem capture_fields (s : State) (c : Context) :
    (s.capture c).slots = s.slots
    ∧ (s.capture c).staging = s.staging
    ∧ (s.capture c).panels = s.panels
    ∧ (s.capture c).admitCounter = s.admitCounter
    ∧ (s.capture c).runs = s.runs
    ∧ (s.capture c).hold = s.hold
    ∧ (s.capture c).lines = s.lines
    ∧ (s.capture c).spindleA = s.spindleA
    ∧ (s.capture c).spindleB = s.spindleB
    ∧ (s.capture c).zones = s.zones
    ∧ (s.capture c).gripper = s.gripper
    ∧ (s.capture c).routing = s.routing
    ∧ (s.capture c).lastServed = s.lastServed
    ∧ (s.capture c).bays = s.bays
    ∧ (s.capture c).outgoing = s.outgoing
    ∧ (s.capture c).filters = s.filters
    ∧ (s.capture c).sampleClock = s.sampleClock
    ∧ (s.capture c).sampleDue = s.sampleDue
    ∧ (s.capture c).pins = s.pins
    ∧ (s.capture c).causes = s.causes
    ∧ (s.capture c).answer = s.answer
    ∧ (s.capture c).ovr = s.ovr
    ∧ (s.capture c).busy = s.busy
    ∧ (s.capture c).settings = s.settings
    ∧ (s.capture c).resetAsserted = s.resetAsserted
    ∧ (s.capture c).choice = s.choice
    ∧ (s.capture c).pending = s.pending
    ∧ (s.capture c).fault = { s.fault with primary := some c, armed := false }
    ∧ (s.capture c).notices = (s.raise .captured).notices := by
  and_intros <;> rfl

/-- The fields after a class joins the pending set (R177, R180). -/
@[simp] theorem addPending_fields (s : State) (k : FaultClass) :
    (s.addPending k).slots = s.slots
    ∧ (s.addPending k).staging = s.staging
    ∧ (s.addPending k).panels = s.panels
    ∧ (s.addPending k).admitCounter = s.admitCounter
    ∧ (s.addPending k).runs = s.runs
    ∧ (s.addPending k).hold = s.hold
    ∧ (s.addPending k).lines = s.lines
    ∧ (s.addPending k).spindleA = s.spindleA
    ∧ (s.addPending k).spindleB = s.spindleB
    ∧ (s.addPending k).zones = s.zones
    ∧ (s.addPending k).gripper = s.gripper
    ∧ (s.addPending k).routing = s.routing
    ∧ (s.addPending k).lastServed = s.lastServed
    ∧ (s.addPending k).bays = s.bays
    ∧ (s.addPending k).outgoing = s.outgoing
    ∧ (s.addPending k).filters = s.filters
    ∧ (s.addPending k).sampleClock = s.sampleClock
    ∧ (s.addPending k).sampleDue = s.sampleDue
    ∧ (s.addPending k).pins = s.pins
    ∧ (s.addPending k).causes = s.causes
    ∧ (s.addPending k).answer = s.answer
    ∧ (s.addPending k).ovr = s.ovr
    ∧ (s.addPending k).busy = s.busy
    ∧ (s.addPending k).settings = s.settings
    ∧ (s.addPending k).resetAsserted = s.resetAsserted
    ∧ (s.addPending k).choice = s.choice
    ∧ (s.addPending k).pending = s.pending
    ∧ (s.addPending k).fault = { s.fault with pendingSet := s.fault.pendingSet ||| BitVec.twoPow 7 k.code }
    ∧ (s.addPending k).notices = (s.raise .pending).notices := by
  and_intros <;> rfl

/-- The fields after LOCKDOWN begins (R178). -/
@[simp] theorem enterLockdown_fields (s : State) (c : Context) :
    (s.enterLockdown c).slots = s.slots
    ∧ (s.enterLockdown c).staging = s.staging
    ∧ (s.enterLockdown c).panels = s.panels
    ∧ (s.enterLockdown c).admitCounter = s.admitCounter
    ∧ (s.enterLockdown c).runs = s.runs
    ∧ (s.enterLockdown c).lines = s.lines
    ∧ (s.enterLockdown c).zones = s.zones
    ∧ (s.enterLockdown c).routing = s.routing
    ∧ (s.enterLockdown c).lastServed = s.lastServed
    ∧ (s.enterLockdown c).outgoing = s.outgoing
    ∧ (s.enterLockdown c).filters = s.filters
    ∧ (s.enterLockdown c).sampleClock = s.sampleClock
    ∧ (s.enterLockdown c).sampleDue = s.sampleDue
    ∧ (s.enterLockdown c).pins = s.pins
    ∧ (s.enterLockdown c).causes = s.causes
    ∧ (s.enterLockdown c).answer = s.answer
    ∧ (s.enterLockdown c).ovr = s.ovr
    ∧ (s.enterLockdown c).busy = s.busy
    ∧ (s.enterLockdown c).settings = s.settings
    ∧ (s.enterLockdown c).resetAsserted = s.resetAsserted
    ∧ (s.enterLockdown c).choice = s.choice
    ∧ (s.enterLockdown c).pending = s.pending
    ∧ (s.enterLockdown c).fault = { s.fault with lockdownRec := some c, locked := true }
    ∧ (s.enterLockdown c).notices = (s.raise .lockdown).notices
    ∧ (s.enterLockdown c).spindleA = { s.spindleA with watchdog := none }
    ∧ (s.enterLockdown c).spindleB = { s.spindleB with watchdog := none }
    ∧ (s.enterLockdown c).gripper = { s.gripper with watchdog := none }
    ∧ (s.enterLockdown c).bays = mapVec Bay.stopAction s.bays
    ∧ (s.enterLockdown c).hold = s.hold.stop := by
  and_intros <;> rfl

/-- The fields after a run's values are written. -/
@[simp] theorem setRun_fields (s : State) (e : Fin 4) (v : RunValues) :
    (s.setRun e v).slots = s.slots
    ∧ (s.setRun e v).staging = s.staging
    ∧ (s.setRun e v).panels = s.panels
    ∧ (s.setRun e v).admitCounter = s.admitCounter
    ∧ (s.setRun e v).hold = s.hold
    ∧ (s.setRun e v).lines = s.lines
    ∧ (s.setRun e v).spindleA = s.spindleA
    ∧ (s.setRun e v).spindleB = s.spindleB
    ∧ (s.setRun e v).zones = s.zones
    ∧ (s.setRun e v).gripper = s.gripper
    ∧ (s.setRun e v).routing = s.routing
    ∧ (s.setRun e v).lastServed = s.lastServed
    ∧ (s.setRun e v).bays = s.bays
    ∧ (s.setRun e v).outgoing = s.outgoing
    ∧ (s.setRun e v).filters = s.filters
    ∧ (s.setRun e v).sampleClock = s.sampleClock
    ∧ (s.setRun e v).sampleDue = s.sampleDue
    ∧ (s.setRun e v).pins = s.pins
    ∧ (s.setRun e v).causes = s.causes
    ∧ (s.setRun e v).fault = s.fault
    ∧ (s.setRun e v).notices = s.notices
    ∧ (s.setRun e v).answer = s.answer
    ∧ (s.setRun e v).ovr = s.ovr
    ∧ (s.setRun e v).busy = s.busy
    ∧ (s.setRun e v).settings = s.settings
    ∧ (s.setRun e v).resetAsserted = s.resetAsserted
    ∧ (s.setRun e v).choice = s.choice
    ∧ (s.setRun e v).pending = s.pending
    ∧ (s.setRun e v).runs = s.runs.set e (.running v) := by
  and_intros <;> rfl

/-- The fields after the gripper lets go of its board (R133). -/
@[simp] theorem releaseGripper_fields (s : State) :
    (s.releaseGripper).slots = s.slots
    ∧ (s.releaseGripper).staging = s.staging
    ∧ (s.releaseGripper).panels = s.panels
    ∧ (s.releaseGripper).admitCounter = s.admitCounter
    ∧ (s.releaseGripper).runs = s.runs
    ∧ (s.releaseGripper).hold = s.hold
    ∧ (s.releaseGripper).lines = s.lines
    ∧ (s.releaseGripper).spindleA = s.spindleA
    ∧ (s.releaseGripper).spindleB = s.spindleB
    ∧ (s.releaseGripper).zones = s.zones
    ∧ (s.releaseGripper).routing = s.routing
    ∧ (s.releaseGripper).lastServed = s.lastServed
    ∧ (s.releaseGripper).bays = s.bays
    ∧ (s.releaseGripper).outgoing = s.outgoing
    ∧ (s.releaseGripper).filters = s.filters
    ∧ (s.releaseGripper).sampleClock = s.sampleClock
    ∧ (s.releaseGripper).sampleDue = s.sampleDue
    ∧ (s.releaseGripper).pins = s.pins
    ∧ (s.releaseGripper).causes = s.causes
    ∧ (s.releaseGripper).fault = s.fault
    ∧ (s.releaseGripper).notices = s.notices
    ∧ (s.releaseGripper).answer = s.answer
    ∧ (s.releaseGripper).ovr = s.ovr
    ∧ (s.releaseGripper).busy = s.busy
    ∧ (s.releaseGripper).settings = s.settings
    ∧ (s.releaseGripper).resetAsserted = s.resetAsserted
    ∧ (s.releaseGripper).choice = s.choice
    ∧ (s.releaseGripper).pending = s.pending
    ∧ (s.releaseGripper).gripper = { s.gripper with current := none, watchdog := none } := by
  and_intros <;> rfl

/-- The fields after the settings are written (R165, R190). -/
@[simp] theorem configure_fields (s : State) (c : Settings) :
    (s.configure c).slots = s.slots
    ∧ (s.configure c).staging = s.staging
    ∧ (s.configure c).panels = s.panels
    ∧ (s.configure c).admitCounter = s.admitCounter
    ∧ (s.configure c).runs = s.runs
    ∧ (s.configure c).hold = s.hold
    ∧ (s.configure c).lines = s.lines
    ∧ (s.configure c).spindleA = s.spindleA
    ∧ (s.configure c).spindleB = s.spindleB
    ∧ (s.configure c).zones = s.zones
    ∧ (s.configure c).gripper = s.gripper
    ∧ (s.configure c).routing = s.routing
    ∧ (s.configure c).lastServed = s.lastServed
    ∧ (s.configure c).bays = s.bays
    ∧ (s.configure c).outgoing = s.outgoing
    ∧ (s.configure c).filters = s.filters
    ∧ (s.configure c).sampleClock = s.sampleClock
    ∧ (s.configure c).pins = s.pins
    ∧ (s.configure c).causes = s.causes
    ∧ (s.configure c).fault = s.fault
    ∧ (s.configure c).notices = s.notices
    ∧ (s.configure c).answer = s.answer
    ∧ (s.configure c).ovr = s.ovr
    ∧ (s.configure c).busy = s.busy
    ∧ (s.configure c).resetAsserted = s.resetAsserted
    ∧ (s.configure c).choice = s.choice
    ∧ (s.configure c).pending = s.pending
    ∧ (s.configure c).settings = c
    ∧ (s.configure c).sampleDue = (s.sampleDue && decide (c.sampleInterval = s.settings.sampleInterval)) := by
  and_intros <;> rfl

/-- The fields after a spindle record is written. -/
@[simp] theorem setSpindle_fields (s : State) (sp : Spindle) (r : SpindleRecord) :
    (s.setSpindle sp r).slots = s.slots
    ∧ (s.setSpindle sp r).staging = s.staging
    ∧ (s.setSpindle sp r).panels = s.panels
    ∧ (s.setSpindle sp r).admitCounter = s.admitCounter
    ∧ (s.setSpindle sp r).runs = s.runs
    ∧ (s.setSpindle sp r).hold = s.hold
    ∧ (s.setSpindle sp r).lines = s.lines
    ∧ (s.setSpindle sp r).zones = s.zones
    ∧ (s.setSpindle sp r).gripper = s.gripper
    ∧ (s.setSpindle sp r).routing = s.routing
    ∧ (s.setSpindle sp r).lastServed = s.lastServed
    ∧ (s.setSpindle sp r).bays = s.bays
    ∧ (s.setSpindle sp r).outgoing = s.outgoing
    ∧ (s.setSpindle sp r).filters = s.filters
    ∧ (s.setSpindle sp r).sampleClock = s.sampleClock
    ∧ (s.setSpindle sp r).sampleDue = s.sampleDue
    ∧ (s.setSpindle sp r).pins = s.pins
    ∧ (s.setSpindle sp r).causes = s.causes
    ∧ (s.setSpindle sp r).fault = s.fault
    ∧ (s.setSpindle sp r).notices = s.notices
    ∧ (s.setSpindle sp r).answer = s.answer
    ∧ (s.setSpindle sp r).ovr = s.ovr
    ∧ (s.setSpindle sp r).busy = s.busy
    ∧ (s.setSpindle sp r).settings = s.settings
    ∧ (s.setSpindle sp r).resetAsserted = s.resetAsserted
    ∧ (s.setSpindle sp r).choice = s.choice
    ∧ (s.setSpindle sp r).pending = s.pending := by
  cases sp <;> and_intros <;> rfl

/-! ### Reading back -/

/-- A spindle record reads back as written. -/
@[simp] theorem spindle_setSpindle (s : State) (sp : Spindle) (r : SpindleRecord) : (s.setSpindle sp r).spindle sp = r := by
  cases sp <;> rfl

/-- The other spindle's record is unchanged. -/
@[simp] theorem spindle_setSpindle_other (s : State) (sp : Spindle) (r : SpindleRecord) :
    (s.setSpindle sp r).spindle sp.other = s.spindle sp.other := by
  cases sp <;> rfl

/-- An entry reads back as written. -/
@[simp] theorem panel_setPanel (s : State) (e : Fin 4) (p : Option Panel) : (s.setPanel e p).panel e = p := by
  simp [State.panel]

/-- The other entries are unchanged. -/
theorem panel_setPanel_ne (s : State) (e x : Fin 4) (p : Option Panel) (h : e ≠ x) :
    (s.setPanel e p).panel x = s.panel x := by
  have : e.val ≠ x.val := fun hv => h (Fin.ext hv)
  simp [State.panel, this]

/-- A bay record reads back as written. -/
@[simp] theorem bay_setBay (s : State) (b : Fin 4) (r : Bay) : (s.setBay b r).bays[b] = r := by
  simp

/-- The other bays are unchanged. -/
theorem bay_setBay_ne (s : State) (b x : Fin 4) (r : Bay) (h : b ≠ x) : (s.setBay b r).bays[x] = s.bays[x] := by
  have : b.val ≠ x.val := fun hv => h (Fin.ext hv)
  simp [this]

/-- A line record reads back as written. -/
@[simp] theorem line_setLine (s : State) (l : LineId) (r : Line) : (s.setLine l r).line l = r := by
  simp [State.line]

/-- The five lines have five places. -/
theorem idx_injective {l m : LineId} (h : l.idx = m.idx) : l = m := by
  cases l <;> cases m <;> first | rfl | exact absurd h (by decide)

/-- The other lines are unchanged. -/
theorem line_setLine_ne (s : State) (l m : LineId) (r : Line) (h : l ≠ m) : (s.setLine l r).line m = s.line m := by
  have hv : l.idx.val ≠ m.idx.val := fun hv => h (idx_injective (Fin.ext hv))
  simp [State.line, hv]

/-- A vector changed at every place, read at one place. -/
@[simp] theorem mapVec_get {α β : Type} {n : Nat} (f : α → β) (v : Vector α n) (i : Fin n) : (mapVec f v)[i] = f v[i] := by
  simp [mapVec]

/-- The same read at a number. -/
@[simp] theorem mapVec_getElem {α β : Type} {n : Nat} (f : α → β) (v : Vector α n) (i : Nat) (h : i < n) :
    (mapVec f v)[i] = f v[i] := by
  simp [mapVec]

end Sys2Proof.Machine
end

