-- ==== Sys2Proof/Laws/Frames.lean ====
section
/-! SUPPORT. Frames of the shared operations: the fields of the state that each one leaves as they were. -/

namespace Sys2Proof.Machine

/-- A board record is changed: the Panel Table alone. -/
@[simp] theorem modifyBoard_fields (s : State) (h : BoardHandle) (f : BoardRecord → BoardRecord) :
    (s.modifyBoard h f).slots = s.slots
    ∧ (s.modifyBoard h f).staging = s.staging
    ∧ (s.modifyBoard h f).admitCounter = s.admitCounter
    ∧ (s.modifyBoard h f).runs = s.runs
    ∧ (s.modifyBoard h f).hold = s.hold
    ∧ (s.modifyBoard h f).lines = s.lines
    ∧ (s.modifyBoard h f).spindleA = s.spindleA
    ∧ (s.modifyBoard h f).spindleB = s.spindleB
    ∧ (s.modifyBoard h f).zones = s.zones
    ∧ (s.modifyBoard h f).gripper = s.gripper
    ∧ (s.modifyBoard h f).routing = s.routing
    ∧ (s.modifyBoard h f).lastServed = s.lastServed
    ∧ (s.modifyBoard h f).bays = s.bays
    ∧ (s.modifyBoard h f).outgoing = s.outgoing
    ∧ (s.modifyBoard h f).filters = s.filters
    ∧ (s.modifyBoard h f).sampleClock = s.sampleClock
    ∧ (s.modifyBoard h f).sampleDue = s.sampleDue
    ∧ (s.modifyBoard h f).pins = s.pins
    ∧ (s.modifyBoard h f).causes = s.causes
    ∧ (s.modifyBoard h f).fault = s.fault
    ∧ (s.modifyBoard h f).notices = s.notices
    ∧ (s.modifyBoard h f).answer = s.answer
    ∧ (s.modifyBoard h f).ovr = s.ovr
    ∧ (s.modifyBoard h f).busy = s.busy
    ∧ (s.modifyBoard h f).settings = s.settings
    ∧ (s.modifyBoard h f).resetAsserted = s.resetAsserted
    ∧ (s.modifyBoard h f).choice = s.choice
    ∧ (s.modifyBoard h f).pending = s.pending := by
  unfold State.modifyBoard; split <;> simp

/-- A tab record is changed: the Panel Table alone. -/
@[simp] theorem modifyTab_fields (s : State) (h : TabHandle) (f : TabRecord → TabRecord) :
    (s.modifyTab h f).slots = s.slots
    ∧ (s.modifyTab h f).staging = s.staging
    ∧ (s.modifyTab h f).admitCounter = s.admitCounter
    ∧ (s.modifyTab h f).runs = s.runs
    ∧ (s.modifyTab h f).hold = s.hold
    ∧ (s.modifyTab h f).lines = s.lines
    ∧ (s.modifyTab h f).spindleA = s.spindleA
    ∧ (s.modifyTab h f).spindleB = s.spindleB
    ∧ (s.modifyTab h f).zones = s.zones
    ∧ (s.modifyTab h f).gripper = s.gripper
    ∧ (s.modifyTab h f).routing = s.routing
    ∧ (s.modifyTab h f).lastServed = s.lastServed
    ∧ (s.modifyTab h f).bays = s.bays
    ∧ (s.modifyTab h f).outgoing = s.outgoing
    ∧ (s.modifyTab h f).filters = s.filters
    ∧ (s.modifyTab h f).sampleClock = s.sampleClock
    ∧ (s.modifyTab h f).sampleDue = s.sampleDue
    ∧ (s.modifyTab h f).pins = s.pins
    ∧ (s.modifyTab h f).causes = s.causes
    ∧ (s.modifyTab h f).fault = s.fault
    ∧ (s.modifyTab h f).notices = s.notices
    ∧ (s.modifyTab h f).answer = s.answer
    ∧ (s.modifyTab h f).ovr = s.ovr
    ∧ (s.modifyTab h f).busy = s.busy
    ∧ (s.modifyTab h f).settings = s.settings
    ∧ (s.modifyTab h f).resetAsserted = s.resetAsserted
    ∧ (s.modifyTab h f).choice = s.choice
    ∧ (s.modifyTab h f).pending = s.pending := by
  simp [State.modifyTab]

/-- A tab's state is written: the Panel Table alone. -/
@[simp] theorem setTabState_fields (s : State) (h : TabHandle) (t : TabState) :
    (s.setTabState h t).slots = s.slots
    ∧ (s.setTabState h t).staging = s.staging
    ∧ (s.setTabState h t).admitCounter = s.admitCounter
    ∧ (s.setTabState h t).runs = s.runs
    ∧ (s.setTabState h t).hold = s.hold
    ∧ (s.setTabState h t).lines = s.lines
    ∧ (s.setTabState h t).spindleA = s.spindleA
    ∧ (s.setTabState h t).spindleB = s.spindleB
    ∧ (s.setTabState h t).zones = s.zones
    ∧ (s.setTabState h t).gripper = s.gripper
    ∧ (s.setTabState h t).routing = s.routing
    ∧ (s.setTabState h t).lastServed = s.lastServed
    ∧ (s.setTabState h t).bays = s.bays
    ∧ (s.setTabState h t).outgoing = s.outgoing
    ∧ (s.setTabState h t).filters = s.filters
    ∧ (s.setTabState h t).sampleClock = s.sampleClock
    ∧ (s.setTabState h t).sampleDue = s.sampleDue
    ∧ (s.setTabState h t).pins = s.pins
    ∧ (s.setTabState h t).causes = s.causes
    ∧ (s.setTabState h t).fault = s.fault
    ∧ (s.setTabState h t).notices = s.notices
    ∧ (s.setTabState h t).answer = s.answer
    ∧ (s.setTabState h t).ovr = s.ovr
    ∧ (s.setTabState h t).busy = s.busy
    ∧ (s.setTabState h t).settings = s.settings
    ∧ (s.setTabState h t).resetAsserted = s.resetAsserted
    ∧ (s.setTabState h t).choice = s.choice
    ∧ (s.setTabState h t).pending = s.pending := by
  simp [State.setTabState]

/-- A board's state is written: the Panel Table alone. -/
@[simp] theorem setBoardState_fields (s : State) (h : BoardHandle) (b : BoardState) :
    (s.setBoardState h b).slots = s.slots
    ∧ (s.setBoardState h b).staging = s.staging
    ∧ (s.setBoardState h b).admitCounter = s.admitCounter
    ∧ (s.setBoardState h b).runs = s.runs
    ∧ (s.setBoardState h b).hold = s.hold
    ∧ (s.setBoardState h b).lines = s.lines
    ∧ (s.setBoardState h b).spindleA = s.spindleA
    ∧ (s.setBoardState h b).spindleB = s.spindleB
    ∧ (s.setBoardState h b).zones = s.zones
    ∧ (s.setBoardState h b).gripper = s.gripper
    ∧ (s.setBoardState h b).routing = s.routing
    ∧ (s.setBoardState h b).lastServed = s.lastServed
    ∧ (s.setBoardState h b).bays = s.bays
    ∧ (s.setBoardState h b).outgoing = s.outgoing
    ∧ (s.setBoardState h b).filters = s.filters
    ∧ (s.setBoardState h b).sampleClock = s.sampleClock
    ∧ (s.setBoardState h b).sampleDue = s.sampleDue
    ∧ (s.setBoardState h b).pins = s.pins
    ∧ (s.setBoardState h b).causes = s.causes
    ∧ (s.setBoardState h b).fault = s.fault
    ∧ (s.setBoardState h b).notices = s.notices
    ∧ (s.setBoardState h b).answer = s.answer
    ∧ (s.setBoardState h b).ovr = s.ovr
    ∧ (s.setBoardState h b).busy = s.busy
    ∧ (s.setBoardState h b).settings = s.settings
    ∧ (s.setBoardState h b).resetAsserted = s.resetAsserted
    ∧ (s.setBoardState h b).choice = s.choice
    ∧ (s.setBoardState h b).pending = s.pending := by
  simp [State.setBoardState]

/-- The clearing test: the Panel Table and the notices (R27). -/
@[simp] theorem clearingTest_fields (s : State) (e : Fin 4) :
    (s.clearingTest e).slots = s.slots
    ∧ (s.clearingTest e).staging = s.staging
    ∧ (s.clearingTest e).admitCounter = s.admitCounter
    ∧ (s.clearingTest e).runs = s.runs
    ∧ (s.clearingTest e).hold = s.hold
    ∧ (s.clearingTest e).lines = s.lines
    ∧ (s.clearingTest e).spindleA = s.spindleA
    ∧ (s.clearingTest e).spindleB = s.spindleB
    ∧ (s.clearingTest e).zones = s.zones
    ∧ (s.clearingTest e).gripper = s.gripper
    ∧ (s.clearingTest e).routing = s.routing
    ∧ (s.clearingTest e).lastServed = s.lastServed
    ∧ (s.clearingTest e).bays = s.bays
    ∧ (s.clearingTest e).outgoing = s.outgoing
    ∧ (s.clearingTest e).filters = s.filters
    ∧ (s.clearingTest e).sampleClock = s.sampleClock
    ∧ (s.clearingTest e).sampleDue = s.sampleDue
    ∧ (s.clearingTest e).pins = s.pins
    ∧ (s.clearingTest e).causes = s.causes
    ∧ (s.clearingTest e).fault = s.fault
    ∧ (s.clearingTest e).answer = s.answer
    ∧ (s.clearingTest e).ovr = s.ovr
    ∧ (s.clearingTest e).busy = s.busy
    ∧ (s.clearingTest e).settings = s.settings
    ∧ (s.clearingTest e).resetAsserted = s.resetAsserted
    ∧ (s.clearingTest e).choice = s.choice
    ∧ (s.clearingTest e).pending = s.pending := by
  unfold State.clearingTest; split <;> (try split) <;> simp

/-- A terminal state is entered: the Panel Table and the notices (R59). -/
@[simp] theorem setBoardTerminal_fields (s : State) (h : BoardHandle) (b : BoardState) :
    (s.setBoardTerminal h b).slots = s.slots
    ∧ (s.setBoardTerminal h b).staging = s.staging
    ∧ (s.setBoardTerminal h b).admitCounter = s.admitCounter
    ∧ (s.setBoardTerminal h b).runs = s.runs
    ∧ (s.setBoardTerminal h b).hold = s.hold
    ∧ (s.setBoardTerminal h b).lines = s.lines
    ∧ (s.setBoardTerminal h b).spindleA = s.spindleA
    ∧ (s.setBoardTerminal h b).spindleB = s.spindleB
    ∧ (s.setBoardTerminal h b).zones = s.zones
    ∧ (s.setBoardTerminal h b).gripper = s.gripper
    ∧ (s.setBoardTerminal h b).routing = s.routing
    ∧ (s.setBoardTerminal h b).lastServed = s.lastServed
    ∧ (s.setBoardTerminal h b).bays = s.bays
    ∧ (s.setBoardTerminal h b).outgoing = s.outgoing
    ∧ (s.setBoardTerminal h b).filters = s.filters
    ∧ (s.setBoardTerminal h b).sampleClock = s.sampleClock
    ∧ (s.setBoardTerminal h b).sampleDue = s.sampleDue
    ∧ (s.setBoardTerminal h b).pins = s.pins
    ∧ (s.setBoardTerminal h b).causes = s.causes
    ∧ (s.setBoardTerminal h b).fault = s.fault
    ∧ (s.setBoardTerminal h b).answer = s.answer
    ∧ (s.setBoardTerminal h b).ovr = s.ovr
    ∧ (s.setBoardTerminal h b).busy = s.busy
    ∧ (s.setBoardTerminal h b).settings = s.settings
    ∧ (s.setBoardTerminal h b).resetAsserted = s.resetAsserted
    ∧ (s.setBoardTerminal h b).choice = s.choice
    ∧ (s.setBoardTerminal h b).pending = s.pending := by
  simp [State.setBoardTerminal]

/-- A tab becomes CUT: the Panel Table alone (R65). -/
@[simp] theorem cutTab_fields (s : State) (h : TabHandle) :
    (s.cutTab h).slots = s.slots
    ∧ (s.cutTab h).staging = s.staging
    ∧ (s.cutTab h).admitCounter = s.admitCounter
    ∧ (s.cutTab h).runs = s.runs
    ∧ (s.cutTab h).hold = s.hold
    ∧ (s.cutTab h).lines = s.lines
    ∧ (s.cutTab h).spindleA = s.spindleA
    ∧ (s.cutTab h).spindleB = s.spindleB
    ∧ (s.cutTab h).zones = s.zones
    ∧ (s.cutTab h).gripper = s.gripper
    ∧ (s.cutTab h).routing = s.routing
    ∧ (s.cutTab h).lastServed = s.lastServed
    ∧ (s.cutTab h).bays = s.bays
    ∧ (s.cutTab h).outgoing = s.outgoing
    ∧ (s.cutTab h).filters = s.filters
    ∧ (s.cutTab h).sampleClock = s.sampleClock
    ∧ (s.cutTab h).sampleDue = s.sampleDue
    ∧ (s.cutTab h).pins = s.pins
    ∧ (s.cutTab h).causes = s.causes
    ∧ (s.cutTab h).fault = s.fault
    ∧ (s.cutTab h).notices = s.notices
    ∧ (s.cutTab h).answer = s.answer
    ∧ (s.cutTab h).ovr = s.ovr
    ∧ (s.cutTab h).busy = s.busy
    ∧ (s.cutTab h).settings = s.settings
    ∧ (s.cutTab h).resetAsserted = s.resetAsserted
    ∧ (s.cutTab h).choice = s.choice
    ∧ (s.cutTab h).pending = s.pending := by
  unfold State.cutTab; split <;> simp

/-- A reported fault: the Fault Unit, the notices and the station timers (R177, R178, R180). -/
@[simp] theorem reportFault_fields (s : State) (c : Context) :
    (s.reportFault c).slots = s.slots
    ∧ (s.reportFault c).staging = s.staging
    ∧ (s.reportFault c).panels = s.panels
    ∧ (s.reportFault c).admitCounter = s.admitCounter
    ∧ (s.reportFault c).runs = s.runs
    ∧ (s.reportFault c).lines = s.lines
    ∧ (s.reportFault c).zones = s.zones
    ∧ (s.reportFault c).routing = s.routing
    ∧ (s.reportFault c).lastServed = s.lastServed
    ∧ (s.reportFault c).outgoing = s.outgoing
    ∧ (s.reportFault c).filters = s.filters
    ∧ (s.reportFault c).sampleClock = s.sampleClock
    ∧ (s.reportFault c).sampleDue = s.sampleDue
    ∧ (s.reportFault c).pins = s.pins
    ∧ (s.reportFault c).causes = s.causes
    ∧ (s.reportFault c).answer = s.answer
    ∧ (s.reportFault c).ovr = s.ovr
    ∧ (s.reportFault c).busy = s.busy
    ∧ (s.reportFault c).settings = s.settings
    ∧ (s.reportFault c).resetAsserted = s.resetAsserted
    ∧ (s.reportFault c).choice = s.choice
    ∧ (s.reportFault c).pending = s.pending := by
  unfold State.reportFault; split <;> (try split) <;> (try split) <;> (try split) <;> simp

/-- A reservation is cancelled: the Panel Table and the bays (R145). -/
@[simp] theorem cancelReservation_fields (s : State) (h : BoardHandle) :
    (s.cancelReservation h).slots = s.slots
    ∧ (s.cancelReservation h).staging = s.staging
    ∧ (s.cancelReservation h).admitCounter = s.admitCounter
    ∧ (s.cancelReservation h).runs = s.runs
    ∧ (s.cancelReservation h).hold = s.hold
    ∧ (s.cancelReservation h).lines = s.lines
    ∧ (s.cancelReservation h).spindleA = s.spindleA
    ∧ (s.cancelReservation h).spindleB = s.spindleB
    ∧ (s.cancelReservation h).zones = s.zones
    ∧ (s.cancelReservation h).gripper = s.gripper
    ∧ (s.cancelReservation h).routing = s.routing
    ∧ (s.cancelReservation h).lastServed = s.lastServed
    ∧ (s.cancelReservation h).outgoing = s.outgoing
    ∧ (s.cancelReservation h).filters = s.filters
    ∧ (s.cancelReservation h).sampleClock = s.sampleClock
    ∧ (s.cancelReservation h).sampleDue = s.sampleDue
    ∧ (s.cancelReservation h).pins = s.pins
    ∧ (s.cancelReservation h).causes = s.causes
    ∧ (s.cancelReservation h).fault = s.fault
    ∧ (s.cancelReservation h).notices = s.notices
    ∧ (s.cancelReservation h).answer = s.answer
    ∧ (s.cancelReservation h).ovr = s.ovr
    ∧ (s.cancelReservation h).busy = s.busy
    ∧ (s.cancelReservation h).settings = s.settings
    ∧ (s.cancelReservation h).resetAsserted = s.resetAsserted
    ∧ (s.cancelReservation h).choice = s.choice
    ∧ (s.cancelReservation h).pending = s.pending := by
  unfold State.cancelReservation; split <;> (try split) <;> simp

/-- A slot is occupied: the Panel Table and the bays (R146). -/
@[simp] theorem occupySlot_fields (s : State) (h : BoardHandle) :
    (s.occupySlot h).slots = s.slots
    ∧ (s.occupySlot h).staging = s.staging
    ∧ (s.occupySlot h).admitCounter = s.admitCounter
    ∧ (s.occupySlot h).runs = s.runs
    ∧ (s.occupySlot h).hold = s.hold
    ∧ (s.occupySlot h).lines = s.lines
    ∧ (s.occupySlot h).spindleA = s.spindleA
    ∧ (s.occupySlot h).spindleB = s.spindleB
    ∧ (s.occupySlot h).zones = s.zones
    ∧ (s.occupySlot h).gripper = s.gripper
    ∧ (s.occupySlot h).routing = s.routing
    ∧ (s.occupySlot h).lastServed = s.lastServed
    ∧ (s.occupySlot h).outgoing = s.outgoing
    ∧ (s.occupySlot h).filters = s.filters
    ∧ (s.occupySlot h).sampleClock = s.sampleClock
    ∧ (s.occupySlot h).sampleDue = s.sampleDue
    ∧ (s.occupySlot h).pins = s.pins
    ∧ (s.occupySlot h).causes = s.causes
    ∧ (s.occupySlot h).fault = s.fault
    ∧ (s.occupySlot h).notices = s.notices
    ∧ (s.occupySlot h).answer = s.answer
    ∧ (s.occupySlot h).ovr = s.ovr
    ∧ (s.occupySlot h).busy = s.busy
    ∧ (s.occupySlot h).settings = s.settings
    ∧ (s.occupySlot h).resetAsserted = s.resetAsserted
    ∧ (s.occupySlot h).choice = s.choice
    ∧ (s.occupySlot h).pending = s.pending := by
  unfold State.occupySlot; split <;> (try split) <;> simp

/-- A placement is confirmed: the bays alone (R147). -/
@[simp] theorem confirmPlacement_fields (s : State) (b : Fin 4) :
    (s.confirmPlacement b).slots = s.slots
    ∧ (s.confirmPlacement b).staging = s.staging
    ∧ (s.confirmPlacement b).panels = s.panels
    ∧ (s.confirmPlacement b).admitCounter = s.admitCounter
    ∧ (s.confirmPlacement b).runs = s.runs
    ∧ (s.confirmPlacement b).hold = s.hold
    ∧ (s.confirmPlacement b).lines = s.lines
    ∧ (s.confirmPlacement b).spindleA = s.spindleA
    ∧ (s.confirmPlacement b).spindleB = s.spindleB
    ∧ (s.confirmPlacement b).zones = s.zones
    ∧ (s.confirmPlacement b).gripper = s.gripper
    ∧ (s.confirmPlacement b).routing = s.routing
    ∧ (s.confirmPlacement b).lastServed = s.lastServed
    ∧ (s.confirmPlacement b).outgoing = s.outgoing
    ∧ (s.confirmPlacement b).filters = s.filters
    ∧ (s.confirmPlacement b).sampleClock = s.sampleClock
    ∧ (s.confirmPlacement b).sampleDue = s.sampleDue
    ∧ (s.confirmPlacement b).pins = s.pins
    ∧ (s.confirmPlacement b).causes = s.causes
    ∧ (s.confirmPlacement b).fault = s.fault
    ∧ (s.confirmPlacement b).notices = s.notices
    ∧ (s.confirmPlacement b).answer = s.answer
    ∧ (s.confirmPlacement b).ovr = s.ovr
    ∧ (s.confirmPlacement b).busy = s.busy
    ∧ (s.confirmPlacement b).settings = s.settings
    ∧ (s.confirmPlacement b).resetAsserted = s.resetAsserted
    ∧ (s.confirmPlacement b).choice = s.choice
    ∧ (s.confirmPlacement b).pending = s.pending := by
  simp [State.confirmPlacement]

/-- A confirm window runs out unseen: the bays, the Fault Unit and what it stops (R147). -/
@[simp] theorem expireConfirm_fields (s : State) (b : Fin 4) (slot : Nat) :
    (s.expireConfirm b slot).slots = s.slots
    ∧ (s.expireConfirm b slot).staging = s.staging
    ∧ (s.expireConfirm b slot).panels = s.panels
    ∧ (s.expireConfirm b slot).admitCounter = s.admitCounter
    ∧ (s.expireConfirm b slot).runs = s.runs
    ∧ (s.expireConfirm b slot).lines = s.lines
    ∧ (s.expireConfirm b slot).zones = s.zones
    ∧ (s.expireConfirm b slot).routing = s.routing
    ∧ (s.expireConfirm b slot).lastServed = s.lastServed
    ∧ (s.expireConfirm b slot).outgoing = s.outgoing
    ∧ (s.expireConfirm b slot).filters = s.filters
    ∧ (s.expireConfirm b slot).sampleClock = s.sampleClock
    ∧ (s.expireConfirm b slot).sampleDue = s.sampleDue
    ∧ (s.expireConfirm b slot).pins = s.pins
    ∧ (s.expireConfirm b slot).causes = s.causes
    ∧ (s.expireConfirm b slot).answer = s.answer
    ∧ (s.expireConfirm b slot).ovr = s.ovr
    ∧ (s.expireConfirm b slot).busy = s.busy
    ∧ (s.expireConfirm b slot).settings = s.settings
    ∧ (s.expireConfirm b slot).resetAsserted = s.resetAsserted
    ∧ (s.expireConfirm b slot).choice = s.choice
    ∧ (s.expireConfirm b slot).pending = s.pending := by
  simp [State.expireConfirm]

/-- An answer joins a queue: the lines alone (R87). -/
@[simp] theorem sendAnswer_fields (s : State) (l : LineId) (f : Frame) :
    (s.sendAnswer l f).slots = s.slots
    ∧ (s.sendAnswer l f).staging = s.staging
    ∧ (s.sendAnswer l f).panels = s.panels
    ∧ (s.sendAnswer l f).admitCounter = s.admitCounter
    ∧ (s.sendAnswer l f).runs = s.runs
    ∧ (s.sendAnswer l f).hold = s.hold
    ∧ (s.sendAnswer l f).spindleA = s.spindleA
    ∧ (s.sendAnswer l f).spindleB = s.spindleB
    ∧ (s.sendAnswer l f).zones = s.zones
    ∧ (s.sendAnswer l f).gripper = s.gripper
    ∧ (s.sendAnswer l f).routing = s.routing
    ∧ (s.sendAnswer l f).lastServed = s.lastServed
    ∧ (s.sendAnswer l f).bays = s.bays
    ∧ (s.sendAnswer l f).outgoing = s.outgoing
    ∧ (s.sendAnswer l f).filters = s.filters
    ∧ (s.sendAnswer l f).sampleClock = s.sampleClock
    ∧ (s.sendAnswer l f).sampleDue = s.sampleDue
    ∧ (s.sendAnswer l f).pins = s.pins
    ∧ (s.sendAnswer l f).causes = s.causes
    ∧ (s.sendAnswer l f).fault = s.fault
    ∧ (s.sendAnswer l f).notices = s.notices
    ∧ (s.sendAnswer l f).answer = s.answer
    ∧ (s.sendAnswer l f).ovr = s.ovr
    ∧ (s.sendAnswer l f).busy = s.busy
    ∧ (s.sendAnswer l f).settings = s.settings
    ∧ (s.sendAnswer l f).resetAsserted = s.resetAsserted
    ∧ (s.sendAnswer l f).choice = s.choice
    ∧ (s.sendAnswer l f).pending = s.pending := by
  simp [State.sendAnswer]

/-- The frame in progress is dropped: the lines alone. -/
@[simp] theorem dropFrame_fields (s : State) (l : LineId) :
    (s.dropFrame l).slots = s.slots
    ∧ (s.dropFrame l).staging = s.staging
    ∧ (s.dropFrame l).panels = s.panels
    ∧ (s.dropFrame l).admitCounter = s.admitCounter
    ∧ (s.dropFrame l).runs = s.runs
    ∧ (s.dropFrame l).hold = s.hold
    ∧ (s.dropFrame l).spindleA = s.spindleA
    ∧ (s.dropFrame l).spindleB = s.spindleB
    ∧ (s.dropFrame l).zones = s.zones
    ∧ (s.dropFrame l).gripper = s.gripper
    ∧ (s.dropFrame l).routing = s.routing
    ∧ (s.dropFrame l).lastServed = s.lastServed
    ∧ (s.dropFrame l).bays = s.bays
    ∧ (s.dropFrame l).outgoing = s.outgoing
    ∧ (s.dropFrame l).filters = s.filters
    ∧ (s.dropFrame l).sampleClock = s.sampleClock
    ∧ (s.dropFrame l).sampleDue = s.sampleDue
    ∧ (s.dropFrame l).pins = s.pins
    ∧ (s.dropFrame l).causes = s.causes
    ∧ (s.dropFrame l).fault = s.fault
    ∧ (s.dropFrame l).notices = s.notices
    ∧ (s.dropFrame l).answer = s.answer
    ∧ (s.dropFrame l).ovr = s.ovr
    ∧ (s.dropFrame l).busy = s.busy
    ∧ (s.dropFrame l).settings = s.settings
    ∧ (s.dropFrame l).resetAsserted = s.resetAsserted
    ∧ (s.dropFrame l).choice = s.choice
    ∧ (s.dropFrame l).pending = s.pending := by
  simp [State.dropFrame]

/-- A frame completes: the lines alone (R85). -/
@[simp] theorem frameComplete_fields (s : State) (l : LineId) :
    (s.frameComplete l).slots = s.slots
    ∧ (s.frameComplete l).staging = s.staging
    ∧ (s.frameComplete l).panels = s.panels
    ∧ (s.frameComplete l).admitCounter = s.admitCounter
    ∧ (s.frameComplete l).runs = s.runs
    ∧ (s.frameComplete l).hold = s.hold
    ∧ (s.frameComplete l).spindleA = s.spindleA
    ∧ (s.frameComplete l).spindleB = s.spindleB
    ∧ (s.frameComplete l).zones = s.zones
    ∧ (s.frameComplete l).gripper = s.gripper
    ∧ (s.frameComplete l).routing = s.routing
    ∧ (s.frameComplete l).lastServed = s.lastServed
    ∧ (s.frameComplete l).bays = s.bays
    ∧ (s.frameComplete l).outgoing = s.outgoing
    ∧ (s.frameComplete l).filters = s.filters
    ∧ (s.frameComplete l).sampleClock = s.sampleClock
    ∧ (s.frameComplete l).sampleDue = s.sampleDue
    ∧ (s.frameComplete l).pins = s.pins
    ∧ (s.frameComplete l).causes = s.causes
    ∧ (s.frameComplete l).fault = s.fault
    ∧ (s.frameComplete l).notices = s.notices
    ∧ (s.frameComplete l).answer = s.answer
    ∧ (s.frameComplete l).ovr = s.ovr
    ∧ (s.frameComplete l).busy = s.busy
    ∧ (s.frameComplete l).settings = s.settings
    ∧ (s.frameComplete l).resetAsserted = s.resetAsserted
    ∧ (s.frameComplete l).choice = s.choice
    ∧ (s.frameComplete l).pending = s.pending := by
  simp [State.frameComplete]

/-- A watchdog is reloaded: the station records alone (R93). -/
@[simp] theorem reloadWatchdog_fields (s : State) (l : LineId) :
    (s.reloadWatchdog l).slots = s.slots
    ∧ (s.reloadWatchdog l).staging = s.staging
    ∧ (s.reloadWatchdog l).panels = s.panels
    ∧ (s.reloadWatchdog l).admitCounter = s.admitCounter
    ∧ (s.reloadWatchdog l).runs = s.runs
    ∧ (s.reloadWatchdog l).hold = s.hold
    ∧ (s.reloadWatchdog l).lines = s.lines
    ∧ (s.reloadWatchdog l).zones = s.zones
    ∧ (s.reloadWatchdog l).routing = s.routing
    ∧ (s.reloadWatchdog l).lastServed = s.lastServed
    ∧ (s.reloadWatchdog l).bays = s.bays
    ∧ (s.reloadWatchdog l).outgoing = s.outgoing
    ∧ (s.reloadWatchdog l).filters = s.filters
    ∧ (s.reloadWatchdog l).sampleClock = s.sampleClock
    ∧ (s.reloadWatchdog l).sampleDue = s.sampleDue
    ∧ (s.reloadWatchdog l).pins = s.pins
    ∧ (s.reloadWatchdog l).causes = s.causes
    ∧ (s.reloadWatchdog l).fault = s.fault
    ∧ (s.reloadWatchdog l).notices = s.notices
    ∧ (s.reloadWatchdog l).answer = s.answer
    ∧ (s.reloadWatchdog l).ovr = s.ovr
    ∧ (s.reloadWatchdog l).busy = s.busy
    ∧ (s.reloadWatchdog l).settings = s.settings
    ∧ (s.reloadWatchdog l).resetAsserted = s.resetAsserted
    ∧ (s.reloadWatchdog l).choice = s.choice
    ∧ (s.reloadWatchdog l).pending = s.pending := by
  cases l <;> and_intros <;> rfl

/-- UNKNOWN is answered: the lines alone (R86). -/
@[simp] theorem answerUnknown_fields (s : State) (l : LineId) (code : Byte) :
    (s.answerUnknown l code).slots = s.slots
    ∧ (s.answerUnknown l code).staging = s.staging
    ∧ (s.answerUnknown l code).panels = s.panels
    ∧ (s.answerUnknown l code).admitCounter = s.admitCounter
    ∧ (s.answerUnknown l code).runs = s.runs
    ∧ (s.answerUnknown l code).hold = s.hold
    ∧ (s.answerUnknown l code).spindleA = s.spindleA
    ∧ (s.answerUnknown l code).spindleB = s.spindleB
    ∧ (s.answerUnknown l code).zones = s.zones
    ∧ (s.answerUnknown l code).gripper = s.gripper
    ∧ (s.answerUnknown l code).routing = s.routing
    ∧ (s.answerUnknown l code).lastServed = s.lastServed
    ∧ (s.answerUnknown l code).bays = s.bays
    ∧ (s.answerUnknown l code).outgoing = s.outgoing
    ∧ (s.answerUnknown l code).filters = s.filters
    ∧ (s.answerUnknown l code).sampleClock = s.sampleClock
    ∧ (s.answerUnknown l code).sampleDue = s.sampleDue
    ∧ (s.answerUnknown l code).pins = s.pins
    ∧ (s.answerUnknown l code).causes = s.causes
    ∧ (s.answerUnknown l code).fault = s.fault
    ∧ (s.answerUnknown l code).notices = s.notices
    ∧ (s.answerUnknown l code).answer = s.answer
    ∧ (s.answerUnknown l code).ovr = s.ovr
    ∧ (s.answerUnknown l code).busy = s.busy
    ∧ (s.answerUnknown l code).settings = s.settings
    ∧ (s.answerUnknown l code).resetAsserted = s.resetAsserted
    ∧ (s.answerUnknown l code).choice = s.choice
    ∧ (s.answerUnknown l code).pending = s.pending := by
  unfold State.answerUnknown; split <;> simp

/-- A verdict is applied: the Panel Table and the notices (R60, R61). -/
@[simp] theorem applyVerdict_fields (s : State) (h : BoardHandle) (v : Verdict) :
    (s.applyVerdict h v).slots = s.slots
    ∧ (s.applyVerdict h v).staging = s.staging
    ∧ (s.applyVerdict h v).admitCounter = s.admitCounter
    ∧ (s.applyVerdict h v).runs = s.runs
    ∧ (s.applyVerdict h v).hold = s.hold
    ∧ (s.applyVerdict h v).lines = s.lines
    ∧ (s.applyVerdict h v).spindleA = s.spindleA
    ∧ (s.applyVerdict h v).spindleB = s.spindleB
    ∧ (s.applyVerdict h v).zones = s.zones
    ∧ (s.applyVerdict h v).gripper = s.gripper
    ∧ (s.applyVerdict h v).routing = s.routing
    ∧ (s.applyVerdict h v).lastServed = s.lastServed
    ∧ (s.applyVerdict h v).bays = s.bays
    ∧ (s.applyVerdict h v).outgoing = s.outgoing
    ∧ (s.applyVerdict h v).filters = s.filters
    ∧ (s.applyVerdict h v).sampleClock = s.sampleClock
    ∧ (s.applyVerdict h v).sampleDue = s.sampleDue
    ∧ (s.applyVerdict h v).pins = s.pins
    ∧ (s.applyVerdict h v).causes = s.causes
    ∧ (s.applyVerdict h v).fault = s.fault
    ∧ (s.applyVerdict h v).answer = s.answer
    ∧ (s.applyVerdict h v).ovr = s.ovr
    ∧ (s.applyVerdict h v).busy = s.busy
    ∧ (s.applyVerdict h v).settings = s.settings
    ∧ (s.applyVerdict h v).resetAsserted = s.resetAsserted
    ∧ (s.applyVerdict h v).choice = s.choice
    ∧ (s.applyVerdict h v).pending = s.pending := by
  unfold State.applyVerdict; split <;> (try split) <;> simp

/-- A verdict is written: the Panel Table alone (R62). -/
@[simp] theorem writeVerdict_fields (s : State) (h : BoardHandle) (v : Verdict) :
    (s.writeVerdict h v).slots = s.slots
    ∧ (s.writeVerdict h v).staging = s.staging
    ∧ (s.writeVerdict h v).admitCounter = s.admitCounter
    ∧ (s.writeVerdict h v).runs = s.runs
    ∧ (s.writeVerdict h v).hold = s.hold
    ∧ (s.writeVerdict h v).lines = s.lines
    ∧ (s.writeVerdict h v).spindleA = s.spindleA
    ∧ (s.writeVerdict h v).spindleB = s.spindleB
    ∧ (s.writeVerdict h v).zones = s.zones
    ∧ (s.writeVerdict h v).gripper = s.gripper
    ∧ (s.writeVerdict h v).routing = s.routing
    ∧ (s.writeVerdict h v).lastServed = s.lastServed
    ∧ (s.writeVerdict h v).bays = s.bays
    ∧ (s.writeVerdict h v).outgoing = s.outgoing
    ∧ (s.writeVerdict h v).filters = s.filters
    ∧ (s.writeVerdict h v).sampleClock = s.sampleClock
    ∧ (s.writeVerdict h v).sampleDue = s.sampleDue
    ∧ (s.writeVerdict h v).pins = s.pins
    ∧ (s.writeVerdict h v).causes = s.causes
    ∧ (s.writeVerdict h v).fault = s.fault
    ∧ (s.writeVerdict h v).notices = s.notices
    ∧ (s.writeVerdict h v).answer = s.answer
    ∧ (s.writeVerdict h v).ovr = s.ovr
    ∧ (s.writeVerdict h v).busy = s.busy
    ∧ (s.writeVerdict h v).settings = s.settings
    ∧ (s.writeVerdict h v).resetAsserted = s.resetAsserted
    ∧ (s.writeVerdict h v).choice = s.choice
    ∧ (s.writeVerdict h v).pending = s.pending := by
  simp [State.writeVerdict]

/-- A verdict from DECIDE or hold expiry: the Panel Table and the notices (R76, R77). -/
@[simp] theorem settleVerdict_fields (s : State) (h : BoardHandle) (v : Verdict) :
    (s.settleVerdict h v).slots = s.slots
    ∧ (s.settleVerdict h v).staging = s.staging
    ∧ (s.settleVerdict h v).admitCounter = s.admitCounter
    ∧ (s.settleVerdict h v).runs = s.runs
    ∧ (s.settleVerdict h v).hold = s.hold
    ∧ (s.settleVerdict h v).lines = s.lines
    ∧ (s.settleVerdict h v).spindleA = s.spindleA
    ∧ (s.settleVerdict h v).spindleB = s.spindleB
    ∧ (s.settleVerdict h v).zones = s.zones
    ∧ (s.settleVerdict h v).gripper = s.gripper
    ∧ (s.settleVerdict h v).routing = s.routing
    ∧ (s.settleVerdict h v).lastServed = s.lastServed
    ∧ (s.settleVerdict h v).bays = s.bays
    ∧ (s.settleVerdict h v).outgoing = s.outgoing
    ∧ (s.settleVerdict h v).filters = s.filters
    ∧ (s.settleVerdict h v).sampleClock = s.sampleClock
    ∧ (s.settleVerdict h v).sampleDue = s.sampleDue
    ∧ (s.settleVerdict h v).pins = s.pins
    ∧ (s.settleVerdict h v).causes = s.causes
    ∧ (s.settleVerdict h v).fault = s.fault
    ∧ (s.settleVerdict h v).answer = s.answer
    ∧ (s.settleVerdict h v).ovr = s.ovr
    ∧ (s.settleVerdict h v).busy = s.busy
    ∧ (s.settleVerdict h v).settings = s.settings
    ∧ (s.settleVerdict h v).resetAsserted = s.resetAsserted
    ∧ (s.settleVerdict h v).choice = s.choice
    ∧ (s.settleVerdict h v).pending = s.pending := by
  unfold State.settleVerdict; split <;> (try split) <;> (try split) <;> simp

/-- A hold ends: the vision line and the hold (R89). -/
@[simp] theorem releaseHeld_fields (s : State) (h : BoardHandle) (code : StationCode) (v : Verdict) :
    (s.releaseHeld h code v).slots = s.slots
    ∧ (s.releaseHeld h code v).staging = s.staging
    ∧ (s.releaseHeld h code v).panels = s.panels
    ∧ (s.releaseHeld h code v).admitCounter = s.admitCounter
    ∧ (s.releaseHeld h code v).runs = s.runs
    ∧ (s.releaseHeld h code v).spindleA = s.spindleA
    ∧ (s.releaseHeld h code v).spindleB = s.spindleB
    ∧ (s.releaseHeld h code v).zones = s.zones
    ∧ (s.releaseHeld h code v).gripper = s.gripper
    ∧ (s.releaseHeld h code v).routing = s.routing
    ∧ (s.releaseHeld h code v).lastServed = s.lastServed
    ∧ (s.releaseHeld h code v).bays = s.bays
    ∧ (s.releaseHeld h code v).outgoing = s.outgoing
    ∧ (s.releaseHeld h code v).filters = s.filters
    ∧ (s.releaseHeld h code v).sampleClock = s.sampleClock
    ∧ (s.releaseHeld h code v).sampleDue = s.sampleDue
    ∧ (s.releaseHeld h code v).pins = s.pins
    ∧ (s.releaseHeld h code v).causes = s.causes
    ∧ (s.releaseHeld h code v).fault = s.fault
    ∧ (s.releaseHeld h code v).notices = s.notices
    ∧ (s.releaseHeld h code v).answer = s.answer
    ∧ (s.releaseHeld h code v).ovr = s.ovr
    ∧ (s.releaseHeld h code v).busy = s.busy
    ∧ (s.releaseHeld h code v).settings = s.settings
    ∧ (s.releaseHeld h code v).resetAsserted = s.resetAsserted
    ∧ (s.releaseHeld h code v).choice = s.choice
    ∧ (s.releaseHeld h code v).pending = s.pending := by
  simp [State.releaseHeld]

/-- A pick is abandoned: the Panel Table and the bays (R68). -/
@[simp] theorem abandonPick_fields (s : State) (h : BoardHandle) :
    (s.abandonPick h).slots = s.slots
    ∧ (s.abandonPick h).staging = s.staging
    ∧ (s.abandonPick h).admitCounter = s.admitCounter
    ∧ (s.abandonPick h).runs = s.runs
    ∧ (s.abandonPick h).hold = s.hold
    ∧ (s.abandonPick h).lines = s.lines
    ∧ (s.abandonPick h).spindleA = s.spindleA
    ∧ (s.abandonPick h).spindleB = s.spindleB
    ∧ (s.abandonPick h).zones = s.zones
    ∧ (s.abandonPick h).gripper = s.gripper
    ∧ (s.abandonPick h).routing = s.routing
    ∧ (s.abandonPick h).lastServed = s.lastServed
    ∧ (s.abandonPick h).outgoing = s.outgoing
    ∧ (s.abandonPick h).filters = s.filters
    ∧ (s.abandonPick h).sampleClock = s.sampleClock
    ∧ (s.abandonPick h).sampleDue = s.sampleDue
    ∧ (s.abandonPick h).pins = s.pins
    ∧ (s.abandonPick h).causes = s.causes
    ∧ (s.abandonPick h).fault = s.fault
    ∧ (s.abandonPick h).notices = s.notices
    ∧ (s.abandonPick h).answer = s.answer
    ∧ (s.abandonPick h).ovr = s.ovr
    ∧ (s.abandonPick h).busy = s.busy
    ∧ (s.abandonPick h).settings = s.settings
    ∧ (s.abandonPick h).resetAsserted = s.resetAsserted
    ∧ (s.abandonPick h).choice = s.choice
    ∧ (s.abandonPick h).pending = s.pending := by
  simp [State.abandonPick]

/-- A board is lost: the Panel Table, the bays and the notices (R68). -/
@[simp] theorem loseBoard_fields (s : State) (h : BoardHandle) :
    (s.loseBoard h).slots = s.slots
    ∧ (s.loseBoard h).staging = s.staging
    ∧ (s.loseBoard h).admitCounter = s.admitCounter
    ∧ (s.loseBoard h).runs = s.runs
    ∧ (s.loseBoard h).hold = s.hold
    ∧ (s.loseBoard h).lines = s.lines
    ∧ (s.loseBoard h).spindleA = s.spindleA
    ∧ (s.loseBoard h).spindleB = s.spindleB
    ∧ (s.loseBoard h).zones = s.zones
    ∧ (s.loseBoard h).gripper = s.gripper
    ∧ (s.loseBoard h).routing = s.routing
    ∧ (s.loseBoard h).lastServed = s.lastServed
    ∧ (s.loseBoard h).outgoing = s.outgoing
    ∧ (s.loseBoard h).filters = s.filters
    ∧ (s.loseBoard h).sampleClock = s.sampleClock
    ∧ (s.loseBoard h).sampleDue = s.sampleDue
    ∧ (s.loseBoard h).pins = s.pins
    ∧ (s.loseBoard h).causes = s.causes
    ∧ (s.loseBoard h).fault = s.fault
    ∧ (s.loseBoard h).answer = s.answer
    ∧ (s.loseBoard h).ovr = s.ovr
    ∧ (s.loseBoard h).busy = s.busy
    ∧ (s.loseBoard h).settings = s.settings
    ∧ (s.loseBoard h).resetAsserted = s.resetAsserted
    ∧ (s.loseBoard h).choice = s.choice
    ∧ (s.loseBoard h).pending = s.pending := by
  simp [State.loseBoard]

/-- NO-DEST is noted: the Panel Table and the notices (R126). -/
@[simp] theorem noteNoDest_fields (s : State) (h : BoardHandle) :
    (s.noteNoDest h).slots = s.slots
    ∧ (s.noteNoDest h).staging = s.staging
    ∧ (s.noteNoDest h).admitCounter = s.admitCounter
    ∧ (s.noteNoDest h).runs = s.runs
    ∧ (s.noteNoDest h).hold = s.hold
    ∧ (s.noteNoDest h).lines = s.lines
    ∧ (s.noteNoDest h).spindleA = s.spindleA
    ∧ (s.noteNoDest h).spindleB = s.spindleB
    ∧ (s.noteNoDest h).zones = s.zones
    ∧ (s.noteNoDest h).gripper = s.gripper
    ∧ (s.noteNoDest h).routing = s.routing
    ∧ (s.noteNoDest h).lastServed = s.lastServed
    ∧ (s.noteNoDest h).bays = s.bays
    ∧ (s.noteNoDest h).outgoing = s.outgoing
    ∧ (s.noteNoDest h).filters = s.filters
    ∧ (s.noteNoDest h).sampleClock = s.sampleClock
    ∧ (s.noteNoDest h).sampleDue = s.sampleDue
    ∧ (s.noteNoDest h).pins = s.pins
    ∧ (s.noteNoDest h).causes = s.causes
    ∧ (s.noteNoDest h).fault = s.fault
    ∧ (s.noteNoDest h).answer = s.answer
    ∧ (s.noteNoDest h).ovr = s.ovr
    ∧ (s.noteNoDest h).busy = s.busy
    ∧ (s.noteNoDest h).settings = s.settings
    ∧ (s.noteNoDest h).resetAsserted = s.resetAsserted
    ∧ (s.noteNoDest h).choice = s.choice
    ∧ (s.noteNoDest h).pending = s.pending := by
  unfold State.noteNoDest; split <;> (try split) <;> simp

/-- UNFIT is noted: the Panel Table and the notices (R127). -/
@[simp] theorem noteUnfit_fields (s : State) (h : BoardHandle) :
    (s.noteUnfit h).slots = s.slots
    ∧ (s.noteUnfit h).staging = s.staging
    ∧ (s.noteUnfit h).admitCounter = s.admitCounter
    ∧ (s.noteUnfit h).runs = s.runs
    ∧ (s.noteUnfit h).hold = s.hold
    ∧ (s.noteUnfit h).lines = s.lines
    ∧ (s.noteUnfit h).spindleA = s.spindleA
    ∧ (s.noteUnfit h).spindleB = s.spindleB
    ∧ (s.noteUnfit h).zones = s.zones
    ∧ (s.noteUnfit h).gripper = s.gripper
    ∧ (s.noteUnfit h).routing = s.routing
    ∧ (s.noteUnfit h).lastServed = s.lastServed
    ∧ (s.noteUnfit h).bays = s.bays
    ∧ (s.noteUnfit h).outgoing = s.outgoing
    ∧ (s.noteUnfit h).filters = s.filters
    ∧ (s.noteUnfit h).sampleClock = s.sampleClock
    ∧ (s.noteUnfit h).sampleDue = s.sampleDue
    ∧ (s.noteUnfit h).pins = s.pins
    ∧ (s.noteUnfit h).causes = s.causes
    ∧ (s.noteUnfit h).fault = s.fault
    ∧ (s.noteUnfit h).answer = s.answer
    ∧ (s.noteUnfit h).ovr = s.ovr
    ∧ (s.noteUnfit h).busy = s.busy
    ∧ (s.noteUnfit h).settings = s.settings
    ∧ (s.noteUnfit h).resetAsserted = s.resetAsserted
    ∧ (s.noteUnfit h).choice = s.choice
    ∧ (s.noteUnfit h).pending = s.pending := by
  unfold State.noteUnfit; split <;> (try split) <;> simp

/-- An action fails: the bays, the Fault Unit and what it stops (R153). -/
@[simp] theorem failAction_fields (s : State) (b : Fin 4) (cause : FaultCause) :
    (s.failAction b cause).slots = s.slots
    ∧ (s.failAction b cause).staging = s.staging
    ∧ (s.failAction b cause).panels = s.panels
    ∧ (s.failAction b cause).admitCounter = s.admitCounter
    ∧ (s.failAction b cause).runs = s.runs
    ∧ (s.failAction b cause).lines = s.lines
    ∧ (s.failAction b cause).zones = s.zones
    ∧ (s.failAction b cause).routing = s.routing
    ∧ (s.failAction b cause).lastServed = s.lastServed
    ∧ (s.failAction b cause).outgoing = s.outgoing
    ∧ (s.failAction b cause).filters = s.filters
    ∧ (s.failAction b cause).sampleClock = s.sampleClock
    ∧ (s.failAction b cause).sampleDue = s.sampleDue
    ∧ (s.failAction b cause).pins = s.pins
    ∧ (s.failAction b cause).causes = s.causes
    ∧ (s.failAction b cause).answer = s.answer
    ∧ (s.failAction b cause).ovr = s.ovr
    ∧ (s.failAction b cause).busy = s.busy
    ∧ (s.failAction b cause).settings = s.settings
    ∧ (s.failAction b cause).resetAsserted = s.resetAsserted
    ∧ (s.failAction b cause).choice = s.choice
    ∧ (s.failAction b cause).pending = s.pending := by
  simp [State.failAction]

/-- A placement is judged: the bays, the Fault Unit and what it stops (R146, R147). -/
@[simp] theorem judgePlacement_fields (s : State) (b : Fin 4) (slot : Nat) :
    (s.judgePlacement b slot).slots = s.slots
    ∧ (s.judgePlacement b slot).staging = s.staging
    ∧ (s.judgePlacement b slot).panels = s.panels
    ∧ (s.judgePlacement b slot).admitCounter = s.admitCounter
    ∧ (s.judgePlacement b slot).runs = s.runs
    ∧ (s.judgePlacement b slot).lines = s.lines
    ∧ (s.judgePlacement b slot).zones = s.zones
    ∧ (s.judgePlacement b slot).routing = s.routing
    ∧ (s.judgePlacement b slot).lastServed = s.lastServed
    ∧ (s.judgePlacement b slot).outgoing = s.outgoing
    ∧ (s.judgePlacement b slot).filters = s.filters
    ∧ (s.judgePlacement b slot).sampleClock = s.sampleClock
    ∧ (s.judgePlacement b slot).sampleDue = s.sampleDue
    ∧ (s.judgePlacement b slot).pins = s.pins
    ∧ (s.judgePlacement b slot).causes = s.causes
    ∧ (s.judgePlacement b slot).answer = s.answer
    ∧ (s.judgePlacement b slot).ovr = s.ovr
    ∧ (s.judgePlacement b slot).busy = s.busy
    ∧ (s.judgePlacement b slot).settings = s.settings
    ∧ (s.judgePlacement b slot).resetAsserted = s.resetAsserted
    ∧ (s.judgePlacement b slot).choice = s.choice
    ∧ (s.judgePlacement b slot).pending = s.pending := by
  unfold State.judgePlacement; split <;> (try split) <;> simp

/-- A magazine record is sent out: the outgoing list and the notices (R152). -/
@[simp] theorem sendOut_fields (s : State) (m : Option Magazine) :
    (s.sendOut m).slots = s.slots
    ∧ (s.sendOut m).staging = s.staging
    ∧ (s.sendOut m).panels = s.panels
    ∧ (s.sendOut m).admitCounter = s.admitCounter
    ∧ (s.sendOut m).runs = s.runs
    ∧ (s.sendOut m).hold = s.hold
    ∧ (s.sendOut m).lines = s.lines
    ∧ (s.sendOut m).spindleA = s.spindleA
    ∧ (s.sendOut m).spindleB = s.spindleB
    ∧ (s.sendOut m).zones = s.zones
    ∧ (s.sendOut m).gripper = s.gripper
    ∧ (s.sendOut m).routing = s.routing
    ∧ (s.sendOut m).lastServed = s.lastServed
    ∧ (s.sendOut m).bays = s.bays
    ∧ (s.sendOut m).filters = s.filters
    ∧ (s.sendOut m).sampleClock = s.sampleClock
    ∧ (s.sendOut m).sampleDue = s.sampleDue
    ∧ (s.sendOut m).pins = s.pins
    ∧ (s.sendOut m).causes = s.causes
    ∧ (s.sendOut m).fault = s.fault
    ∧ (s.sendOut m).answer = s.answer
    ∧ (s.sendOut m).ovr = s.ovr
    ∧ (s.sendOut m).busy = s.busy
    ∧ (s.sendOut m).settings = s.settings
    ∧ (s.sendOut m).resetAsserted = s.resetAsserted
    ∧ (s.sendOut m).choice = s.choice
    ∧ (s.sendOut m).pending = s.pending := by
  unfold State.sendOut; split <;> and_intros <;> rfl

end Sys2Proof.Machine
end

