-- ==== Sys2Proof/Laws/Ops.lean ====
section
/-! SUPPORT. What each shared operation can do, said once: the command port, the lines, the Fault Unit, the records, the
free order. A property is carried through a command or a request by the `_keeps` lemmas. -/

namespace Sys2Proof.Machine

/-! ### The shape of every meaning -/

/-- A host command's row is the arrival of its frame at the port. -/
theorem exec_host (c : Instr) : match hostCommand c with
    | some name => ∃ command, ∀ s, exec c s = .next (s.takeCommandOr name command)
    | none => True := by
  cases c
  all_goals first | exact ⟨_, fun _ => rfl⟩ | exact trivial

/-- A station request's row is the arrival of its frame on its line. -/
theorem exec_station (c : Instr) : match stationRequest c with
    | some (l, name, _) => ∃ request, ∀ s, exec c s = .next (s.takeRequest l name request)
    | none => True := by
  cases c
  case progress l => cases l <;> first | exact ⟨_, fun _ => rfl⟩ | exact trivial
  all_goals first | exact ⟨_, fun _ => rfl⟩ | exact trivial

/-- Every command is a frame at the port, a frame on a line, an event inside the part, or one of the three that act during
RESET. -/
theorem exec_shape (c : Instr) :
    (∃ name command, ∀ s, exec c s = .next (s.takeCommandOr name command))
      ∨ (∃ l name request, ∀ s, exec c s = .next (s.takeRequest l name request))
      ∨ (∃ event, ∀ s, exec c s = .next (s.takeEvent event))
      ∨ c = .resetAssert ∨ c = .resetRelease ∨ c = .powerOn := by
  cases c
  case progress l =>
    cases l <;> first | exact .inr (.inl ⟨_, _, _, fun _ => rfl⟩) | exact .inr (.inr (.inl ⟨_, fun _ => rfl⟩))
  all_goals first
    | exact .inl ⟨_, _, fun _ => rfl⟩
    | exact .inr (.inl ⟨_, _, _, fun _ => rfl⟩)
    | exact .inr (.inr (.inl ⟨_, fun _ => rfl⟩))
    | simp

/-! ### The command port (R187, R188) -/

/-- OVR is cleared and an answer is placed: the shape `State.answered` names. -/
theorem placeAnswer_answered (s : State) (name : CommandName) (code : HostCode) (fields : List Byte) :
    { s with ovr := false }.placeAnswer name.byte ⟨code, fields⟩ = s.answered name code fields := rfl

/-- While RESET is asserted the port takes nothing (R186). -/
theorem takeCommandOr_reset (s : State) (name : CommandName) (c : Option Command) (h : s.resetAsserted = true) :
    s.takeCommandOr name c = s := by
  simp [State.takeCommandOr, h]

/-- While BSY the frame is discarded and OVR is set (R187, test 1). -/
theorem takeCommandOr_busy (s : State) (name : CommandName) (c : Option Command) (hr : s.resetAsserted = false)
    (hb : s.busy = true) : s.takeCommandOr name c = { s with ovr := true } := by
  simp [State.takeCommandOr, hr, hb]

/-- In LOCKDOWN a command R179 refuses is answered LOCKED (R187, test 4). -/
theorem takeCommandOr_locked (s : State) (name : CommandName) (c : Option Command) (h : PortOpen s)
    (hl : s.fault.locked = true) (hn : name.takenInLockdown = false) :
    s.takeCommandOr name c = s.answered name .locked [] := by
  unfold State.takeCommandOr
  rw [if_neg (by simp [h.1]), if_neg (by simp [h.2])]
  exact if_pos ⟨hl, hn⟩

/-- A payload of a wrong length is answered LENGTH (R187, test 5). -/
theorem takeCommandOr_length (s : State) (name : CommandName) (h : PortOpen s)
    (hl : s.fault.locked = false ∨ name.takenInLockdown = true) :
    s.takeCommandOr name none = s.answered name .length [] := by
  unfold State.takeCommandOr
  rw [if_neg (by simp [h.1]), if_neg (by simp [h.2])]
  exact if_neg (by rcases hl with hl | hl <;> simp [hl])

/-- A delivered command: its block's state, with OVR clear before it (R187, test 6). -/
theorem takeCommand_delivered (s : State) (name : CommandName) (c : Command) (h : PortOpen s)
    (hl : s.fault.locked = false ∨ name.takenInLockdown = true) :
    s.takeCommand name c = { s with ovr := false }.deliver name c := by
  unfold State.takeCommand State.takeCommandOr
  rw [if_neg (by simp [h.1]), if_neg (by simp [h.2])]
  exact if_neg (by rcases hl with hl | hl <;> simp [hl])

/-- A delivered command that answers at once. -/
theorem takeCommand_answers (s : State) (name : CommandName) (c : Command) (t : State) (a : Answer) (h : PortOpen s)
    (hl : s.fault.locked = false ∨ name.takenInLockdown = true) (hc : c { s with ovr := false } = (t, some a)) :
    s.takeCommand name c = t.placeAnswer name.byte a := by
  simp [takeCommand_delivered s name c h hl, State.deliver, hc]

/-- A property kept by the port's own changes and by the delivered command is kept by the arrival of the frame. -/
theorem takeCommandOr_keeps (P : State → Prop) (hovr : ∀ s b, P s → P { s with ovr := b })
    (hbusy : ∀ s, P s → P { s with busy := true })
    (hans : ∀ (s : State) (code : Byte) (a : Answer), P s → P (s.placeAnswer code a)) (s : State) (name : CommandName)
    (command : Option Command)
    (hc : ∀ c t, command = some c → P t → (t.fault.locked = false ∨ name.takenInLockdown = true) → P (c t).1)
    (h : P s) : P (s.takeCommandOr name command) := by
  unfold State.takeCommandOr
  split
  · exact h
  split
  · exact hovr _ _ h
  have h0 := hovr s false h
  unfold State.acceptFrame
  simp only
  split
  · exact hans _ _ _ h0
  rename_i hl
  cases command with
  | none => exact hans _ _ _ h0
  | some c =>
    have h1 := hc c _ rfl h0 (by
      by_cases hl' : s.fault.locked = true
      · right; simpa [hl'] using hl
      · left; simpa using hl')
    simp only [State.deliver]
    split
    · rename_i t a hcs; simp only [hcs] at h1; exact hans _ _ _ h1
    · rename_i t hcs; simp only [hcs] at h1; exact hbusy _ h1

/-! ### Retirement (R28) -/

/-- Nothing keeps a CLEARED panel. -/
theorem retireBusy_cleared (s : State) (e : Fin 4) (p : Panel) (force : Bool) (h : p.state = .cleared) :
    s.retireBusy e p force = none := by
  simp [State.retireBusy, h]

/-- Any other panel is BUSY without force. -/
theorem retireBusy_unforced (s : State) (e : Fin 4) (p : Panel) (h : p.state ≠ .cleared) :
    s.retireBusy e p false = some .notCleared := by
  simp [State.retireBusy, h]

/-- With force it is BUSY while work is in flight. -/
theorem retireBusy_forced (s : State) (e : Fin 4) (p : Panel) (h : p.state ≠ .cleared) :
    s.retireBusy e p true = s.workInFlight e := by
  simp [State.retireBusy, h]

/-! ### The station lines (R86, R87) -/

/-- An answer waits at the tail of its line's queue (R87). -/
@[simp] theorem line_sendAnswer (s : State) (l : LineId) (f : Frame) :
    (s.sendAnswer l f).line l = { s.line l with queue := (s.line l).queue ++ [f] } := by
  simp [State.sendAnswer, Line.append]

/-- An answer changes its own line alone. -/
theorem sendAnswer_other (s : State) (l m : LineId) (f : Frame) (h : l ≠ m) : (s.sendAnswer l f).line m = s.line m := by
  simp [State.sendAnswer, line_setLine_ne s l m _ h]

/-- When nothing is being sent, the oldest queued answer begins to be (R87). -/
theorem pump_begins (l : Line) (f : Frame) (rest : List Frame) (ht : l.tx = none) (hq : l.queue = f :: rest) :
    l.pump = { l with tx := some f, queue := rest } := by
  simp [Line.pump, ht, hq]

/-- While an answer is being sent the others wait (R87). -/
theorem pump_waits (l : Line) (f : Frame) (ht : l.tx = some f) : l.pump = l := by
  simp [Line.pump, ht]

/-- With no answer queued there is none to begin. -/
theorem pump_empty (l : Line) (hq : l.queue = []) : l.pump = l := by
  unfold Line.pump
  simp [hq]

/-- Beginning to send takes at most one answer from the queue and adds none. -/
theorem pump_queue_le (l : Line) : l.pump.queue.length ≤ l.queue.length := by
  unfold Line.pump
  split
  · rename_i h; simp [h]
  · exact Nat.le_refl _

/-- Beginning to send leaves the receiver and the held request as they were. -/
@[simp] theorem pump_fields (l : Line) :
    l.pump.receiver = l.receiver ∧ l.pump.partialFrame = l.partialFrame ∧ l.pump.gap = l.gap ∧ l.pump.held = l.held := by
  unfold Line.pump
  split <;> simp

/-- The line once its frame has completed: the receiver in HUNT, the oldest answer being sent (R85, R87). -/
theorem line_frameComplete (s : State) (l : LineId) :
    (s.frameComplete l).line l = { (s.line l).pump with receiver := .hunt, partialFrame := [], gap := none } := by
  simp [State.frameComplete, Line.receiverIdle]

/-- A delivered request: the block's answer joins the queue (R86, test 7). -/
theorem takeRequest_delivered (s : State) (l : LineId) (name : RequestName) (request : Request) (h : LineOpen s l) :
    s.takeRequest l name request =
      match request (s.received l) with
      | (t, some r) => t.sendAnswer l (r.frame name.byte)
      | (t, none) => t := by
  obtain ⟨hr, hq, hh, hl⟩ := h
  have hqf : ((s.frameComplete l).line l).queue = (s.line l).pump.queue := by rw [line_frameComplete]
  have hhf : ((s.frameComplete l).line l).held = (s.line l).held := by simp [line_frameComplete]
  have hq' : ¬ Config.queueRoom ≤ ((s.frameComplete l).line l).queue.length := by rw [hqf]; simp [Config.queueRoom]; omega
  have hh' : ((s.frameComplete l).line l).held.isSome = false := by rw [hhf, hh]; rfl
  simp only [State.takeRequest, hr, State.examine, State.received, hq', hh', frameComplete_fields, hl]
  rfl

/-- In LOCKDOWN the line answers LOCKED (R90). -/
theorem takeRequest_locked (s : State) (l : LineId) (name : RequestName) (request : Request) (hr : s.resetAsserted = false)
    (hq : (s.line l).pump.queue.length < 4) (hh : (s.line l).held = none) (hl : s.fault.locked = true) :
    s.takeRequest l name request = (s.frameComplete l).sendAnswer l ((Reply.bare .locked).frame name.byte) := by
  have hqf : ((s.frameComplete l).line l).queue = (s.line l).pump.queue := by rw [line_frameComplete]
  have hhf : ((s.frameComplete l).line l).held = (s.line l).held := by simp [line_frameComplete]
  have hq' : ¬ Config.queueRoom ≤ ((s.frameComplete l).line l).queue.length := by rw [hqf]; simp [Config.queueRoom]; omega
  have hh' : ((s.frameComplete l).line l).held.isSome = false := by rw [hhf, hh]; rfl
  simp [State.takeRequest, hr, State.examine, hq', hh', hl]

/-- A property kept by the line's own changes and by the delivered request is kept by the arrival of the frame. -/
theorem examine_keeps (P : State → Prop) (hreload : ∀ s l, P s → P (s.reloadWatchdog l)) (s : State) (l : LineId)
    (code : Byte) (request : Request)
    (hans : ∀ (t : State) (f : Frame), (t.line l).queue.length ≤ 4 → P t → P (t.sendAnswer l f))
    (hreq : P (s.reloadWatchdog l) → (s.line l).queue.length < 4 → (s.line l).held = none → s.fault.locked = false →
      P (request (s.reloadWatchdog l)).1)
    (hqueue : ((request (s.reloadWatchdog l)).1.line l).queue.length ≤ 4)
    (h : P s) : P (s.examine l code request) := by
  unfold State.examine
  split
  · exact h
  rename_i hq
  have hq4 : (s.line l).queue.length < 4 := by simp only [Config.queueRoom] at hq; omega
  split
  · exact hans _ _ (by omega) h
  rename_i hh
  split
  · exact hans _ _ (by omega) h
  rename_i hl
  have h1 := hreq (hreload _ _ h) hq4 (by simpa using hh) (by simpa using hl)
  split
  · rename_i t r hrs; simp only [hrs] at h1 hqueue; exact hans _ _ hqueue h1
  · rename_i t hrs; simp only [hrs] at h1; exact h1

/-! ### The Fault Unit (R177, R180) -/

/-- A fault of a disabled class raises its class flag alone. -/
theorem reportFault_disabled (s : State) (c : Context) (h : s.fault.enables.getLsbD c.cls.code = false) :
    s.reportFault c = s.raise (.classFlag c.cls) := by
  simp [State.reportFault, h]

/-- In LOCKDOWN an enabled fault joins the pending set (R180). -/
theorem reportFault_locked (s : State) (c : Context) (h : s.fault.enables.getLsbD c.cls.code = true)
    (hl : s.fault.locked = true) : s.reportFault c = s.addPending c.cls := by
  simp [State.reportFault, h, hl]

/-- An enabled fault of an armed part is captured. -/
theorem reportFault_armed (s : State) (c : Context) (h : s.fault.enables.getLsbD c.cls.code = true)
    (hl : s.fault.locked = false) (ha : s.fault.armed = true) : s.reportFault c = s.capture c := by
  simp [State.reportFault, h, hl, ha]

/-- An enabled severe fault of a disarmed part begins LOCKDOWN (R178). -/
theorem reportFault_severe (s : State) (c : Context) (h : s.fault.enables.getLsbD c.cls.code = true)
    (hl : s.fault.locked = false) (ha : s.fault.armed = false) (hs : c.cls.severe = true) :
    s.reportFault c = s.enterLockdown c := by
  simp [State.reportFault, h, hl, ha, hs]

/-- An enabled fault of a disarmed part that is not severe joins the pending set. -/
theorem reportFault_pending (s : State) (c : Context) (h : s.fault.enables.getLsbD c.cls.code = true)
    (hl : s.fault.locked = false) (ha : s.fault.armed = false) (hs : c.cls.severe = false) :
    s.reportFault c = s.addPending c.cls := by
  simp [State.reportFault, h, hl, ha, hs]

/-- A property kept by the four effects of a fault is kept by reporting it. -/
theorem reportFault_keeps (P : State → Prop) (s : State) (c : Context) (hflag : P (s.raise (.classFlag c.cls)))
    (hpend : P (s.addPending c.cls))
    (hcap : s.fault.locked = false → s.fault.armed = true → P (s.capture c))
    (hlock : s.fault.locked = false → s.fault.armed = false → P (s.enterLockdown c)) : P (s.reportFault c) := by
  unfold State.reportFault
  split
  · exact hflag
  split
  · exact hpend
  rename_i hl
  split
  · rename_i ha; exact hcap (by simpa using hl) ha
  rename_i ha
  split
  · exact hlock (by simpa using hl) (by simpa using ha)
  · exact hpend

/-! ### The records -/

/-- The boards of an entry after it is written. -/
@[simp] theorem boardsOf_setPanel (s : State) (e : Fin 4) (p : Panel) :
    (s.setPanel e (some p)).boardsOf e = p.boards := by
  simp [State.boardsOf]

/-- The boards of the other entries stay. -/
theorem boardsOf_setPanel_ne (s : State) (e x : Fin 4) (p : Option Panel) (h : e ≠ x) :
    (s.setPanel e p).boardsOf x = s.boardsOf x := by
  simp [State.boardsOf, panel_setPanel_ne s e x p h]

/-- The entry of a changed board keeps its panel record but for its boards. -/
theorem panel_modifyBoard (s : State) (h : BoardHandle) (f : BoardRecord → BoardRecord) :
    (s.modifyBoard h f).panel h.entry = (s.panel h.entry).map (fun p => { p with boards := p.boards.modify h.site f }) := by
  unfold State.modifyBoard
  rcases hp : s.panel h.entry with _ | p <;> simp [hp]

/-- The other entries stay. -/
theorem panel_modifyBoard_ne (s : State) (h : BoardHandle) (f : BoardRecord → BoardRecord) (x : Fin 4) (hx : h.entry ≠ x) :
    (s.modifyBoard h f).panel x = s.panel x := by
  unfold State.modifyBoard
  rcases hp : s.panel h.entry with _ | p
  · rfl
  · exact panel_setPanel_ne _ _ _ _ hx

/-- A changed board reads back changed. -/
@[simp] theorem board_modifyBoard (s : State) (h : BoardHandle) (f : BoardRecord → BoardRecord) :
    (s.modifyBoard h f).board h = (s.board h).map f := by
  simp only [State.board, State.boardsOf, panel_modifyBoard]
  rcases hp : s.panel h.entry with _ | p <;> simp

/-- The other boards stay. -/
theorem board_modifyBoard_ne (s : State) (h g : BoardHandle) (f : BoardRecord → BoardRecord) (hne : h ≠ g) :
    (s.modifyBoard h f).board g = s.board g := by
  simp only [State.board, State.boardsOf]
  by_cases he : h.entry = g.entry
  · have hs : h.site ≠ g.site := fun hs => hne (by cases h; cases g; simp_all)
    rw [← he, panel_modifyBoard]
    rcases hp : s.panel h.entry with _ | p
    · rfl
    · simp [hs]
  · rw [panel_modifyBoard_ne s h f _ he]

/-- A changed tab reads back changed. -/
@[simp] theorem tab_modifyTab (s : State) (h : TabHandle) (f : TabRecord → TabRecord) :
    (s.modifyTab h f).tab h = (s.tab h).map f := by
  simp only [State.tab, State.modifyTab, board_modifyBoard]
  rcases hb : s.board h.board with _ | b <;> simp

/-! ### The free order (log entry 3) -/

/-- Putting an element into a list adds exactly it. -/
theorem putAt_perm {α : Type} (i : Nat) (a : α) (l : List α) : (putAt i a l).Perm (a :: l) := by
  unfold putAt
  have h : (l.take i ++ a :: l.drop i).Perm (a :: (l.take i ++ l.drop i)) := List.perm_middle
  rwa [List.take_append_drop] at h

/-- A shuffle loses nothing and adds nothing, whatever the order. -/
theorem shuffle_perm {α : Type} (order : Nat → Nat) (k : Nat) (l : List α) : (shuffle order k l).Perm l := by
  induction l generalizing k with
  | nil => exact List.Perm.nil
  | cons a rest ih =>
    cases rest with
    | nil => exact List.Perm.refl _
    | cons b rest =>
      rw [shuffle]
      exact (putAt_perm _ _ _).trans (List.Perm.cons a (ih (k + 1)))

/-- Every order of the free value is one of the orders; a list of one is itself. -/
@[simp] theorem shuffle_singleton {α : Type} (order : Nat → Nat) (k : Nat) (a : α) : shuffle order k [a] = [a] := rfl

end Sys2Proof.Machine
end

