-- ==== Sys2Proof/Laws/Recipes.lean ====
section
/-! SUPPORT. What each scan of a recipe's validation finds (R12): the lowest bad site or zone, the first bad tab in scan order,
the first cut sequence that an earlier tab has. -/

namespace Sys2Proof.Machine

/-- The first entry of a numbered list that passes a test. -/
theorem find?_numbered {α : Type} (l : List α) (p : Nat × α → Bool) (n k : Nat) (x : α) :
    (l.zipIdx n |>.map (fun si => (si.2, si.1))).find? p = some (k, x) ↔
      n ≤ k ∧ l[k - n]? = some x ∧ p (k, x) = true ∧ ∀ j y, n ≤ j → j < k → l[j - n]? = some y → p (j, y) = false := by
  induction l generalizing n with
  | nil => simp
  | cons a l ih =>
    simp only [List.zipIdx_cons, List.map_cons, List.find?_cons]
    cases hp : p (n, a) with
    | true =>
      simp only [Option.some.injEq, Prod.mk.injEq]
      constructor
      · rintro ⟨rfl, rfl⟩
        refine ⟨le_refl _, by simp, hp, ?_⟩
        intro j y h1 h2; omega
      · rintro ⟨h1, h2, h3, h4⟩
        by_cases e : n = k
        · subst e; simp at h2; exact ⟨rfl, h2⟩
        · have := h4 n a (le_refl _) (by omega) (by simp)
          simp [hp] at this
    | false =>
      rw [ih]
      constructor
      · rintro ⟨h1, h2, h3, h4⟩
        refine ⟨by omega, ?_, h3, ?_⟩
        · have : k - n = (k - (n+1)) + 1 := by omega
          rw [this]; simpa using h2
        · intro j y h5 h6 h7
          by_cases e : n = j
          · subst e; simp at h7; subst h7; exact hp
          · refine h4 j y (by omega) h6 ?_
            have : j - n = (j - (n+1)) + 1 := by omega
            rw [this] at h7; simpa using h7
      · rintro ⟨h1, h2, h3, h4⟩
        by_cases e : n = k
        · subst e; simp at h2; subst h2; simp [hp] at h3
        refine ⟨by omega, ?_, h3, ?_⟩
        · have : k - n = (k - (n+1)) + 1 := by omega
          rw [this] at h2; simpa using h2
        · intro j y h5 h6 h7
          refine h4 j y (by omega) h6 ?_
          have : j - n = (j - (n+1)) + 1 := by omega
          rw [this]; simpa using h7

/-- A check that scans the sites reports the lowest bad one (R12). -/
theorem siteFailure_iff (q : Recipe) (c : Check) (p : RecipeSite → Bool) (bad : RecipeSite → Prop) (hb : ∀ x, p x = true ↔ bad x)
    (f : Failure) :
    (((indexedSites q.sites).find? (fun x => p x.2)).map (fun x => Failure.ofSite c x.1)) = some f ↔
      f.check = c ∧ ∃ k, FirstSite q bad k ∧ f = ⟨f.check, some k, none, none, none⟩ := by
  simp only [Option.map_eq_some_iff, Prod.exists, indexedSites, find?_numbered, FirstSite, Failure.ofSite]
  constructor
  · rintro ⟨k, x, ⟨-, h2, h3, h4⟩, rfl⟩
    refine ⟨rfl, k, ⟨x, by simpa using h2, (hb x).1 h3, ?_⟩, rfl⟩
    intro j y hj hy hbad
    have := h4 j y (by omega) hj (by simpa using hy)
    simp [(hb y).2 hbad] at this
  · rintro ⟨h1, k, ⟨x, h2, h3, h4⟩, h5⟩
    refine ⟨k, x, ⟨by omega, by simpa using h2, (hb x).2 h3, ?_⟩, ?_⟩
    · intro j y _ hj hy
      have := h4 j y hj (by simpa using hy)
      rw [← hb] at this; simpa using this
    · rw [h5, h1]

/-- The first entry present of a numbered zone list that passes a test. -/
theorem find?_numberedZones (l : List (Option Rect)) (p : Rect → Bool) (n k : Nat) (x : Rect) :
    ((l.zipIdx n).filterMap (fun zi => zi.1.map (fun r => (zi.2, r)))).find? (fun x => p x.2) = some (k, x) ↔
      n ≤ k ∧ l[k - n]? = some (some x) ∧ p x = true ∧ ∀ j y, n ≤ j → j < k → l[j - n]? = some (some y) → p y = false := by
  induction l generalizing n with
  | nil => simp
  | cons a l ih =>
    have step : ∀ k, n + 1 ≤ k → (a :: l)[k - n]? = l[k - (n+1)]? := by
      intro k h
      have : k - n = (k - (n+1)) + 1 := by omega
      rw [this]; simp
    cases a with
    | none =>
      simp only [List.zipIdx_cons, List.filterMap_cons, Option.map_none]
      rw [ih]
      constructor
      · rintro ⟨h1, h2, h3, h4⟩
        refine ⟨by omega, by rw [step k h1]; exact h2, h3, ?_⟩
        intro j y h5 h6 h7
        by_cases e : n = j
        · subst e; simp at h7
        · exact h4 j y (by omega) h6 (by rw [step j (by omega)] at h7; exact h7)
      · rintro ⟨h1, h2, h3, h4⟩
        by_cases e : n = k
        · subst e; simp at h2
        refine ⟨by omega, by rw [step k (by omega)] at h2; exact h2, h3, ?_⟩
        intro j y h5 h6 h7
        exact h4 j y (by omega) h6 (by rw [step j h5]; exact h7)
    | some a =>
      simp only [List.zipIdx_cons, List.filterMap_cons, Option.map_some, List.find?_cons]
      cases hp : p a with
      | true =>
        simp only [Option.some.injEq, Prod.mk.injEq]
        constructor
        · rintro ⟨rfl, rfl⟩
          refine ⟨le_refl _, by simp, hp, ?_⟩
          intro j y h1 h2; omega
        · rintro ⟨h1, h2, h3, h4⟩
          by_cases e : n = k
          · subst e; simp at h2; exact ⟨rfl, h2⟩
          · have := h4 n a (le_refl _) (by omega) (by simp)
            simp [hp] at this
      | false =>
        simp only
        rw [ih]
        constructor
        · rintro ⟨h1, h2, h3, h4⟩
          refine ⟨by omega, by rw [step k h1]; exact h2, h3, ?_⟩
          intro j y h5 h6 h7
          by_cases e : n = j
          · subst e; simp at h7; subst h7; exact hp
          · exact h4 j y (by omega) h6 (by rw [step j (by omega)] at h7; exact h7)
        · rintro ⟨h1, h2, h3, h4⟩
          by_cases e : n = k
          · subst e; simp at h2; subst h2; simp [hp] at h3
          refine ⟨by omega, by rw [step k (by omega)] at h2; exact h2, h3, ?_⟩
          intro j y h5 h6 h7
          exact h4 j y (by omega) h6 (by rw [step j h5]; exact h7)

/-- A check that scans the zones reports the lowest bad one (R12). -/
theorem zoneFailure_iff (q : Recipe) (c : Check) (p : Rect → Bool) (bad : Rect → Prop) (hb : ∀ x, p x = true ↔ bad x)
    (f : Failure) :
    (((indexedZones q.zones).find? (fun x => p x.2)).map (fun x => Failure.ofZone c x.1)) = some f ↔
      f.check = c ∧ ∃ k, FirstZone q bad k ∧ f = ⟨f.check, none, none, some k, none⟩ := by
  simp only [Option.map_eq_some_iff, Prod.exists, indexedZones, find?_numberedZones, FirstZone, Failure.ofZone]
  constructor
  · rintro ⟨k, x, ⟨-, h2, h3, h4⟩, rfl⟩
    refine ⟨rfl, k, ⟨x, by simpa using h2, (hb x).1 h3, ?_⟩, rfl⟩
    intro j y hj hy hbad
    have := h4 j y (by omega) hj (by simpa using hy)
    simp [(hb y).2 hbad] at this
  · rintro ⟨h1, k, ⟨x, h2, h3, h4⟩, h5⟩
    refine ⟨k, x, ⟨by omega, by simpa using h2, (hb x).2 h3, ?_⟩, ?_⟩
    · intro j y _ hj hy
      have := h4 j y hj (by simpa using hy)
      rw [← hb] at this; simpa using this
    · rw [h5, h1]

/-- The tabs scanned are the tabs of the recipe. -/
theorem mem_indexedTabs (q : Recipe) (k i : Nat) (t : RecipeTab) : (k, i, t) ∈ indexedTabs q.sites ↔ q.tab k i = some t := by
  simp only [indexedTabs, List.mem_flatMap, List.mem_map, Prod.exists, Recipe.tab, Option.bind_eq_some_iff]
  constructor
  · rintro ⟨x, k', hx, t', i', ht, he⟩
    simp only [Prod.mk.injEq] at he
    obtain ⟨rfl, rfl, rfl⟩ := he
    rw [List.mem_zipIdx_iff_getElem?] at hx ht
    exact ⟨x, hx, ht⟩
  · rintro ⟨x, hx, ht⟩
    exact ⟨x, k, List.mem_zipIdx_iff_getElem?.2 hx, t, i, List.mem_zipIdx_iff_getElem?.2 ht, rfl⟩

/-- The scan order of tabs with their indices. -/
def ScanOrder (a b : Nat × Nat × RecipeTab) : Prop := ScannedBefore a.1 a.2.1 b.1 b.2.1

/-- A numbering rises. -/
theorem pairwise_zipIdx {α : Type} (l : List α) (n : Nat) : (l.zipIdx n).Pairwise (fun a b => a.2 < b.2) := by
  induction l generalizing n with
  | nil => simp
  | cons a l ih =>
    simp only [List.zipIdx_cons, List.pairwise_cons]
    refine ⟨?_, ih _⟩
    rintro ⟨x, k⟩ h
    have := List.le_snd_of_mem_zipIdx h
    simp at this ⊢; omega

/-- The tabs are scanned in scan order. -/
theorem indexedTabs_pairwise (q : Recipe) : (indexedTabs q.sites).Pairwise ScanOrder := by
  rw [indexedTabs, List.pairwise_flatMap]
  refine ⟨?_, ?_⟩
  · rintro ⟨x, k⟩ _
    rw [List.pairwise_map]
    exact (pairwise_zipIdx x.tabs 0).imp (fun h => Or.inr ⟨rfl, h⟩)
  · refine (pairwise_zipIdx q.sites 0).imp ?_
    rintro ⟨x, k⟩ ⟨y, j⟩ h a ha b hb
    simp only [List.mem_map] at ha hb
    obtain ⟨_, _, rfl⟩ := ha
    obtain ⟨_, _, rfl⟩ := hb
    exact Or.inl h

/-- What stands before a tab in the scan is what comes before it in scan order. -/
theorem mem_before_iff (q : Recipe) (as bs) (k i : Nat) (t : RecipeTab) (h : indexedTabs q.sites = as ++ (k, i, t) :: bs)
    (j m : Nat) (u : RecipeTab) :
    (j, m, u) ∈ as ↔ q.tab j m = some u ∧ ScannedBefore j m k i := by
  have hp := indexedTabs_pairwise q
  rw [h, List.pairwise_append] at hp
  obtain ⟨_, h2, h3⟩ := hp
  rw [List.pairwise_cons] at h2
  constructor
  · intro hm
    refine ⟨(mem_indexedTabs q j m u).1 (by rw [h]; simp [hm]), h3 _ hm (k, i, t) (by simp)⟩
  · rintro ⟨hm, hb⟩
    have := (mem_indexedTabs q j m u).2 hm
    rw [h, List.mem_append, List.mem_cons] at this
    rcases this with h' | h' | h'
    · exact h'
    · simp only [Prod.mk.injEq] at h'; obtain ⟨rfl, rfl, _⟩ := h'; unfold ScannedBefore at hb; omega
    · have := h2.1 _ h'; unfold ScanOrder at this; simp only [ScannedBefore] at this hb; omega

/-- A check that scans the tabs reports the first bad one in scan order (R12). -/
theorem tabFailure_iff (q : Recipe) (c : Check) (p : RecipeTab → Bool) (bad : RecipeTab → Prop) (hb : ∀ x, p x = true ↔ bad x)
    (f : Failure) :
    (((indexedTabs q.sites).find? (fun x => p x.2.2)).map (fun x => Failure.ofTab c x.1 x.2.1)) = some f ↔
      f.check = c ∧ ∃ k i, FirstTab q (fun _ _ t => bad t) k i ∧ f = ⟨f.check, some k, some i, none, none⟩ := by
  simp only [Option.map_eq_some_iff, Prod.exists, List.find?_eq_some_iff_append, FirstTab, Failure.ofTab]
  constructor
  · rintro ⟨k, i, t, ⟨h1, as, bs, h2, h3⟩, rfl⟩
    refine ⟨rfl, k, i, ⟨t, (mem_indexedTabs q k i t).1 (by rw [h2]; simp), (hb t).1 h1, ?_⟩, rfl⟩
    intro j m u hs hu hbad
    have := h3 _ ((mem_before_iff q as bs k i t h2 j m u).2 ⟨hu, hs⟩)
    simp [(hb u).2 hbad] at this
  · rintro ⟨rfl, k, i, ⟨t, h1, h2, h3⟩, h4⟩
    obtain ⟨as, bs, h⟩ := List.append_of_mem ((mem_indexedTabs q k i t).2 h1)
    refine ⟨k, i, t, ⟨(hb t).2 h2, as, bs, h, ?_⟩, h4.symm⟩
    rintro ⟨j, m, u⟩ hm
    obtain ⟨hu, hs⟩ := (mem_before_iff q as bs k i t h j m u).1 hm
    have := h3 j m u hs hu
    rw [← hb] at this; simpa using this

/-- Check 5 stops at the first cut sequence seen before (R12). -/
theorem sequenceFailure_iff_append (l : List (Nat × Nat × RecipeTab)) (seen : List Nat) (f : Failure) :
    sequenceFailure seen l = some f ↔ ∃ as k i t bs,
      l = as ++ (k, i, t) :: bs ∧ (t.seq ∈ seen ∨ ∃ x ∈ as, x.2.2.seq = t.seq) ∧ f = Failure.ofTab .sequence k i
        ∧ ∀ as' x bs', as = as' ++ x :: bs' → ¬ (x.2.2.seq ∈ seen ∨ ∃ y ∈ as', y.2.2.seq = x.2.2.seq) := by
  induction l generalizing seen with
  | nil => simp [sequenceFailure]
  | cons a l ih =>
    obtain ⟨k, i, t⟩ := a
    simp only [sequenceFailure]
    split
    · next h =>
      constructor
      · intro e
        exact ⟨[], k, i, t, l, rfl, Or.inl h, (Option.some.inj e).symm, by simp⟩
      · rintro ⟨as, k', i', t', bs, h1, h2, h3, h4⟩
        cases as with
        | nil => simp at h1; obtain ⟨⟨rfl, rfl, rfl⟩, rfl⟩ := h1; rw [h3]
        | cons b as =>
          simp only [List.cons_append, List.cons.injEq] at h1
          obtain ⟨rfl, rfl⟩ := h1
          exact absurd (Or.inl h) (h4 [] (k, i, t) as rfl)
    · next h =>
      rw [ih]
      constructor
      · rintro ⟨as, k', i', t', bs, h1, h2, h3, h4⟩
        refine ⟨(k, i, t) :: as, k', i', t', bs, by rw [h1]; rfl, ?_, h3, ?_⟩
        · simp only [List.mem_cons] at h2
          rcases h2 with (h2 | h2) | ⟨x, hx, h2⟩
          · exact Or.inr ⟨(k, i, t), by simp, h2.symm⟩
          · exact Or.inl h2
          · exact Or.inr ⟨x, by simp [hx], h2⟩
        · intro as' x bs' e
          cases as' with
          | nil => simp at e; obtain ⟨rfl, rfl⟩ := e; simpa using h
          | cons c as' =>
            simp only [List.cons_append, List.cons.injEq] at e
            obtain ⟨rfl, rfl⟩ := e
            have := h4 as' x bs' rfl
            simp only [List.mem_cons, not_or, not_exists, not_and] at this ⊢
            refine ⟨this.1.2, ?_⟩
            rintro y (rfl | hy)
            · exact fun e => this.1.1 e.symm
            · exact this.2 y hy
      · rintro ⟨as, k', i', t', bs, h1, h2, h3, h4⟩
        cases as with
        | nil =>
          simp at h1; obtain ⟨⟨rfl, rfl, rfl⟩, rfl⟩ := h1
          simp at h2; exact absurd h2 h
        | cons b as =>
          simp only [List.cons_append, List.cons.injEq] at h1
          obtain ⟨rfl, rfl⟩ := h1
          refine ⟨as, k', i', t', bs, rfl, ?_, h3, ?_⟩
          · rcases h2 with h2 | ⟨x, hx, h2⟩
            · exact Or.inl (by simp [h2])
            · simp only [List.mem_cons] at hx
              rcases hx with rfl | hx
              · exact Or.inl (by simp [← h2])
              · exact Or.inr ⟨x, hx, h2⟩
          · intro as' x bs' e
            have := h4 ((k, i, t) :: as') x bs' (by rw [e]; rfl)
            simp only [List.mem_cons, not_or, not_exists, not_and] at this ⊢
            refine ⟨⟨fun e => this.2 (k, i, t) (Or.inl rfl) e.symm, this.1⟩, fun y hy => this.2 y (Or.inr hy)⟩

/-- Check 5 reports the first tab in scan order whose cut sequence an earlier one has (R12). -/
theorem sequenceFailure_iff (q : Recipe) (f : Failure) :
    sequenceFailure [] (indexedTabs q.sites) = some f ↔ f.check = .sequence ∧ ∃ k i,
      FirstTab q (fun k i t => ∃ j m u, ScannedBefore j m k i ∧ q.tab j m = some u ∧ u.seq = t.seq) k i
        ∧ f = ⟨f.check, some k, some i, none, none⟩ := by
  rw [sequenceFailure_iff_append]
  simp only [List.not_mem_nil, false_or, FirstTab]
  constructor
  · rintro ⟨as, k, i, t, bs, h1, ⟨⟨j, m, u⟩, hx, h2⟩, rfl, h4⟩
    obtain ⟨hu, hs⟩ := (mem_before_iff q as bs k i t h1 j m u).1 hx
    refine ⟨rfl, k, i, ⟨t, (mem_indexedTabs q k i t).1 (by rw [h1]; simp), ⟨j, m, u, hs, hu, h2⟩, ?_⟩, rfl⟩
    rintro j m u hs hu ⟨j', m', u', hs', hu', e⟩
    have hm := (mem_before_iff q as bs k i t h1 j m u).2 ⟨hu, hs⟩
    obtain ⟨as', bs', ha⟩ := List.append_of_mem hm
    refine h4 as' (j, m, u) bs' ha ⟨(j', m', u'), ?_, e⟩
    exact (mem_before_iff q as' (bs' ++ (k, i, t) :: bs) j m u (by rw [h1, ha]; simp) j' m' u').2 ⟨hu', hs'⟩
  · rintro ⟨h0, k, i, ⟨t, h1, ⟨j, m, u, hs, hu, e⟩, h3⟩, h4⟩
    obtain ⟨as, bs, h⟩ := List.append_of_mem ((mem_indexedTabs q k i t).2 h1)
    refine ⟨as, k, i, t, bs, h, ⟨(j, m, u), (mem_before_iff q as bs k i t h j m u).2 ⟨hu, hs⟩, e⟩, by rw [h4, h0]; rfl, ?_⟩
    rintro as' ⟨j', m', u'⟩ bs' ha ⟨⟨a, b, c⟩, hy, e'⟩
    obtain ⟨hu', hs'⟩ := (mem_before_iff q as bs k i t h j' m' u').1 (by rw [ha]; simp)
    obtain ⟨hc, hsc⟩ := (mem_before_iff q as' (bs' ++ (k, i, t) :: bs) j' m' u' (by rw [h, ha]; simp) a b c).1 hy
    exact h3 j' m' u' hs' hu' ⟨a, b, c, hsc, hc, e'⟩

end Sys2Proof.Machine
end

