-- ==== Sys2Proof/Laws/Transactions.lean ====
section
/-! SUPPORT. The port byte by byte (R186, R187, R193): what a byte clocked does in each state of the selection, what it shifts
out, and when the bytes that are in make a frame. -/

namespace Sys2Proof.Machine

/-! ### A frame and what is in of it (R187) -/

/-- Until its check byte is in, a frame does nothing (R187). -/
theorem transact_cut_short (code len : Byte) (rest : List Byte) (s : State) (i : Nat) (h : i < len.toNat + 3) :
    transact ((code :: len :: rest).take i) s = s := by
  match i with
  | 0 => rfl
  | 1 => simp [transact]
  | i + 2 =>
    have : (rest.take i).length < len.toNat + 1 := by rw [List.length_take]; omega
    simp only [List.take_succ_cons, transact]
    split
    · rfl
    · rfl

/-- What follows the check byte is disregarded (R187). -/
theorem transact_take (code len : Byte) (rest : List Byte) (s : State) (i : Nat) (h : len.toNat + 3 ≤ i) :
    transact ((code :: len :: rest).take i) s = transact (code :: len :: rest) s := by
  obtain ⟨k, rfl⟩ : ∃ k, i = k + 2 := ⟨i - 2, by omega⟩
  have hk : len.toNat + 1 ≤ k := by omega
  simp only [List.take_succ_cons, transact]
  split
  · rfl
  · have h1 : ((rest.take k).length < len.toNat + 1) = (rest.length < len.toNat + 1) := by
      rw [List.length_take]; simp; omega
    rw [List.take_take, List.take_take, min_eq_left (by omega), min_eq_left (by omega)]
    simp only [h1]

/-- The check byte is the byte at position len + 3 of a transaction that is neither a status read nor a fetch (R187). -/
theorem frameEnds_iff (code len : Byte) (body : List Byte) :
    frameEnds (code :: len :: body) = true ↔ code ≠ 0xA5 ∧ code ≠ 0xA6 ∧ body.length = len.toNat + 1 := by
  exact decide_eq_true_iff

/-! ### Events one after another -/

/-- The port after the events of two stretches. -/
theorem after_append (m : PortState) (early late : List PortEvent) : m.after (early ++ late) = (m.after early).after late :=
  List.foldl_append

/-- The bytes of two stretches go out one after the other. -/
theorem outputs_append (m : PortState) (early late : List PortEvent) :
    m.outputs (early ++ late) = m.outputs early ++ (m.after early).outputs late := by
  induction early generalizing m with
  | nil => rfl
  | cons e early ih =>
    match e with
    | .clock byte => exact congrArg (m.selection.output m.part :: ·) (ih _)
    | .take c => exact ih _
    | .step => exact ih _

/-- One byte goes out for each byte clocked (R186). -/
theorem outputs_clock (m : PortState) (byte : Byte) : m.outputs [.clock byte] = [m.selection.output m.part] := rfl

/-- Each byte clocked is one position of the output (R186). -/
theorem length_outputs_clocks (m : PortState) (bytes : List Byte) : (m.outputs (bytes.map .clock)).length = bytes.length := by
  induction bytes generalizing m with
  | nil => rfl
  | cons byte bytes ih => exact congrArg Nat.succ (ih _)

/-- What position i shows is the output of the selection as the bytes before it left it (R186). -/
theorem getElem?_outputs_clocks (m : PortState) (bytes : List Byte) (i : Nat) (h : i < bytes.length) :
    let n := m.after ((bytes.take i).map .clock)
    (m.outputs (bytes.map .clock))[i]? = some (n.selection.output n.part) := by
  induction bytes generalizing m i with
  | nil => exact absurd h (Nat.not_lt_zero _)
  | cons byte bytes ih =>
    match i with
    | 0 => rfl
    | i + 1 => exact ih (m.next (.clock byte)) i (Nat.lt_of_succ_lt_succ h)

/-! ### One byte -/

/-- While the port takes no byte, the part goes on unchanged and the selection stays abandoned (R186, R193). -/
theorem next_clock_idle (m : PortState) (byte : Byte) (h : m.selection.taking m.part = false) :
    m.next (.clock byte) = ⟨m.part, { m.selection with abandoned := true, clocked := m.selection.clocked + 1 }⟩ := by
  simp [PortState.next, Selection.receive, h]

/-- A byte taken joins those that are in; with a frame's check byte the frame takes effect (R187). -/
theorem next_clock_taking (m : PortState) (byte : Byte) (h : m.selection.taking m.part = true) :
    let bytes := m.selection.received ++ [byte]
    m.next (.clock byte) =
      ⟨if frameEnds bytes then goesOn (exec (.commandFrame bytes) m.part) m.part else m.part,
        { m.selection with
          received := bytes
          found := if m.selection.received.isEmpty then m.part.answer else m.selection.found
          clocked := m.selection.clocked + 1 }⟩ := by
  simp [PortState.next, Selection.receive, h]

/-- The port takes bytes while the transaction stands and RESET is negated. -/
theorem taking_iff (sel : Selection) (s : State) : sel.taking s = true ↔ sel.abandoned = false ∧ s.resetAsserted = false := by
  simp [Selection.taking]

/-- RESET holds the output low (R186). -/
theorem output_reset (sel : Selection) (s : State) (h : s.resetAsserted = true) : sel.output s = 0 := by
  simp [Selection.output, h]

/-- What an abandoned transaction shows is free (log entry 31). -/
theorem output_abandoned (sel : Selection) (s : State) (h : s.resetAsserted = false) (ha : sel.abandoned = true) :
    sel.output s = Config.idleOutput sel.clocked := by
  simp [Selection.output, h, ha]

/-- A fetch sends the buffer it found from its second position on, then 0 (R186). -/
theorem output_fetch (sel : Selection) (s : State) (rest : List Byte) (h : sel.taking s = true)
    (hr : sel.received = 0xA6 :: rest) :
    sel.output s = sel.found.fetchBytes.getD rest.length 0 := by
  obtain ⟨ha, hs⟩ := (taking_iff sel s).1 h
  simp [Selection.output, hs, ha, hr, Config.fetch]

/-- Every other position shows the status byte (R186; the first of a read: log entry 31). -/
theorem output_status (sel : Selection) (s : State) (h : sel.taking s = true) (hr : sel.received.head? ≠ some 0xA6) :
    sel.output s = s.statusByte := by
  obtain ⟨ha, hs⟩ := (taking_iff sel s).1 h
  match hl : sel.received with
  | [] => simp [Selection.output, hs, ha, hl]
  | first :: rest => simp_all [Selection.output, Config.fetch]

/-! ### An abandoned transaction (R193) -/

/-- A selection once abandoned stays so. -/
theorem next_abandoned (m : PortState) (e : PortEvent) (h : m.selection.abandoned = true) :
    (m.next e).selection.abandoned = true := by
  match e with
  | .clock byte => rw [next_clock_idle m byte (by simp [Selection.taking, h])]
  | .take c => simp [PortState.next, Selection.past, h]
  | .step => cases hp : m.part.pending <;> simp [PortState.next, Selection.past, h, hp]

/-- A transaction cut by RESET or power-on is abandoned. -/
theorem next_take_cut (m : PortState) (c : Instr) (h : cutsTransaction c = true) :
    (m.next (.take c)).selection.abandoned = true := by
  simp [PortState.next, Selection.past, h]

end Sys2Proof.Machine
end

