-- ==== Sys2Proof/Tests/Slice0.lean ====
section
/-! SUPPORT. Tests: the well-formedness check refuses each kind of ill-formed term, single steps and values against the numbers
the spec prints, and for every statement with hypotheses a state and operands that meet them together. -/

namespace Sys2Proof.Tests

open Sys2Proof Sys2Proof.Machine

/-! ### Sample states -/

/-- A recipe of the shape of file 01's recipe 5: two sites of two tabs, the second of each the release tab, one zone. -/
def recipe : Recipe :=
  { header := ⟨.p12, 25, 2, ⟨5000, 5000⟩, ⟨95000, 5000⟩, 1600, .leave⟩
    sites := [⟨3, ⟨10000, 20000⟩, 40000, 25000, 7500, [⟨⟨30000, 20000⟩, .h, 2000, 0, false⟩, ⟨⟨50000, 32500⟩, .v, 2000, 4, true⟩]⟩,
      ⟨7, ⟨55000, 20000⟩, 30000, 25000, 3000, [⟨⟨70000, 20000⟩, .h, 2000, 2, false⟩, ⟨⟨85000, 32500⟩, .v, 2000, 5, true⟩]⟩]
    zones := (Vector.replicate 8 none).set 2 (some ⟨⟨20000, 50000⟩, ⟨40000, 56000⟩⟩) }

/-- A board of the recipe's site 0 in a state, with its two tabs in theirs, corrected as if the panel lay as its recipe. -/
def board0 (st : BoardState) (a b : TabState) (v : Verdict) (n : Nat) (r : Option Reservation) : BoardRecord :=
  ⟨0, 3, ⟨10000, 20000⟩, 40000, 25000, 7500, some ⟨30000, 32500⟩, v, n, st, r, false, false,
    [⟨0, 0, ⟨30000, 20000⟩, .h, 2000, 0, false, some ⟨30000, 20000⟩, a, some .a⟩,
      ⟨0, 1, ⟨50000, 32500⟩, .v, 2000, 4, true, some ⟨50000, 32500⟩, b, some .a⟩]⟩

/-- A board of site 1, as board0. -/
def board1 (st : BoardState) (a b : TabState) : BoardRecord :=
  ⟨1, 7, ⟨55000, 20000⟩, 30000, 25000, 3000, some ⟨70000, 32500⟩, .good, 1, st, none, false, false,
    [⟨1, 0, ⟨70000, 20000⟩, .h, 2000, 2, false, some ⟨70000, 20000⟩, a, some .b⟩,
      ⟨1, 1, ⟨85000, 32500⟩, .v, 2000, 5, true, some ⟨85000, 32500⟩, b, none⟩]⟩

/-- A panel of the recipe on fixture 0. -/
def panel (st : PanelState) (c : Option Correction) (boards : List BoardRecord) : Panel := ⟨7201, 5, 0, st, 0, c, boards⟩

/-- The correction record of a panel that lies as its recipe. -/
def straight : Correction := ⟨1048576, 0, ⟨5000, 5000⟩⟩

/-- A magazine of ten slots. -/
def magazine (id : Word) (fill : Nat) (slots : List Slot) : Magazine :=
  ⟨id, 5000, 1000, fill, slots ++ List.replicate (10 - slots.length) .empty⟩

/-- A bay with a CURRENT record. -/
def bay (st : BayState) (target : Option Nat) (m : Magazine) : Bay := { Bay.cold with state := st, current := some m, target := target }

/-- The part in RUN with the recipe loaded in slot 5, CLAMP0 CLOSED, one ALIGNED panel in entry 1, variant 3 routed to bay 0
and bay 0 ready for boards. -/
def part (boards : List BoardRecord) : State :=
  { State.reset with
    causes := ⟨false, false, false⟩
    slots := (Vector.replicate 16 none).set 5 (some recipe)
    panels := (Vector.replicate 4 none).set 1 (some (panel .aligned (some straight) boards))
    filters := (Vector.replicate 7 ⟨false, 0⟩).set 1 ⟨true, 0⟩
    routing := (Vector.replicate 16 none).set 3 (some 0)
    bays := (Vector.replicate 4 Bay.cold).set 0 (bay .active none (magazine 9 0 [])) }

/-- Spindle A at work on tab 0 of board 0. -/
def cutting : State :=
  { part [board0 .cutting .assigned .intact .good 1 none, board1 .cutting .intact .intact] with
    spindleA := ⟨.ready, some ⟨⟨1, 0, 0⟩, .normal, false⟩, 44999000, 60000000, some 1⟩ }

/-- The gripper with board 0 in a state, its slots 0 to 2 reserved in bay 0. -/
def carrying (st : BoardState) (release : TabState) (bs : BayState) : State :=
  { part [board0 st .cut release .good 0 (some ⟨0, 0⟩), board1 .cutting .intact .intact] with
    gripper := ⟨.ready, some ⟨1, 0⟩, some 1⟩
    bays := (Vector.replicate 4 Bay.cold).set 0 (bay bs (some 0) (magazine 9 3 [.reserved ⟨1, 0⟩, .spanned 0, .spanned 0])) }

/-- A panel in another state, with a recipe that is loaded. -/
def early (st : PanelState) (boards : List BoardRecord) : State :=
  { part [] with panels := (Vector.replicate 4 none).set 1 (some (panel st none boards)) }

/-- Its correction run at an item. -/
def running (item : RunItem) (boards : List BoardRecord) : State :=
  { early .correcting boards with
    runs := (Vector.replicate 4 .idle).set 1 (.running ⟨1048576, 0, ⟨5000, 5000⟩, [], false, item⟩) }

/-- A vision request held for a board. -/
def held : State :=
  { part [board0 .unsure .intact .intact .unsure 1 none] with
    hold := .holding ⟨1, 0⟩ (some 1)
    lines := (Vector.replicate 5 Line.cold).set 3 { Line.cold with held := some ⟨0x41, [1, 0, 2]⟩ } }

/-- The part locked by a DROP after a CUT fault. -/
def locked (recoverable : Bool) : State :=
  { part [] with fault :=
    ⟨0x7F, false, some ⟨.cut, .stall, some .spindleA, none, some 1, some 7201, some 0, some 0, true⟩,
      some ⟨.handling, .drop, some .gripper, none, some 1, some 7201, some 0, none, recoverable⟩, 0, true⟩ }

/-- The state after a command; every command goes on. -/
def ran (c : Instr) (s : State) : Option State :=
  match exec c s with
  | .next t => some t
  | .fault _ => none
  | .refused _ => none

/-! ### Well-formedness -/

set_option maxRecDepth 4000 in
theorem test_wellformed_refuses_a_long_begin : (Instr.recipeBegin (List.replicate 256 0)).wellFormed = false := by decide
set_option maxRecDepth 4000 in
theorem test_wellformed_refuses_a_long_site : (Instr.recipeSite (List.replicate 256 0)).wellFormed = false := by decide
set_option maxRecDepth 4000 in
theorem test_wellformed_refuses_a_long_zone : (Instr.recipeZone (List.replicate 256 0)).wellFormed = false := by decide
set_option maxRecDepth 4000 in
theorem test_wellformed_refuses_a_long_route : (Instr.bayRoute (List.replicate 256 0)).wellFormed = false := by decide
theorem test_wellformed_refuses_progress_on_vision : (Instr.progress .vision).wellFormed = false := by decide
theorem test_wellformed_refuses_progress_on_elevator : (Instr.progress .elevator).wellFormed = false := by decide
theorem test_wellformed_refuses_a_short_station_frame : (Instr.stationFrame .spindleA [4, 0x21, 1]).wellFormed = false := by
  decide
theorem test_wellformed_refuses_length_33 : (Instr.stationFrame .vision (33 :: List.replicate 34 0)).wellFormed = false := by
  decide
theorem test_wellformed_refuses_an_empty_transaction : (Instr.commandFrame []).wellFormed = false := by decide
theorem test_wellformed_takes_the_rest :
    (Instr.stationFrame .spindleA [4, 0x21, 1, 3, 2, 0xD5]).wellFormed = true ∧ (Instr.progress .gripper).wellFormed = true
      ∧ (Instr.recipeZone [0]).wellFormed = true ∧ (Instr.commandFrame [0xA5]).wellFormed = true := by decide

/-! ### Values the spec prints -/

/-- The packing examples of file 01. -/
theorem test_packing_examples :
    pairAt .p12 25 [0x4B, 0x03, 0x20] 0 = ⟨30000, 20000⟩ ∧ pairAt .p12 25 [0xED, 0x80, 0xC8] 0 = ⟨95000, 5000⟩
      ∧ pairAt .p12 200 [0xC8, 0x00, 0x64] 0 = ⟨640000, 20000⟩
      ∧ pairAt .w16 0 [0x0B, 0xB8, 0x07, 0xD0] 0 = ⟨30000, 20000⟩
      ∧ pairAt .s24 0 [0x00, 0x75, 0x30, 0xFF, 0xFF, 0x9C] 0 = ⟨30000, -100⟩ := by decide

/-- The rounding and the two measurements of panel 8,120 (file 03). -/
theorem test_correction_of_panel_8120 :
    roundDiv 49965 2 = 24983 ∧ roundDiv (-49965) 2 = -24983
      ∧ correctionValues ⟨5000, 5000⟩ ⟨245000, 5000⟩ ⟨105120, 80040⟩ ⟨344000, 90000⟩ = (1043683, 43516)
      ∧ correctionValues ⟨5000, 5000⟩ ⟨245000, 5000⟩ ⟨105120, 80040⟩ ⟨345096, 80280⟩ = (1048471, 1049)
      ∧ correctPoint 1048471 1049 ⟨105120, 80040⟩ ⟨5000, 5000⟩ ⟨30000, 20000⟩ = ⟨130102, 95064⟩ := by decide

/-- The span table of R144. -/
theorem test_spans_of_r144 :
    spanOf 1600 7500 ⟨0, 5000, 1000, 0, []⟩ = 3 ∧ spanOf 1600 7500 ⟨0, 10100, 1000, 0, []⟩ = 1
      ∧ spanOf 1600 7500 ⟨0, 2000, 1000, 0, []⟩ = 6 ∧ spanOf 1600 25000 ⟨0, 2000, 1000, 0, []⟩ = 14
      ∧ spanOf 1600 25000 ⟨0, 4000, 1000, 0, []⟩ = 7 ∧ spanOf 400 0 ⟨0, 2000, 0, 0, []⟩ = 1 := by decide

/-- The frame of R86's example. -/
theorem test_check_byte_of_r86 : frameBytes ⟨0x21, [1, 3, 2]⟩ = [0x7E, 4, 0x21, 1, 3, 2, 0xD5] := by decide

/-- The recipe of the tests passes validation. -/
theorem test_recipe_is_valid :
    validate ⟨recipe.header, recipe.sites.map some, recipe.zones⟩ = .ok recipe := by decide

/-! ### Single steps -/

theorem test_status_read_changes_nothing : ran (.commandFrame [0xA5, 0]) State.reset = some State.reset := by decide
theorem test_tab_done_bytes_act_as_tab_done :
    ran (.stationFrame .spindleA [4, 0x21, 1, 0, 0, 0xDA]) cutting = ran (.tabDone .a 1 0 0) cutting := by decide
theorem test_pause_frame_acts_as_pause :
    ran (.commandFrame [0x60, 0, 0xA0]) (part []) = ran .pause (part []) := by decide
theorem test_config_set_frame_is_high_byte_first :
    ran (.commandFrame [0x63, 5, 2, 0, 1, 0, 0, 0x95]) (part []) = ran (.configSet 2 65536) (part []) := by decide
theorem test_zone_set_frame_acts_as_zone_set :
    ran (.commandFrame ([0x42, 15, 3, 0, 0, 1, 0xFF, 0xFF, 0xFE, 0, 1, 0, 0, 2, 0, 1, 1] ++ [0xAA])) (part []) =
      ran (.zoneSet 3 1 0xFFFFFE 256 512 1 1) (part []) := by decide
theorem test_fiducial_bytes_act_as_fiducial :
    ran (.stationFrame .vision [14, 0x40, 1, 0, 0, 1, 0, 0, 2, 0, 1, 0, 0xFF, 0xFF, 0xFF, 0xB0])
        (early .aligning [board0 .awaitMark .intact .intact .none 1 none]) =
      ran (.fiducial 1 1 2 256 0xFFFFFF) (early .aligning [board0 .awaitMark .intact .intact .none 1 none]) := by decide
theorem test_mag_stage_frame_acts_as_mag_stage :
    ran (.commandFrame [0x50, 10, 1, 0, 0, 1, 0, 40, 0x13, 0x88, 3, 0xE8, 0xF6]) (part []) =
      ran (.magStage 1 256 40 5000 1000) (part []) := by decide

/-- The state after one tick. -/
def ticked (s : State) : Option State :=
  match step { s with pending := [] } with
  | .next t => some t
  | .fault _ => none
  | .refused _ => none

/-- R96: the answer to a frame taken just before a restart is lost; one that a tick has seen begin is sent. -/
theorem test_restart_loses_a_queued_answer :
    ((ran .nextPick (part [])).bind (ran .restartWarm)).map (·.line .gripper) = some Line.cold
      ∧ (((ran .nextPick (part [])).bind ticked).bind (ran .restartWarm)).map (·.line .gripper)
          = some { Line.cold with tx := some ⟨0x83, [0x30]⟩ } := by decide

/-- R165: with the interval lowered below the clock, a SAMPLE waits for the next tick. -/
theorem test_lowered_interval_waits_for_a_tick :
    ((ran (.configSet 11 1) { part [] with sampleClock := 1 }).bind (ran (.sample 0))).map (·.sampleClock) = some 1
      ∧ (((ran (.configSet 11 1) { part [] with sampleClock := 1 }).bind ticked).bind (ran (.sample 0))).map
          (fun t => (t.sampleClock, t.sampleDue)) = some (0, false) := by decide

/-- R28, R52: a CLEARED panel with a held board is retired, with force and without; the hold stays. -/
theorem test_held_cleared_panel_is_retired :
    ∀ force : Bool, (ran (.panelRetire 1 (if force then 1 else 0)) { held with
      panels := held.panels.set 1 (some (panel .cleared (some straight) [])) }).map
        (fun t => (t.answer, (t.panel 1).isSome, t.hold)) =
          some (⟨1, 0x21, some .ok, [1, 0xFF]⟩, false, .holding ⟨1, 0⟩ (some 1)) := by decide

/-- The hold's expiry then answers the held request and finds no record. -/
theorem test_hold_outlives_its_panel :
    (ran .holdExpiry { held with panels := Vector.replicate 4 none }).map
      (fun t => (t.hold, (t.line .vision).held, (t.line .vision).queue.map (·.code), t.panels)) =
        some (.empty, none, [0x91], Vector.replicate 4 none) := by decide

/-- R186: PAUSE shows in the status byte from the position after its check byte on; a fetch sends the buffer, then 0; OVR shows as
it comes. -/
theorem test_bytes_shifted_out :
    (part []).shiftedOut [0x60, 0, 0xA0, 0] = [0x04, 0x04, 0x04, 0x34]
      ∧ State.reset.shiftedOut [0xA6, 0, 0, 0, 0, 0, 0, 0] = [0x34, 0, 0, 2, 0, 0xFF, 0xFF, 0]
      ∧ PortState.outputs ⟨part [], (part []).selected⟩ [.clock 0xA5, .take .pause, .clock 0, .take .resetAssert, .clock 0]
          = [0x04, 0x34, 0] := by decide

/-- R193: a frame cut by RESET or by power-on has no effect, its later bytes are disregarded, and a fetch ends. -/
theorem test_a_cut_transaction_is_abandoned :
    let start : PortState := ⟨part [], (part []).selected⟩
    let paused := fun events => (start.after events).part.causes.host
    paused [.clock 0x60, .clock 0, .clock 0xA0] = true
      ∧ paused [.clock 0x60, .clock 0, .take .resetAssert, .take .resetRelease, .clock 0xA0] = false
      ∧ paused [.clock 0x60, .take .powerOn, .clock 0x60, .clock 0, .clock 0xA0] = false
      ∧ paused [.clock 0x60, .clock 0, .step, .clock 0xA0] = true
      ∧ (start.after [.clock 0xA6, .take .powerOn, .clock 0]).selection.received = [0xA6]
      ∧ (start.after [.clock 0xA6, .take .pause, .clock 0]).selection = ⟨[0xA6, 0], (part []).answer, false, 2⟩ := by decide

/-- R187, test 5, and the RANGE answers of R183 and R192. -/
theorem test_frames_of_wrong_payload :
    (ran (.commandFrame (commandFrameBytes .pause [0])) (part [])).map (·.answer) = some ⟨1, 0x60, some .length, []⟩
      ∧ (ran (.commandFrame (commandFrameBytes .bayRoute [3])) (part [])).map (·.answer) = some ⟨1, 0x55, some .length, []⟩
      ∧ (ran (.commandFrame (commandFrameBytes .restart [2])) (locked false)).map (·.answer) = some ⟨1, 0x62, some .range, []⟩
      ∧ (ran (.commandFrame (commandFrameBytes .noticeWrite [6, 0, 0, 0, 0])) (part [])).map (·.answer)
          = some ⟨1, 0x66, some .range, []⟩ := by decide

/-- The sample recipe with the tabs of its second site as given. -/
def withTabs (tabs : List RecipeTab) : StagedRecipe :=
  ⟨recipe.header, (recipe.sites.set 1 { (recipe.sites.getD 1 ⟨0, ⟨0, 0⟩, 0, 0, 0, []⟩) with tabs := tabs }).map some, recipe.zones⟩

/-- R12: the first failing check and what it reports. -/
theorem test_first_failures :
    validate (withTabs []) = .error ⟨.tabCount, some 1, none, none, none⟩
      ∧ validate (withTabs [⟨⟨-1, 0⟩, .h, 2000, 9, false⟩]) = .error ⟨.release, some 1, none, none, none⟩
      ∧ validate (withTabs [⟨⟨0, 0⟩, .h, 1, 8, true⟩, ⟨⟨0, 0⟩, .h, 1, 9, false⟩, ⟨⟨0, 0⟩, .h, 1, 9, true⟩])
          = .error ⟨.release, some 1, some 2, none, none⟩
      ∧ validate (withTabs [⟨⟨-1, 0⟩, .h, 400, 9, true⟩, ⟨⟨0, 0⟩, .h, 400, 4, false⟩])
          = .error ⟨.sequence, some 1, some 1, none, none⟩
      ∧ validate (withTabs [⟨⟨0, 0⟩, .h, 490, 9, true⟩, ⟨⟨600000, 450001⟩, .h, 5000, 8, false⟩])
          = .error ⟨.midpoint, some 1, some 1, none, none⟩
      ∧ validate (withTabs [⟨⟨600000, 450000⟩, .h, 490, 9, true⟩]) = .error ⟨.width, some 1, some 0, none, none⟩ := by decide

/-- R162: the bay of a SUSPECT board's reservation asks for its index again, the bay of a cancelled one is ACTIVE. -/
theorem test_warm_restart_decides_the_bays :
    ((ran .restartWarm (carrying .held .intact .atSlot)).map (fun t => (t.bays[0].state, t.bays[0].target)))
        = some (.indexWanted, some 0)
      ∧ ((ran .restartWarm (carrying .targeted .intact .indexWanted)).map (fun t => (t.bays[0].state, t.bays[0].target,
          t.bays[0].current))) = some (.active, none, some (magazine 9 0 [])) := by decide

/-! ### Witnesses: for each statement with hypotheses, states and operands that meet them together, clause by clause -/

/-- A spindle A record in the part. -/
def withA (r : SpindleRecord) (s : State) : State := { s with spindleA := r }

/-- The part with bay 0 as given. -/
def withBay (b : Bay) : State := { part [] with bays := (Vector.replicate 4 Bay.cold).set 0 b }

/-- The same with a staged magazine, committed or not. -/
def staged (b : Bay) (go : Bool) : Bay := { b with next := some (magazine 4 0 []), go := go }

/-- A bay with an outstanding action. -/
def acting (st : BayState) (a : BayAction) : Bay := { bay st (some 0) (magazine 9 0 []) with action := some a, actionTimer := some 1 }

/-- The part with paused causes. -/
def pausing (s : State) : State := { s with causes := ⟨true, false, false⟩ }

/-- The part with a number of outgoing records. -/
def sent (n : Nat) (s : State) : State := { s with outgoing := List.replicate n (magazine 1 0 []) }

/-- The part locked at a moment. -/
def lockedAt (s : State) : State := { s with fault := { s.fault with locked := true, armed := false } }

/-- Two tabs to give out. -/
def cuttable : State := part [board0 .cutting .intact .intact .good 1 none, board1 .cutting .intact .intact]

/-- The same with a machine zone over the first of them. -/
def zoned (mode : ZoneMode) : State :=
  { cuttable with zones := cuttable.zones.set 2 ⟨⟨⟨0, 0⟩, ⟨40000, 40000⟩⟩, mode, true⟩ }

/-- Their candidates. -/
def first : Candidate :=
  ⟨⟨1, 0, 0⟩, ⟨0, 0, ⟨30000, 20000⟩, .h, 2000, 0, false, some ⟨30000, 20000⟩, .intact, some .a⟩, ⟨30000, 20000⟩⟩

/-- The second of them. -/
def second : Candidate :=
  ⟨⟨1, 1, 0⟩, ⟨1, 0, ⟨70000, 20000⟩, .h, 2000, 2, false, some ⟨70000, 20000⟩, .intact, some .b⟩, ⟨70000, 20000⟩⟩

/-- A bay whose slot 0 holds a placed board. -/
def stored (st : BayState) (c : Option ConfirmWindow) : Bay :=
  { bay st (some 0) (magazine 9 3 [.occupied ⟨7201, 0, 3, .good⟩, .spanned 0, .spanned 0]) with confirm := c }

theorem test_witness_step : ({ part [] with pending := [.pause] } : State).pending = [.pause] := rfl

/-- One tick with every timer at its last ms, then with more to go, then while RESET is asserted. -/
theorem test_witness_tick :
    (∀ s : State, s = { carrying .held .intact .settling with
        spindleA := cutting.spindleA, hold := .holding ⟨1, 0⟩ (some 1), sampleClock := 1
        lines := (Vector.replicate 5 Line.cold).set 3 ⟨.body, [1], some 2, none, [⟨0x80, []⟩], none⟩
        bays := (Vector.replicate 4 Bay.cold).set 0 { acting .indexing .index with
          settleTimer := some 1, confirm := some ⟨0, 1⟩ } } →
      s.pending = [] ∧ s.resetAsserted = false ∧ (s.spindle .a).watchdog = some 1 ∧ s.gripper.watchdog = some 1
        ∧ s.bays[0].actionTimer = some 1 ∧ s.bays[0].settleTimer = some 1 ∧ s.bays[0].confirm = some ⟨0, 1⟩
        ∧ s.hold = .holding ⟨1, 0⟩ (some 1) ∧ s.settings.sampleInterval ≤ s.sampleClock + 1 ∧ (s.line .vision).gap = some 2
        ∧ (s.line .vision).tx = none ∧ (s.line .vision).queue = [⟨0x80, []⟩])
      ∧ (∀ s : State, s = { part [] with
          spindleA := { cutting.spindleA with watchdog := some 3 }, hold := .holding ⟨1, 0⟩ (some 3)
          gripper := ⟨.ready, some ⟨1, 0⟩, some 3⟩
          lines := (Vector.replicate 5 Line.cold).set 3 ⟨.length, [], some 1, none, [⟨0x80, []⟩], some ⟨0x81, []⟩⟩
          bays := (Vector.replicate 4 Bay.cold).set 0 { acting .indexing .index with
            actionTimer := some 3, settleTimer := some 3, confirm := some ⟨0, 3⟩ } } →
        s.pending = [] ∧ s.resetAsserted = false ∧ (s.spindle .a).watchdog = some 3 ∧ s.gripper.watchdog = some 3
          ∧ s.bays[0].actionTimer = some 3 ∧ s.bays[0].settleTimer = some 3 ∧ s.bays[0].confirm = some ⟨0, 3⟩
          ∧ s.hold = .holding ⟨1, 0⟩ (some 3) ∧ s.sampleClock + 1 < s.settings.sampleInterval
          ∧ (s.line .vision).gap = some 1 ∧ (s.line .vision).tx = some ⟨0x81, []⟩)
      ∧ ({ part [] with resetAsserted := true } : State).resetAsserted = true := by
  refine ⟨fun s h => ?_, fun s h => ?_, rfl⟩ <;> subst h <;> decide

/-- The premise of the settings, notice, pause and other host statements. -/
theorem test_witness_port_normal : PortNormal State.reset ∧ PortNormal (part []) ∧ PortNormal cutting ∧ PortNormal held := by
  unfold PortNormal PortOpen; decide

theorem test_witness_lines_open :
    LineOpen (part []) .spindleA ∧ LineOpen (part []) .spindleB ∧ LineOpen (part []) .gripper ∧ LineOpen (part []) .vision
      ∧ LineOpen (part []) .elevator ∧ LineOpen cutting .spindleA ∧ LineOpen cutting .spindleB
      ∧ LineOpen (carrying .free .cut .atSlot) .gripper := by
  unfold LineOpen; decide

/-- A warm restart in NORMAL, one in LOCKDOWN with recoverable records, and one the gate refuses; bays in each state, with a
reservation of a board that is not TARGETED, of one that is, and with none. -/
theorem test_witness_restarts :
    PortOpen cutting ∧ PortOpen (locked true) ∧ (locked true).fault.locked = true
      ∧ recoverable (locked true).fault.primary = true ∧ recoverable (locked true).fault.lockdownRec = true
      ∧ recoverable (locked false).fault.lockdownRec = false ∧ PortOpen (carrying .targeted .intact .active)
      ∧ cutting.panel 1 ≠ none ∧ ((cutting.board ⟨1, 0⟩).map (fun b => b.state)) = some .cutting
      ∧ (carrying .suspect .cut .settling).bays[0].state = .settling
      ∧ ((carrying .suspect .cut .settling).board ⟨1, 0⟩).map (fun b => (b.state, b.reservation))
          = some (.suspect, some ⟨0, 0⟩)
      ∧ ((carrying .targeted .intact .indexWanted).board ⟨1, 0⟩).map (fun b => (b.state, b.reservation))
          = some (.targeted, some ⟨0, 0⟩)
      ∧ (carrying .targeted .intact .indexWanted).bays[0].current.isSome = true
      ∧ (withBay (acting .exchanging .exchange)).bays[0].state = .exchanging ∧ (part []).bays[0].state = .active
      ∧ (withBay (acting .indexing .index)).bays[0].state = .indexing ∧ (part []).bays[1].current = none := by
  unfold PortOpen; decide

/-- A command at a busy port, in LOCKDOWN, and every clause of the reset statement. -/
theorem test_witness_commands_turned_away :
    hostCommand .pause = some .pause ∧ ({ part [] with busy := true } : State).busy = true
      ∧ (locked true).busy = false ∧ (locked true).fault.locked = true ∧ CommandName.takenInLockdown .pause = false
      ∧ ({ part [] with resetAsserted := true } : State).resetAsserted = true := by decide

/-- A request on a full queue, behind a held request, in LOCKDOWN. -/
theorem test_witness_requests_turned_away :
    stationRequest .nextPick = some (.gripper, .nextPick, [])
      ∧ 4 ≤ ((part []).setLine .gripper ⟨.hunt, [], none, none, List.replicate 4 ⟨0x80, []⟩, some ⟨0x80, []⟩⟩
          |>.line .gripper).pump.queue.length
      ∧ ((part []).setLine .gripper { Line.cold with queue := List.replicate 4 ⟨0x80, []⟩ }
          |>.line .gripper).pump.queue.length < 4
      ∧ stationRequest (.siteMark 1 0 2) = some (.vision, .siteMark, [1, 0, 2])
      ∧ (held.line .vision).pump.queue.length < 4 ∧ (held.line .vision).held ≠ none
      ∧ ((locked true).line .gripper).held = none ∧ (locked true).fault.locked = true := by decide

theorem test_witness_frames :
    hostCommand (.configSet 2 65536) = some .configSet ∧ (Instr.configSet 2 65536).wellFormed = true
      ∧ sumBytes [0x60, 0, 0xA1] ≠ 0 ∧ sumBytes [0xFF, 0, 1] = 0 ∧ commandOf 0xFF = none
      ∧ stationRequest (.tabDone .a 1 0 0) = some (.spindleA, .tabDone, [1, 0, 0])
      ∧ ((part []).line .spindleA).receiver = .hunt ∧ sumBytes [4, 0x21, 1, 0, 0, 0xDA] = 0
      ∧ sumBytes [1, 0x21, 0xDE] = 0 ∧ requestOf .spindleA 0x21 = some .tabDone ∧ (1 : Byte).toNat ≠ RequestName.tabDone.length
      ∧ sumBytes [1, 0x30, 0xCF] = 0 ∧ requestOf .spindleA 0x30 = none ∧ sumBytes [1, 0x30, 0] ≠ 0 := by decide

/-- Receivers in their three states, a body that goes on and one that ends, the gap timer's last tick, frames to send. -/
theorem test_witness_lines :
    (Line.cold.receiver = .hunt) ∧ bytesComplete [4, 0x21] = false ∧ bytesComplete [1, 0x20, 0xDF] = true
      ∧ ((part []).setLine .vision ⟨.body, [1], some 2, none, [⟨0x80, []⟩], some ⟨0x81, []⟩⟩ |>.line .vision).gap = some 2
      ∧ ((part []).setLine .vision ⟨.length, [], some 2, none, [⟨0x80, []⟩], some ⟨0x81, []⟩⟩ |>.line .vision)
          = ⟨.length, [], some 2, none, [⟨0x80, []⟩], some ⟨0x81, []⟩⟩ := by decide

/-- Payloads of a wrong length, of a route that is no list of pairs, of another form and of another action; positions before and
after a check byte; commands taken in LOCKDOWN and not. -/
theorem test_witness_wrong_payloads :
    PortOpen (locked false) ∧ CommandName.takenInLockdown .configRead = true ∧ (part []).fault.locked = false
      ∧ ([] : List Byte).length ≠ 1 ∧ ([0, 0] : List Byte).length ≠ 1 ∧ ([3] : List Byte).length % 2 = 1
      ∧ 32 < (List.replicate 34 (0 : Byte)).length ∧ 1 < (2 : Byte).toNat ∧ 5 < (6 : Byte).toNat
      ∧ 2 < (0 : Byte).toNat + 3 ∧ ¬ 3 < (0 : Byte).toNat + 3 ∧ ([0x60, 0, 0xA0, 0] : List Byte).length = 4
      ∧ (ran (.commandFrame [0x60, 0, 0xA0, 0]) (part [])).isSome = true ∧ (part []).resetAsserted = false
      ∧ (part []).selected.abandoned = false ∧ (part []).pending = [] ∧ ((part []).selected.past .powerOn).abandoned = true
      ∧ ({ part [] with resetAsserted := true } : State).resetAsserted = true := by
  unfold PortOpen; decide

/-- Expiries with nothing to end: timers stopped, reloaded and held by GUARD, with and without a hold or a window. -/
theorem test_witness_expiries_without_effect :
    (part []).resetAsserted = false ∧ Line.cold.gap = none ∧ 1 < 2 ∧ ({ Line.cold with gap := some 1 }).gap = some 1
      ∧ (part []).hold = .empty ∧ held.hold.stop = .holding ⟨1, 0⟩ none
      ∧ ({ held with hold := .holding ⟨1, 0⟩ (some 2) } : State).hold = .holding ⟨1, 0⟩ (some (0 + 2))
      ∧ ((part []).spindle .b).watchdog = none ∧ (part []).gripper.watchdog = none
      ∧ ((withA ⟨.ready, none, 0, 1000000, some 2⟩ (part [])).spindle .a).watchdog = some (0 + 2)
      ∧ ({ cutting with causes := ⟨false, true, false⟩ } : State).causes.guardOpen = true
      ∧ (cutting.spindle .a).watchdog = some 1 ∧ (part []).bays[0].actionTimer = none ∧ (part []).bays[0].settleTimer = none
      ∧ (withBay { acting .indexing .index with actionTimer := some 2 }).bays[0].actionTimer = some (0 + 2)
      ∧ (withBay { bay .settling (some 0) (magazine 9 0 []) with settleTimer := some 2 }).bays[0].settleTimer = some (0 + 2)
      ∧ (part []).bays[0].confirm = none ∧ (withBay (stored .atSlot (some ⟨0, 2⟩))).bays[0].confirm = some ⟨0, 0 + 2⟩ := by
  decide

/-- A panel with and without another on its fixture, a board with a hold and without, an eligible tab and one that is not. -/
theorem test_witness_read_fields :
    (part []).panel 1 ≠ none ∧ (∀ x : Fin 4, x ≠ 1 → (part []).panel x = none)
      ∧ (((part []).setPanel 0 (some (panel .queued none []))).panel 0).map (·.fixture) = some 0
      ∧ held.hold = .holding ⟨1, 0⟩ (some 1) ∧ (part []).hold = .empty
      ∧ ((part [board0 .cutting .intact .intact .good 1 none]).tab ⟨1, 0, 0⟩).map (fun x => (x.state, x.release))
          = some (.intact, false)
      ∧ (optWide 2 u16 none = List.replicate 3 0) ∧ optWide 2 u16 (some 5) = 1 :: u16 5 := by decide

/-- Fields above their ranges, FREE entries, sites and tabs without a record. -/
theorem test_witness_refusals :
    3 < (4 : Byte).toNat ∧ 63 < (64 : Byte).toNat ∧ 7 < (8 : Byte).toNat ∧ 1 < (2 : Byte).toNat ∧ 2 < (3 : Byte).toNat
      ∧ (63 : Byte).toNat ≤ 63 ∧ cutting.panel 0 = none ∧ cutting.panel 1 ≠ none ∧ cutting.board ⟨1, 63⟩ = none
      ∧ cutting.tab ⟨1, 0, 7⟩ = none ∧ PortNormal cutting := by
  unfold PortNormal PortOpen; decide

/-- Recipe frames that are refused, one for each test of R7, R9 and R10. -/
theorem test_refused_recipe_frames :
    let opened : State := { part [] with staging := .opened 7 ⟨recipe.header, [none, none], recipe.zones⟩ }
    let code := fun (c : Instr) (s : State) => ((ran c s).bind (fun t => t.answer.code))
    let begin := fun (number packing pitch count mode : Byte) (n : Nat) =>
      code (.recipeBegin ([number, packing, pitch, count] ++ List.replicate n 0 ++ [mode])) (part [])
    let site := fun (index variant count orient : Byte) (n : Nat) =>
      code (.recipeSite ([index, variant] ++ List.replicate 9 0 ++ [count, 0, 0, 0, orient] ++ List.replicate n 0)) opened
    begin 0 3 1 1 0 8 = some .range ∧ begin 16 0 1 1 0 7 = some .length ∧ begin 16 0 1 1 0 8 = some .range
      ∧ begin 0 0 0 1 0 8 = some .range ∧ begin 0 0 1 0 0 8 = some .range ∧ begin 0 0 1 65 0 8 = some .range
      ∧ begin 0 0 1 1 2 8 = some .range ∧ begin 0 0 1 64 1 8 = some .ok ∧ begin 15 1 0 1 0 10 = some .ok
      ∧ code (.recipeBegin [0]) (part []) = some .range ∧ code (.recipeSite [0, 0]) opened = some .length
      ∧ site 0 0 9 0 4 = some .range ∧ site 0 0 1 0 5 = some .length ∧ site 2 0 1 0 4 = some .range
      ∧ site 0 16 1 0 4 = some .range ∧ site 0 0 1 2 4 = some .range ∧ site 1 15 1 1 4 = some .ok
      ∧ code (.recipeZone (8 :: List.replicate 5 0)) opened = some .length
      ∧ code (.recipeZone (8 :: List.replicate 6 0)) opened = some .range
      ∧ code (.recipeZone (7 :: List.replicate 6 0)) opened = some .ok := by decide

/-- Reads in NORMAL and in LOCKDOWN, of a board, a tab and a magazine that exist, of a FREE entry, of a site without a record, of
a location without a magazine and of one that is none; items at their ends. -/
theorem test_witness_reads :
    PortOpen cutting ∧ PortOpen (locked false) ∧ (cutting.board ⟨1, 0⟩).isSome = true ∧ (cutting.tab ⟨1, 0, 1⟩).isSome = true
      ∧ locationOf 0 = some (.currentOf 0) ∧ cutting.magazineAt (.currentOf 0) = some (magazine 9 0 [])
      ∧ (0 : Byte).toNat < (magazine 9 0 []).slots.length ∧ (magazine 9 0 []).slots.length ≤ (10 : Byte).toNat
      ∧ cutting.panel 0 = none ∧ cutting.panel 1 ≠ none ∧ cutting.board ⟨1, 2⟩ = none ∧ cutting.tab ⟨1, 0, 2⟩ = none
      ∧ cutting.magazineAt (.nextOf 0) = none ∧ locationOf 0x10 = some (.nextOf 0)
      ∧ (∀ p : Fin 4, (4 : Byte).toNat ≠ p ∧ (4 : Byte).toNat ≠ 0x10 + p ∧ (4 : Byte).toNat ≠ 0x20 + p)
      ∧ 14 < (15 : Byte).toNat ∧ 15 < (16 : Byte).toNat ∧ 63 < (64 : Byte).toNat ∧ 7 < (8 : Byte).toNat := by
  unfold PortOpen; decide

/-- Faults with their class enabled and not, in NORMAL armed and disarmed, severe and not, and in LOCKDOWN. -/
theorem test_witness_faults :
    (locked true).fault.locked = true ∧ (part []).fault.enables.getLsbD FaultClass.cut.code = true
      ∧ (part []).fault.armed = true ∧ (0x7D : BitVec 7).getLsbD FaultClass.cut.code = false
      ∧ ({ part [] with fault := { State.reset.fault with armed := false } } : State).fault.locked = false
      ∧ FaultClass.handling = .handling ∧ ¬ (FaultClass.cut = .handling ∨ FaultClass.cut = .clamp) := by decide

/-- The bounds of the packings: W16 at 60,001 and 45,001, S24 below 0. -/
theorem test_witness_packings :
    60000 < ((0xEA : Byte) ++ (0x61 : Byte) : BitVec 16).toNat ∧ 45000 < ((0xAF : Byte) ++ (0xC9 : Byte) : BitVec 16).toNat
      ∧ (0x80 : Byte).msb = true := by decide

/-- A number in use and one that is not, an open staging, a closed one, a validation, its two ends, a slot to drop. -/
theorem test_witness_recipes :
    (part []).inUse 5 ≠ 0 ∧ (part []).inUse 7 = 0 ∧ ([0x4B, 3, 0x20] : List Byte).length = Packing.p12.width
      ∧ (∀ n r, (part []).staging ≠ .opened n r)
      ∧ ({ part [] with staging := .opened 7 ⟨recipe.header, [none, none], recipe.zones⟩ } : State).staging
          = .opened 7 ⟨recipe.header, [none, none], recipe.zones⟩
      ∧ ({ part [] with staging := .validating 7 ⟨recipe.header, [none, none], recipe.zones⟩ } : State).staging
          = .validating 7 ⟨recipe.header, [none, none], recipe.zones⟩
      ∧ validate ⟨recipe.header, [none, none], recipe.zones⟩ = .error ⟨.missingSite, some 0, none, none, none⟩ := by
  refine ⟨by decide, by decide, rfl, ?_, rfl, rfl, by decide⟩
  intro n r h; cases h

/-- A recipe to admit on a fixture with room and an id the part does not hold, an id of a LIVE entry, one that is in a magazine, an
EMPTY slot, one that is staged, and a fixture that is full. -/
theorem test_witness_admit :
    (part []).slots[5] = some recipe ∧ (part []).staging.number ≠ some 5 ∧ ((part []).onFixture 0).length < 2
      ∧ (part []).panel 0 = none ∧ (∀ x : Fin 4, ((part []).panel x).map (·.id) ≠ some 55)
      ∧ (∀ lm ∈ (part []).magazines, ∀ x ∈ lm.2.slots, x.panelId ≠ some 55)
      ∧ ∃ lm ∈ (withBay (stored .active none)).magazines, ∃ x ∈ lm.2.slots, x.panelId = some 7201 := by decide

theorem test_witness_admit_refused :
    ((part []).panel 1).map (·.id) = some 7201 ∧ (∀ x : Fin 4, x < 1 → (part []).panel x = none)
      ∧ (withBay (stored .active none)).magazines
          = [] ++ (0, magazine 9 3 [.occupied ⟨7201, 0, 3, .good⟩, .spanned 0, .spanned 0]) :: []
      ∧ (part []).slots[6] = none
      ∧ ({ part [] with staging := .opened 7 ⟨recipe.header, [none, none], recipe.zones⟩ } : State).staging.number = some 7
      ∧ 2 ≤ (((part []).setPanel 0 (some (panel .queued none []))).onFixture 0).length ∧ 1 < (2 : Byte).toNat := by decide

/-- A CLEARED panel, a forced one without work in flight, and one with a cut under way. -/
theorem test_witness_retire :
    ((part []).panel 1).isSome = true ∧ ((part []).panel 1).map (·.state) ≠ some .cleared
      ∧ (((part []).setPanel 1 (some (panel .cleared (some straight) []))).panel 1).map (·.state) = some .cleared
      ∧ (cutting.tab ⟨1, 0, 0⟩).map (·.state) = some .assigned
      ∧ ((carrying .free .cut .atSlot).board ⟨1, 0⟩).map (fun b => b.state) = some .free
      ∧ (∀ x ∈ (carrying .free .cut .atSlot).tabsOf 1, x.2.state ≠ .assigned ∧ x.2.state ≠ .suspect)
      ∧ (part []).hold = .empty ∧ ((part []).panel 1).map (·.boards) = some [] ∧ held.hold = .holding ⟨1, 0⟩ (some 1)
      ∧ ((held.setPanel 1 (some (panel .cleared (some straight) []))).panel 1).map (·.state) = some .cleared := by decide

/-- Fiducials of a FREE entry and of panels in each state, and values for each rejection and for the acceptance. -/
theorem test_witness_fiducial :
    (part []).panel 0 = none ∧ ((early .correcting []).panel 1).map (·.state) = some .correcting
      ∧ ((early .queued []).panel 1).map (·.state) = some .queued ∧ (early .aligning []).clampLevel 0 = true
      ∧ ({ early .aligning [] with filters := State.reset.filters } : State).clampLevel 0 = false
      ∧ (early .aligning []).slots[5] = some recipe
      ∧ ¬ Inside ⟨-1, 0⟩ ∧ Inside ⟨600000, 450000⟩ ∧ ¬ Inside ⟨0, 450001⟩
      ∧ 5243 < ((correctionValues ⟨5000, 5000⟩ ⟨95000, 5000⟩ ⟨0, 0⟩ ⟨0, 450000⟩).1 - 1048576).natAbs
      ∧ (correctionValues ⟨5000, 5000⟩ ⟨95000, 5000⟩ ⟨5000, 5000⟩ ⟨95000, 9000⟩) = (1048576, 46603)
      ∧ (correctionValues ⟨5000, 5000⟩ ⟨95000, 5000⟩ ⟨5000, 5000⟩ ⟨95000, 5100⟩) = (1048576, 1165) := by
  unfold Inside; decide

/-- The runs at a zone, a pick point, a tab that passes and one that a zone blocks, and at their end. -/
theorem test_witness_runs :
    runItems recipe.zones [board0 .cutting .intact .intact .good 1 none] = [.zone 2, .pick 0, .tab 0 0, .tab 0 1]
      ∧ (running (.zone 2) []).runs[1] = .running ⟨1048576, 0, ⟨5000, 5000⟩, [], false, .zone 2⟩
      ∧ (running .finished []).runs[1] = .running ⟨1048576, 0, ⟨5000, 5000⟩, [], false, .finished⟩
      ∧ ((running (.zone 2) []).panel 1).map (·.state) = some .correcting
      ∧ ((running (.tab 0 1) [board0 .cutting .intact .intact .good 1 none]).tab ⟨1, 0, 1⟩).map (·.state) = some .intact
      ∧ meets (segmentBox .v 2000 ⟨50000, 32500⟩) ⟨⟨0, 0⟩, ⟨50000, 32500⟩⟩ = true
      ∧ (recipe.zones.toList[2]?) = some (some ⟨⟨20000, 50000⟩, ⟨40000, 56000⟩⟩) := by decide

/-- A verdict on boards of both x-out modes, in AWAIT-MARK, UNSURE with its hold, STRANDED without a verdict. -/
theorem test_witness_verdicts :
    (held.board ⟨1, 0⟩).map (·.state) = some .unsure ∧ held.hold = .holding ⟨1, 0⟩ (some 1) ∧ held.slots[5] = some recipe
      ∧ ((part [board0 .awaitMark .intact .intact .none 1 none]).board ⟨1, 0⟩).map (·.state) = some .awaitMark
      ∧ ((part [board0 .stranded .intact .blocked .none 1 none]).board ⟨1, 0⟩).map (fun b => (b.state, b.verdict))
          = some (.stranded, .none)
      ∧ recipe.header.xout ≠ .eject ∧ (cutting.board ⟨1, 0⟩).map (·.state) = some .cutting
      ∧ (cutting.tab ⟨1, 0, 0⟩).map (·.release) = some false
      ∧ ({ part [] with settings := { State.reset.settings with rejectBay := some 3 } } : State).settings.rejectBay ≠ none := by
  decide

/-- SUSPECT tabs and boards, the release tab CUT, SUSPECT and INTACT. -/
theorem test_witness_suspects :
    ((part [board0 .suspect .suspect .suspect .good 1 none]).tab ⟨1, 0, 0⟩).map (·.state) = some .suspect
      ∧ (board0 .suspect .cut .cut .good 0 none).releaseState = some .cut
      ∧ (board0 .suspect .cut .suspect .good 0 none).releaseState = some .suspect
      ∧ (board0 .suspect .cut .intact .good 0 (some ⟨0, 0⟩)).releaseState = some .intact
      ∧ (board0 .cutting .cut .intact .good 0 none).state ≠ .suspect := by decide

/-- The first candidate free, given under a WATCH zone, and passed over for a KEEP-OUT zone. -/
theorem test_witness_next_tab :
    cuttable.candidates = [first, second] ∧ (zoned .watch).candidates = [first, second]
      ∧ (zoned .keepOut).candidates = [first, second] ∧ cuttable.causes = ⟨false, false, false⟩
      ∧ (cuttable.spindle .a).current = none ∧ (cuttable.spindle .b).current = none
      ∧ (cuttable.spindle .a).state = .ready ∧ (cuttable.spindle .a).cutTotal < (cuttable.spindle .a).lifeLimit
      ∧ (∀ z ∈ cuttable.zones.toList, z.enabled = false)
      ∧ (∃ z ∈ (zoned .keepOut).zones.toList, z.enabled = true ∧ z.mode = .keepOut
          ∧ meets (segmentBox first.tab.orient first.tab.width first.mid) z.rect = true)
      ∧ (∀ z ∈ (zoned .keepOut).zones.toList,
          z.enabled = true → meets (segmentBox second.tab.orient second.tab.width second.mid) z.rect = false) := by decide

/-- A tab near the other spindle's: the clearance setting keeps it back. -/
theorem test_witness_near :
    (cutting.spindle .a).current = some ⟨⟨1, 0, 0⟩, .normal, false⟩
      ∧ (cutting.tab ⟨1, 0, 0⟩).map (·.corrected) = some (some ⟨30000, 20000⟩)
      ∧ max ((30000 : Int) - 70000).natAbs ((20000 : Int) - 20000).natAbs < cutting.settings.clearance
      ∧ cutting.passedOver .b second = true := by decide

/-- PAUSED, a spindle at work, STALLED, BROKEN, WORN, READY at the end of its life, work that waits, and none. -/
theorem test_witness_no_tab :
    State.reset.causes ≠ ⟨false, false, false⟩ ∧ (cutting.spindle .a).current ≠ none
      ∧ ((withA ⟨.stalled, none, 0, 1000000, none⟩ cuttable).spindle .a).state = .stalled
      ∧ ((withA ⟨.broken, none, 0, 1000000, none⟩ cuttable).spindle .a).state = .broken
      ∧ ((withA ⟨.worn, none, 1000000, 1000000, none⟩ cuttable).spindle .a).lifeLimit ≤ 1000000
      ∧ ((withA ⟨.ready, none, 1000000, 1000000, none⟩ cuttable).spindle .a).state = .ready
      ∧ (part [board0 .ready .cut .intact .good 0 none]).candidates = []
      ∧ (part [board0 .stranded .intact .intact .good 0 none]).candidates = [] := by decide

/-- The spindle whose tab it is, another spindle, and a late report. -/
theorem test_witness_cut_reports :
    (cutting.spindle .a).current.map (·.handle) = some ⟨1, 0, 0⟩ ∧ (cutting.tab ⟨1, 0, 0⟩).isSome = true
      ∧ (cutting.spindle .b).current = none
      ∧ ((part [board0 .cutting .suspect .intact .good 1 none]).tab ⟨1, 0, 0⟩).map (fun x => (x.state, x.lastSpindle))
          = some (.suspect, some .a)
      ∧ (lockedAt cutting).fault.locked = true ∧ ((lockedAt cutting).line .spindleA).held = none := by decide

/-- The watchdogs at their last ms, with a board TARGETED, HELD and FREE. -/
theorem test_witness_watchdogs :
    (cutting.spindle .a).watchdog = some 1 ∧ (carrying .targeted .intact .active).gripper.watchdog = some 1
      ∧ ((carrying .targeted .intact .active).board ⟨1, 0⟩).map (·.state) = some .targeted
      ∧ ((carrying .held .intact .atSlot).board ⟨1, 0⟩).map (·.state) = some .held
      ∧ ((carrying .free .cut .atSlot).board ⟨1, 0⟩).map (·.state) = some .free
      ∧ (carrying .free .cut .atSlot).causes.guardOpen = false := by decide

/-- Spindles idle and at work, STALLED and not, both gripper states, corners in order (also equal) and out of it. -/
theorem test_witness_stations :
    (cuttable.spindle .a).current = none ∧ (cutting.spindle .a).current ≠ none
      ∧ ((withA ⟨.stalled, none, 0, 1000000, none⟩ cuttable).spindle .a).state = .stalled
      ∧ ({ cuttable with gripper := ⟨.stalled, none, none⟩ } : State).gripper.state = .stalled
      ∧ cuttable.gripper.state = .ready ∧ (0 : Coord).toInt < (1 : Coord).toInt ∧ (5 : Coord).toInt ≤ (5 : Coord).toInt := by
  decide

/-- Reservations to make, to cancel and to fill. -/
theorem test_witness_reservations :
    ((carrying .free .cut .atSlot).board ⟨1, 0⟩).map (·.reservation) = some (some ⟨0, 0⟩)
      ∧ (carrying .free .cut .atSlot).bays[0].current
          = some (magazine 9 3 [.reserved ⟨1, 0⟩, .spanned 0, .spanned 0])
      ∧ 0 < (magazine 9 3 []).pitch ∧ ((carrying .free .cut .atSlot).panel 1).isSome = true := by decide

/-- Boards without a destination and with one, noted and not; a bay that accepts and one that does not; a board that fits, one
that finds no room and one that never fits; the three pick modes. -/
theorem test_witness_walk :
    (part []).destination (board1 .ready .cut .intact) = none ∧ (board1 .ready .cut .intact).notedNoDest = false
      ∧ (part []).destination (board0 .ready .cut .intact .good 0 none) = some 0
      ∧ (part []).bays[0].current = some (magazine 9 0 []) ∧ (part []).bays[0].confirm = none
      ∧ (withBay (stored .active (some ⟨0, 1⟩))).bays[0].confirm ≠ none ∧ (part []).bays[1].current = none
      ∧ spanOf 1600 7500 (magazine 9 0 []) = 3 ∧ (magazine 9 0 []).slots.length = 10 ∧ (magazine 9 8 []).fill + 3 > 10
      ∧ 8 < spanOf 1600 25000 { magazine 9 0 [] with pitch := 2000 } ∧ (part []).settings.pickMode = .fixed
      ∧ (part [board0 .ready .cut .intact .good 0 none]).pickCandidates = [⟨1, 0⟩] := by decide

/-- A pick under way, a STALLED gripper, a SUSPECT board with a reservation, a walk with a choice and one without. -/
theorem test_witness_next_pick :
    ((carrying .held .intact .atSlot).gripper.current = some ⟨1, 0⟩)
      ∧ (part [board0 .suspect .cut .intact .good 0 (some ⟨0, 0⟩)]).suspectReserved = true
      ∧ (∀ s, s = (part [board0 .ready .cut .intact .good 0 none]).received .gripper →
        s.suspectReserved = false
          ∧ (walkBays s.pickCandidates (setAside s s.pickCandidates) s.bayOrder).2.map (fun c => (c.board, c.bay, c.span))
            = some (⟨1, 0⟩, 0, 3))
      ∧ (∀ s, s = (part []).received .gripper →
        (walkBays s.pickCandidates (setAside s s.pickCandidates) s.bayOrder).2 = none) := by
  refine ⟨by decide, by decide, fun s h => ?_, fun s h => ?_⟩ <;> subst h <;> decide

/-- The gripper's board in each state with its release tab in each, and the bay at the reserved slot and not. -/
theorem test_witness_gripper_requests :
    (carrying .held .intact .atSlot).gripper.current ≠ some ⟨1, 1⟩
      ∧ (carrying .targeted .intact .active).gripper.current = some ⟨1, 0⟩
      ∧ (board0 .held .cut .intact .good 0 none).releaseState = some .intact
      ∧ (board0 .held .cut .assigned .good 0 none).releaseTab.map (fun jx => (jx.1, jx.2.state)) = some (1, .assigned)
      ∧ ((carrying .free .cut .atSlot).board ⟨1, 0⟩).map (fun b => (b.state, b.reservation)) = some (.free, some ⟨0, 0⟩)
      ∧ (carrying .free .cut .atSlot).bays[0].target = some 0 ∧ (carrying .free .cut .indexing).bays[0].state ≠ .atSlot := by
  decide

/-- A placed board with the sensor PRESENT and not, with a confirm time of 0 and not, and a window at its last ms. -/
theorem test_witness_placements :
    (magazine 9 3 [.occupied ⟨7201, 0, 3, .good⟩, .spanned 0, .spanned 0]).slots[0]? = some (.occupied ⟨7201, 0, 3, .good⟩)
      ∧ (withBay (stored .atSlot none)).bayLevel 0 = false
      ∧ ({ withBay (stored .atSlot none) with filters := State.reset.filters.set 3 ⟨true, 0⟩ } : State).bayLevel 0 = true
      ∧ (withBay (stored .atSlot (some ⟨0, 1⟩))).bays[0].confirm = some ⟨0, 1⟩
      ∧ (withBay (stored .atSlot none)).settings.confirmTime ≠ 0 := by decide

/-- A bay in each row of the poll table, with and without a pause, a staged magazine and room on the outgoing list. -/
theorem test_witness_bay_poll :
    (pausing (withBay (bay .indexWanted (some 0) (magazine 9 0 [])))).causes ≠ ⟨false, false, false⟩
      ∧ (withBay (acting .indexing .index)).bays[0].state = .indexing
      ∧ (withBay (acting .exchanging .exchange)).bays[0].state = .exchanging
      ∧ (withBay (staged (bay .full none (magazine 9 0 [])) true)).bays[0].go = true
      ∧ (withBay (staged Bay.cold false)).bays[0].go = false
      ∧ ¬ ((sent 4 (withBay (staged (bay .full none (magazine 9 0 [])) true))).outgoing.length < 4)
      ∧ (sent 3 (withBay (acting .exchanging .exchange))).outgoing.length + sendingOut (sent 3 (withBay
          (acting .exchanging .exchange))) = 4
      ∧ (part []).bays[0].state = .active := by decide

/-- The two actions outstanding, an exchange with and without a magazine to send out, timers at their last ms. -/
theorem test_witness_bay_actions :
    (withBay (acting .indexing .index)).bays[0].action = some .index
      ∧ (withBay (staged (acting .exchanging .exchange) true)).bays[0].next = some (magazine 4 0 [])
      ∧ (withBay (staged { acting .exchanging .exchange with current := none } true)).bays[0].current = none
      ∧ (withBay (acting .indexing .index)).bays[0].actionTimer = some 1
      ∧ (withBay { bay .settling (some 0) (magazine 9 0 []) with settleTimer := some 1 }).bays[0].settleTimer = some 1
      ∧ ({ part [] with settings := { State.reset.settings with settleTime := 0 } } : State).settings.settleTime = 0
      ∧ 3 < (4 : Byte).toNat := by decide

/-- Slot counts at their bounds, ids the part holds in each place, bays with and without a reservation, FAULTED ones. -/
theorem test_witness_bay_commands :
    (81 : Byte).toNat > 80 ∧ (1 : Byte).toNat ≤ 80 ∧ (withBay (staged (acting .exchanging .exchange) true)).bays[0].go = true
      ∧ (part []).bays[0].current.map (·.id) = some 9 ∧ (withBay (staged Bay.cold false)).bays[0].next.map (·.id) = some 4
      ∧ (magazine 1 0 []) ∈ (sent 1 (part [])).outgoing ∧ (part []).bays[0].next = none
      ∧ ((carrying .held .intact .atSlot).board ⟨1, 0⟩).map (·.reservation) = some (some ⟨0, 0⟩)
      ∧ (withBay (stored .active (some ⟨0, 1⟩))).bays[0].confirm ≠ none ∧ (part []).bays[0].confirm = none
      ∧ (part []).bays[0].state ≠ .faulted ∧ (withBay (bay .faulted none (magazine 9 0 []))).bays[0].state = .faulted
      ∧ (withBay { Bay.cold with state := .faulted }).bays[0].current = none
      ∧ (sent 4 (withBay (bay .faulted none (magazine 9 0 [])))).outgoing.length = 4 := by decide

/-- With no board on the panels nothing is reserved. -/
theorem test_witness_no_reservation (b : Fin 4) :
    ¬ ∃ h r x, (part []).board h = some x ∧ x.reservation = some r ∧ r.bay = b := by
  rintro ⟨⟨e, k⟩, r, x, hx, _⟩
  have none : ∀ e : Fin 4, (part []).boardsOf e = [] := by decide
  simp [State.board, none e] at hx

theorem test_witness_manifests :
    (sent 2 (part [])).outgoing = [] ++ magazine 1 0 [] :: [magazine 1 0 []] ∧ (∀ x ∈ (sent 2 (part [])).outgoing, x.id ≠ 4)
      ∧ (15 < (16 : Byte).toNat) ∧ ([3] : List Byte).length % 2 = 1 ∧ 32 < (List.replicate 34 (0 : Byte)).length
      ∧ (∀ p ∈ [((15 : Byte), (4 : Byte)), (3, 0)], p.1.toNat ≤ 15 ∧ p.2.toNat ≤ 4) := by
  refine ⟨rfl, by decide, by decide, by decide, by decide, by simp⟩

/-- A sample that is due and one that is not, levels that agree, differ, and differ long enough; one edge alone. -/
theorem test_witness_samples :
    (part []).sampleDue = false ∧ ({ part [] with sampleDue := true } : State).sampleDue = true
      ∧ (part []).filters[0] = ⟨false, 0⟩ ∧ 0 + 1 < (part []).settings.riseCount
      ∧ (part []).settings.riseCount ≤ (⟨false, 2⟩ : FilterRecord).run + 1
      ∧ (part []).mounted 1 = none ∧ (part []).mounted 0 = some 1 ∧ (cutting.tabsOf 1).isEmpty = false
      ∧ (withBay (stored .atSlot (some ⟨0, 1⟩))).bays[0].confirm ≠ none := by decide

/-- Two edges of one sample. -/
theorem test_two_edges_of_one_sample :
    let s : State := { withBay (stored .atSlot (some ⟨0, 9⟩)) with
      sampleDue := true, filters := ((Vector.replicate 7 ⟨false, 0⟩).set 0 ⟨false, 2⟩).set 3 ⟨false, 2⟩ }
    edges s.filters (sampleAll s.settings 0x09 s.filters) = [0, 3]
      ∧ ((([0, 3] : List (Fin 7)).foldl (fun v i => v.takeEdge i true) s).causes.guardOpen,
        (([0, 3] : List (Fin 7)).foldl (fun v i => v.takeEdge i true) s).bays[0].confirm) = (true, none) := by decide

/-- A pause with work in flight and without. -/
theorem test_witness_pauses :
    (pausing cutting).pauseState = .pausing ∧ (pausing (part [])).pauseState = .paused ∧ (part []).pauseState = .run
      ∧ (cutting.tab ⟨1, 0, 0⟩).map (·.state) = some .assigned := by decide

/-- A step that gives a tab to spindle B while spindle A works, outside its clearance. -/
theorem test_witness_apart :
    let s : State := { cutting with settings := { State.reset.settings with clearance := 40000 }, pending := [.nextTab .b] }
    (s.spindle .b).current = none ∧ (ran (.nextTab .b) { s with pending := [] }).map (fun t =>
      ((t.spindle .b).current.map (·.handle), (t.spindle .a).current.map (·.handle),
        (t.tab ⟨1, 1, 0⟩).map (fun x => (x.state, x.corrected)))) =
      some (some ⟨1, 1, 0⟩, some ⟨1, 0, 0⟩, some (.assigned, some ⟨70000, 20000⟩)) := by decide

/-- The one panel of the cutting sample. -/
theorem cutting_panel (e : Fin 4) (p : Panel) (h : cutting.panel e = some p) :
    e = 1 ∧ p = panel .aligned (some straight) [board0 .cutting .assigned .intact .good 1 none, board1 .cutting .intact .intact] := by
  have all : ∀ e : Fin 4, cutting.panel e = if e = 1 then some (panel .aligned (some straight)
    [board0 .cutting .assigned .intact .good 1 none, board1 .cutting .intact .intact]) else none := by decide
  rw [all] at h
  split at h
  · exact ⟨by assumption, (Option.some.inj h).symm⟩
  · cases h

/-- A state with work under way meets the premises of every invariant, and steps on. -/
theorem test_witness_panel_invariants :
    RunsMatchPanels cutting ∧ RecipesLoaded cutting ∧ OneMounted cutting ∧ CorrectionsMatch cutting := by
  refine ⟨?_, ?_, ?_, ?_⟩
  · intro e
    have idle : ∀ e : Fin 4, cutting.runs[e] = .idle := by decide
    refine ⟨fun h => absurd (idle e) h, ?_⟩
    rintro ⟨p, h, hp⟩
    obtain ⟨rfl, rfl⟩ := cutting_panel e p h
    cases hp
  · intro e p h
    obtain ⟨rfl, rfl⟩ := cutting_panel e p h
    decide
  · intro e₁ e₂ p₁ p₂ h₁ h₂ _ _ _
    rw [(cutting_panel e₁ p₁ h₁).1, (cutting_panel e₂ p₂ h₂).1]
  · intro e p h
    obtain ⟨rfl, rfl⟩ := cutting_panel e p h
    decide

theorem test_witness_other_invariants :
    GuardAgrees cutting ∧ LockdownStopped cutting ∧ SettingsInRange cutting ∧ LinesSound cutting ∧ BaysSound cutting := by
  refine ⟨by unfold GuardAgrees; decide, ?_, by unfold SettingsInRange; decide, ?_, ?_⟩
  · intro h
    cases h
  · unfold LinesSound
    refine ⟨by decide, by decide, by decide, ?_⟩
    intro l _
    cases l <;> decide
  · unfold BaysSound BaySound
    decide

theorem test_witness_interlocked : Interlocked cutting := by
  refine ⟨?_, ?_⟩
  · intro n r h
    have all : ∀ n : Fin 16, cutting.slots[n] = if n = 5 then some recipe else none := by decide
    rw [all] at h
    split at h
    · cases h
      decide
    · cases h
  · intro e p h
    obtain ⟨rfl, rfl⟩ := cutting_panel e p h
    unfold BoardInterlocked
    refine fun b hb => ⟨?_, fun hn => absurd rfl hn⟩
    revert b
    decide

end Sys2Proof.Tests
end

section
/-! Every step keeps the Panel Table sound (R17, R21, R22, R37). What the invariants read of the table is its outline: most
commands keep the outline, and those of the recipes, the panels, the alignment and the restarts are taken one by one. -/

namespace Sys2Proof.Machine

/-! ### The invariant, entry by entry -/

/-- What the invariants of the Panel Table ask of one entry and its run (R17, R22, R37). -/
def EntrySound (slots : Vector (Option Recipe) 16) (run : RunState) : Option Panel → Prop
  | none => run = .idle
  | some p => (run ≠ .idle ↔ p.state = .correcting) ∧ (slots[p.recipe]).isSome = true
      ∧ (p.correction.isSome = true ↔ p.state = .aligned ∨ p.state = .cleared)

/-- Every entry is sound, and at most one panel of a fixture is mounted (R21). -/
def PanelsSound (s : State) : Prop := (∀ e : Fin 4, EntrySound s.slots s.runs[e] (s.panel e)) ∧ OneMounted s

/-- The four invariants, taken entry by entry. -/
theorem panelsSound_iff (s : State) :
    PanelsSound s ↔ RunsMatchPanels s ∧ RecipesLoaded s ∧ OneMounted s ∧ CorrectionsMatch s := by
  constructor
  · rintro ⟨hentry, hone⟩
    refine ⟨fun e => ?_, fun e p hp => ?_, hone, fun e p hp => ?_⟩
    · have he := hentry e
      cases hp : s.panel e with
      | none => rw [hp] at he; simpa [EntrySound] using he
      | some p => rw [hp] at he; simpa using he.1
    · have he := hentry e
      rw [hp] at he
      exact he.2.1
    · have he := hentry e
      rw [hp] at he
      exact he.2.2
  · rintro ⟨hruns, hloaded, hone, hcorr⟩
    refine ⟨fun e => ?_, hone⟩
    cases hp : s.panel e with
    | none => simpa [EntrySound, hp] using hruns e
    | some p => exact ⟨by simpa [hp] using hruns e, hloaded e p hp, hcorr e p hp⟩

/-! ### The outline of the Panel Table -/

/-- What the invariants read of a panel: its records aside, and CLEARED taken with ALIGNED. -/
def Panel.outline (p : Panel) : Panel :=
  { p with boards := [], state := if p.state = .cleared then .aligned else p.state }

/-- The outlines of the four entries. -/
def outlines (v : Vector (Option Panel) 4) : Fin 4 → Option Panel := fun e => v[e].map Panel.outline

/-- The Recipe Store, the runs and the outlines of the panels are the same in two states. -/
def SamePanels (s t : State) : Prop := t.slots = s.slots ∧ t.runs = s.runs ∧ outlines t.panels = outlines s.panels

theorem SamePanels.refl (s : State) : SamePanels s s := ⟨rfl, rfl, rfl⟩

theorem SamePanels.trans {s t u : State} (h : SamePanels s t) (k : SamePanels t u) : SamePanels s u :=
  ⟨k.1.trans h.1, k.2.1.trans h.2.1, k.2.2.trans h.2.2⟩

/-- An entry is sound when its outline is. -/
theorem entrySound_outline (slots : Vector (Option Recipe) 16) (run : RunState) (p : Option Panel) :
    EntrySound slots run (p.map Panel.outline) ↔ EntrySound slots run p := by
  rcases p with _ | ⟨_, _, _, st, _, _, _⟩
  · rfl
  · cases st <;> simp [EntrySound, Panel.outline]

/-- A panel has its outline's fixture, and is QUEUED when its outline is. -/
@[simp] theorem outline_mount (p : Panel) :
    p.outline.fixture = p.fixture ∧ (p.outline.state = .queued ↔ p.state = .queued) := by
  obtain ⟨_, _, _, st, _, _, _⟩ := p
  cases st <;> simp [Panel.outline]

/-- The mounts of a table are read off its outlines. -/
theorem oneMounted_iff_outlines (s : State) : OneMounted s ↔
    ∀ e₁ e₂ p₁ p₂, outlines s.panels e₁ = some p₁ → outlines s.panels e₂ = some p₂ → p₁.fixture = p₂.fixture →
      p₁.state ≠ .queued → p₂.state ≠ .queued → e₁ = e₂ := by
  constructor
  · intro h e₁ e₂ p₁ p₂ h₁ h₂ hf hq₁ hq₂
    obtain ⟨q₁, hp₁, rfl⟩ := Option.map_eq_some_iff.1 h₁
    obtain ⟨q₂, hp₂, rfl⟩ := Option.map_eq_some_iff.1 h₂
    exact h e₁ e₂ q₁ q₂ hp₁ hp₂ (by simpa using hf) (by simpa using hq₁) (by simpa using hq₂)
  · intro h e₁ e₂ p₁ p₂ h₁ h₂ hf hq₁ hq₂
    exact h e₁ e₂ p₁.outline p₂.outline (congrArg _ h₁) (congrArg _ h₂) (by simpa using hf) (by simpa using hq₁)
      (by simpa using hq₂)

/-- What keeps the outline keeps the table sound. -/
theorem SamePanels.panelsSound {s t : State} (h : SamePanels s t) (hs : PanelsSound s) : PanelsSound t := by
  obtain ⟨hslots, hruns, hout⟩ := h
  refine ⟨fun e => ?_, ?_⟩
  · have he : (t.panel e).map Panel.outline = (s.panel e).map Panel.outline := congrFun hout e
    rw [← entrySound_outline, he, entrySound_outline, hslots, hruns]
    exact hs.1 e
  · rw [oneMounted_iff_outlines, hout, ← oneMounted_iff_outlines]
    exact hs.2

/-! ### The shared operations keep the outlines -/

/-- An entry written with a panel of the same outline. -/
theorem outlines_setPanel (s : State) (e : Fin 4) (p q : Panel) (hp : s.panel e = some p) (hq : q.outline = p.outline) :
    outlines (s.setPanel e (some q)).panels = outlines s.panels := by
  funext x
  change ((s.setPanel e (some q)).panel x).map Panel.outline = (s.panel x).map Panel.outline
  by_cases hx : e = x
  · subst hx
    rw [panel_setPanel, hp, Option.map_some, Option.map_some, hq]
  · rw [panel_setPanel_ne s e x _ hx]

@[simp] theorem outlines_modifyBoard (s : State) (h : BoardHandle) (f : BoardRecord → BoardRecord) :
    outlines (s.modifyBoard h f).panels = outlines s.panels := by
  unfold State.modifyBoard
  split
  · next p hp => exact outlines_setPanel s h.entry p _ hp rfl
  · rfl

@[simp] theorem outlines_clearingTest (s : State) (e : Fin 4) :
    outlines (s.clearingTest e).panels = outlines s.panels := by
  unfold State.clearingTest
  split
  · next p hp =>
    split
    · next hc =>
      simp only [raise_fields]
      exact outlines_setPanel s e p _ hp (by simp [Panel.outline, hc.1])
    · rfl
  · rfl

@[simp] theorem outlines_modifyTab (s : State) (h : TabHandle) (f : TabRecord → TabRecord) :
    outlines (s.modifyTab h f).panels = outlines s.panels := by
  simp [State.modifyTab]

@[simp] theorem outlines_setTabState (s : State) (h : TabHandle) (t : TabState) :
    outlines (s.setTabState h t).panels = outlines s.panels := by
  simp [State.setTabState]

@[simp] theorem outlines_setBoardState (s : State) (h : BoardHandle) (b : BoardState) :
    outlines (s.setBoardState h b).panels = outlines s.panels := by
  simp [State.setBoardState]

@[simp] theorem outlines_setBoardTerminal (s : State) (h : BoardHandle) (b : BoardState) :
    outlines (s.setBoardTerminal h b).panels = outlines s.panels := by
  simp [State.setBoardTerminal]

@[simp] theorem outlines_cutTab (s : State) (h : TabHandle) : outlines (s.cutTab h).panels = outlines s.panels := by
  unfold State.cutTab
  split <;> simp

@[simp] theorem outlines_cancelReservation (s : State) (h : BoardHandle) :
    outlines (s.cancelReservation h).panels = outlines s.panels := by
  unfold State.cancelReservation
  repeat' split
  all_goals simp

@[simp] theorem outlines_occupySlot (s : State) (h : BoardHandle) :
    outlines (s.occupySlot h).panels = outlines s.panels := by
  unfold State.occupySlot
  repeat' split
  all_goals simp

@[simp] theorem outlines_applyVerdict (s : State) (h : BoardHandle) (v : Verdict) :
    outlines (s.applyVerdict h v).panels = outlines s.panels := by
  unfold State.applyVerdict
  repeat' split
  all_goals simp

@[simp] theorem outlines_writeVerdict (s : State) (h : BoardHandle) (v : Verdict) :
    outlines (s.writeVerdict h v).panels = outlines s.panels := by
  simp [State.writeVerdict]

@[simp] theorem outlines_settleVerdict (s : State) (h : BoardHandle) (v : Verdict) :
    outlines (s.settleVerdict h v).panels = outlines s.panels := by
  unfold State.settleVerdict
  repeat' split
  all_goals simp

@[simp] theorem outlines_abandonPick (s : State) (h : BoardHandle) :
    outlines (s.abandonPick h).panels = outlines s.panels := by
  simp [State.abandonPick]

@[simp] theorem outlines_loseBoard (s : State) (h : BoardHandle) :
    outlines (s.loseBoard h).panels = outlines s.panels := by
  simp [State.loseBoard]

@[simp] theorem outlines_noteNoDest (s : State) (h : BoardHandle) :
    outlines (s.noteNoDest h).panels = outlines s.panels := by
  unfold State.noteNoDest
  repeat' split
  all_goals simp

@[simp] theorem outlines_noteUnfit (s : State) (h : BoardHandle) :
    outlines (s.noteUnfit h).panels = outlines s.panels := by
  unfold State.noteUnfit
  repeat' split
  all_goals simp

/-! ### Commands that keep the outlines: faults, verdicts and the resolutions -/

theorem samePanels_faultRead (s : State) : SamePanels s (faultRead s).1 := ⟨rfl, rfl, rfl⟩

theorem samePanels_faultAck (s : State) : SamePanels s (faultAck s).1 := ⟨rfl, rfl, rfl⟩

theorem samePanels_decideVerdict (entry site verdict : Byte) (s : State) :
    SamePanels s (decideVerdict entry site verdict s).1 := by
  simp only [decideVerdict]
  repeat' split
  all_goals simp [SamePanels]

theorem samePanels_tabResolve (entry site tab outcome : Byte) (s : State) :
    SamePanels s (tabResolve entry site tab outcome s).1 := by
  simp only [tabResolve]
  repeat' split
  all_goals simp [SamePanels]

theorem samePanels_boardResolve (entry site outcome : Byte) (s : State) :
    SamePanels s (boardResolve entry site outcome s).1 := by
  simp only [boardResolve]
  repeat' split
  all_goals simp [SamePanels]

theorem samePanels_boardRead (entry site : Byte) (s : State) : SamePanels s (boardRead entry site s).1 := by
  simp only [boardRead]
  repeat' split
  all_goals simp [SamePanels]

theorem samePanels_tabRead (entry site tab : Byte) (s : State) : SamePanels s (tabRead entry site tab s).1 := by
  simp only [tabRead]
  repeat' split
  all_goals simp [SamePanels]

/-! ### Commands that keep the outlines: the stations and the bays -/

theorem samePanels_bitChange (spindle : Byte) (lifeLimit startTotal : Word) (s : State) :
    SamePanels s (bitChange spindle lifeLimit startTotal s).1 := by
  simp only [bitChange]
  repeat' split
  all_goals simp [SamePanels]

theorem samePanels_stationClear (station : Byte) (s : State) : SamePanels s (stationClear station s).1 := by
  simp only [stationClear, clearSpindle, clearGripper]
  repeat' split
  all_goals simp [SamePanels]

theorem samePanels_zoneSet (zone : Byte) (low high : Point) (mode enable : Byte) (s : State) :
    SamePanels s (zoneSet zone low high mode enable s).1 := by
  simp only [zoneSet]
  repeat' split
  all_goals simp [SamePanels]

theorem samePanels_magStage (bay : Byte) (id : Word) (slots : Byte) (pitch clearance : Half) (s : State) :
    SamePanels s (magStage bay id slots pitch clearance s).1 := by
  simp only [magStage]
  repeat' split
  all_goals simp [SamePanels]

theorem samePanels_magGo (bay : Byte) (s : State) : SamePanels s (magGo bay s).1 := by
  simp only [magGo]
  repeat' split
  all_goals simp [SamePanels]

theorem samePanels_magUnstage (bay : Byte) (s : State) : SamePanels s (magUnstage bay s).1 := by
  simp only [magUnstage]
  repeat' split
  all_goals simp [SamePanels]

theorem samePanels_magRead (location first count : Byte) (s : State) :
    SamePanels s (magRead location first count s).1 := by
  simp only [magRead]
  repeat' split
  all_goals simp [SamePanels]

theorem samePanels_magRelease (id : Word) (s : State) : SamePanels s (magRelease id s).1 := by
  simp only [magRelease]
  repeat' split
  all_goals simp [SamePanels]

theorem samePanels_bayRoute (payload : List Byte) (s : State) : SamePanels s (bayRoute payload s).1 := by
  simp only [bayRoute]
  repeat' split
  all_goals simp [SamePanels]

theorem samePanels_bayExchange (bay : Byte) (s : State) : SamePanels s (bayExchange bay s).1 := by
  simp only [bayExchange]
  repeat' split
  all_goals simp [SamePanels]

theorem samePanels_bayClear (bay loaded : Byte) (s : State) : SamePanels s (bayClear bay loaded s).1 := by
  simp only [bayClear, clearBay]
  repeat' split
  all_goals simp [SamePanels]

/-! ### Commands that keep the outlines: the staging, the pause causes, the settings and the notices -/

theorem samePanels_panelRead (entry : Byte) (s : State) : SamePanels s (panelRead entry s).1 := by
  simp only [panelRead]
  repeat' split
  all_goals simp [SamePanels]

theorem samePanels_recipeBegin (payload : List Byte) (s : State) : SamePanels s (recipeBegin payload s).1 := by
  simp only [recipeBegin]
  repeat' split
  all_goals simp [SamePanels]

theorem samePanels_recipeSite (payload : List Byte) (s : State) : SamePanels s (recipeSite payload s).1 := by
  simp only [recipeSite]
  repeat' split
  all_goals simp [SamePanels]

theorem samePanels_recipeZone (payload : List Byte) (s : State) : SamePanels s (recipeZone payload s).1 := by
  simp only [recipeZone]
  repeat' split
  all_goals simp [SamePanels]

theorem samePanels_recipeEnd (s : State) : SamePanels s (recipeEnd s).1 := by
  simp only [recipeEnd]
  repeat' split
  all_goals simp [SamePanels]

theorem samePanels_recipeRead (number : Byte) (s : State) : SamePanels s (recipeRead number s).1 := by
  simp only [recipeRead]
  repeat' split
  all_goals simp [SamePanels]

theorem samePanels_pauseCommand (s : State) : SamePanels s (pauseCommand s).1 := ⟨rfl, rfl, rfl⟩

theorem samePanels_resumeCommand (s : State) : SamePanels s (resumeCommand s).1 := ⟨rfl, rfl, rfl⟩

theorem samePanels_configSet (item : Byte) (value : Word) (s : State) : SamePanels s (configSet item value s).1 := by
  simp only [configSet]
  repeat' split
  all_goals simp [SamePanels]

theorem samePanels_configRead (item : Byte) (s : State) : SamePanels s (configRead item s).1 := by
  simp only [configRead]
  repeat' split
  all_goals simp [SamePanels]

theorem samePanels_noticeRead (s : State) : SamePanels s (noticeRead s).1 := ⟨rfl, rfl, rfl⟩

theorem samePanels_noticeAct (a : NoticeAction) (mask : Word) (s : State) :
    SamePanels s (noticeAct a mask s).1 := ⟨rfl, rfl, rfl⟩

/-! ### Requests that keep the outlines -/

theorem samePanels_siteMark (entry site verdict : Byte) (s : State) :
    SamePanels s (siteMark entry site verdict s).1 := by
  simp only [siteMark, State.beginHold]
  repeat' split
  all_goals simp [SamePanels]

theorem samePanels_nextTab (sp : Spindle) (s : State) : SamePanels s (nextTab sp s).1 := by
  simp only [nextTab, State.wear, offerTab, assign]
  repeat' split
  all_goals simp [SamePanels]

theorem samePanels_tabDone (sp : Spindle) (entry site tab : Byte) (s : State) :
    SamePanels s (tabDone sp entry site tab s).1 := by
  simp only [tabDone, finishTab]
  repeat' split
  all_goals simp [SamePanels]

theorem samePanels_tabFault (sp : Spindle) (entry site tab reason : Byte) (s : State) :
    SamePanels s (tabFault sp entry site tab reason s).1 := by
  simp only [tabFault, failTab, State.loseTab]
  repeat' split
  all_goals simp [SamePanels]

theorem samePanels_spindleProgress (sp : Spindle) (s : State) :
    SamePanels s (spindleProgress sp s).1 := ⟨rfl, rfl, rfl⟩

theorem samePanels_gripperProgress (s : State) : SamePanels s (gripperProgress s).1 := ⟨rfl, rfl, rfl⟩

theorem samePanels_holdOn (entry site : Byte) (s : State) : SamePanels s (holdOn entry site s).1 := by
  simp only [holdOn]
  repeat' split
  all_goals simp [SamePanels]

theorem samePanels_placeCheck (entry site : Byte) (s : State) : SamePanels s (placeCheck entry site s).1 := by
  simp only [placeCheck]
  repeat' split
  all_goals simp [SamePanels]

theorem samePanels_placed (entry site bay slot : Byte) (s : State) :
    SamePanels s (placed entry site bay slot s).1 := by
  simp only [placed, placeBoard]
  repeat' split
  all_goals simp [SamePanels]

theorem samePanels_dropped (entry site : Byte) (s : State) : SamePanels s (dropped entry site s).1 := by
  simp only [dropped, dropBoard]
  repeat' split
  all_goals simp [SamePanels]

theorem samePanels_bayDoneIndex (bay ok : Byte) (s : State) : SamePanels s (bayDoneIndex bay ok s).1 := by
  simp only [bayDoneIndex, doneIndex]
  repeat' split
  all_goals simp [SamePanels]

theorem samePanels_bayDoneExchange (bay ok : Byte) (s : State) : SamePanels s (bayDoneExchange bay ok s).1 := by
  simp only [bayDoneExchange, doneExchange]
  repeat' split
  all_goals simp [SamePanels]

theorem samePanels_bayDoneOther (bay : Byte) (s : State) : SamePanels s (bayDoneOther bay s).1 := ⟨rfl, rfl, rfl⟩

theorem samePanels_pollBay (s : State) (b : Fin 4) : SamePanels s (pollBay s b).1 := by
  simp only [pollBay, State.giveAction]
  repeat' split
  all_goals simp [SamePanels]

/-- The bays are decided one after the other (R150). -/
theorem samePanels_pollAll (s : State) (bays : List (Fin 4)) : SamePanels s (pollAll s bays).1 := by
  induction bays generalizing s with
  | nil => exact .refl s
  | cons b rest ih => exact (samePanels_pollBay s b).trans (ih _)

theorem samePanels_bayPoll (s : State) : SamePanels s (bayPoll s).1 := samePanels_pollAll s bayNumbers

/-- The candidates are set aside one after the other (R126). -/
theorem samePanels_setAside (s : State) (cands : List BoardHandle) : SamePanels s (setAside s cands) := by
  induction cands generalizing s with
  | nil => exact .refl s
  | cons h rest ih =>
    refine SamePanels.trans ?_ (ih _)
    split <;> simp [SamePanels]

theorem samePanels_walkBay (b : Fin 4) (m : Magazine) (s : State) (cands : List BoardHandle) :
    SamePanels s (walkBay b m s cands).1 := by
  induction cands generalizing s with
  | nil => exact .refl s
  | cons h rest ih =>
    simp only [walkBay]
    split
    · exact ih s
    split
    · exact SamePanels.trans (by simp [SamePanels]) (ih _)
    split <;> simp [SamePanels, State.fillUp]

theorem samePanels_walkBays (cands : List BoardHandle) (s : State) (bays : List (Fin 4)) :
    SamePanels s (walkBays cands s bays).1 := by
  induction bays generalizing s with
  | nil => exact .refl s
  | cons b rest ih =>
    simp only [walkBays]
    split
    · exact ih s
    next m hm =>
      have hwalk := samePanels_walkBay b m s (cands.filter (fun h => decide (s.destinationOf h = some b)))
      split
      · next t c ht => rw [ht] at hwalk; exact hwalk
      · next t ht => rw [ht] at hwalk; exact hwalk.trans (ih t)

theorem samePanels_givePick (s : State) (c : Choice) (m : Magazine) : SamePanels s (givePick s c m).1 := by
  simp [givePick, SamePanels]

theorem samePanels_offerPick (s : State) : SamePanels s (offerPick s).1 := by
  have hwalk := (samePanels_setAside s s.pickCandidates).trans
    (samePanels_walkBays s.pickCandidates _ (setAside s s.pickCandidates).bayOrder)
  simp only [offerPick]
  split
  · next t c ht =>
    rw [ht] at hwalk
    split
    · exact hwalk.trans (samePanels_givePick t c _)
    · exact hwalk
  · next t ht => rw [ht] at hwalk; exact hwalk

theorem samePanels_nextPick (s : State) : SamePanels s (nextPick s).1 := by
  simp only [nextPick]
  repeat' split
  case h_2.isFalse.isFalse => exact samePanels_offerPick s
  all_goals exact .refl s

/-! ### Events inside the part that keep the outlines -/

theorem samePanels_expireHold (s : State) : SamePanels s (expireHold s) := by
  simp only [expireHold]
  repeat' split
  all_goals simp [SamePanels]

theorem samePanels_expireSpindle (sp : Spindle) (s : State) : SamePanels s (expireSpindle sp s) := by
  simp only [expireSpindle, State.loseTab]
  repeat' split
  all_goals simp [SamePanels]

theorem samePanels_expireGripper (s : State) : SamePanels s (expireGripper s) := by
  simp only [expireGripper, expireBoard]
  repeat' split
  all_goals simp [SamePanels]

theorem samePanels_expireAction (b : Fin 4) (s : State) : SamePanels s (expireAction b s) := by
  simp only [expireAction]
  split <;> simp [SamePanels]

theorem samePanels_expireSettle (b : Fin 4) (s : State) : SamePanels s (expireSettle b s) := by
  simp only [expireSettle]
  split <;> simp [SamePanels]

theorem samePanels_expireWindow (b : Fin 4) (s : State) : SamePanels s (expireWindow b s) := by
  simp only [expireWindow]
  repeat' split
  all_goals simp [SamePanels]

theorem samePanels_expireGap (l : LineId) (s : State) : SamePanels s (expireGap l s) := by
  simp only [expireGap]
  repeat' split
  all_goals simp [SamePanels]

theorem samePanels_endTransmission (l : LineId) (s : State) : SamePanels s (endTransmission l s) := by
  simp [endTransmission, SamePanels]

/-- Every edge goes to its block, and none writes the Panel Table (R164). -/
theorem samePanels_takeEdge (s : State) (i : Fin 7) (level : Bool) : SamePanels s (s.takeEdge i level) := by
  fin_cases i
  all_goals
    simp only [State.takeEdge, State.guardEdge, State.clampEdge, State.clampFalls, State.sensorEdge]
    repeat' split
    all_goals simp [SamePanels]

theorem samePanels_takeEdges (s : State) (after : Vector FilterRecord 7) (found : List (Fin 7)) :
    SamePanels s (s.takeEdges after found) := by
  induction found generalizing s with
  | nil => exact .refl s
  | cons i rest ih => exact (samePanels_takeEdge s i _).trans (ih _)

theorem samePanels_samplePins (raw : BitVec 7) (s : State) : SamePanels s (samplePins raw s) := by
  simp only [samplePins]
  split
  · exact SamePanels.trans ⟨rfl, rfl, rfl⟩ (samePanels_takeEdges _ _ _)
  · exact ⟨rfl, rfl, rfl⟩

theorem samePanels_tick (s : State) : SamePanels s (tick s) := by
  unfold tick
  split <;> exact ⟨rfl, rfl, rfl⟩

/-! ### The commands that change what the invariants read -/

/-- The other places of a written vector are unchanged. -/
theorem vector_set_ne {α : Type} {n : Nat} (v : Vector α n) (e x : Fin n) (a : α) (h : e ≠ x) : (v.set e a)[x] = v[x] := by
  have hv : e.val ≠ x.val := fun hv => h (Fin.ext hv)
  simp [hv]

/-- Only the LOADED slots and whether the run is RUNNING matter to an entry. -/
theorem EntrySound.mono {slots slots' : Vector (Option Recipe) 16} {run run' : RunState} {p : Option Panel}
    (h : EntrySound slots run p) (hrun : run' ≠ .idle ↔ run ≠ .idle)
    (hslots : ∀ q, p = some q → (slots[q.recipe]).isSome = true → (slots'[q.recipe]).isSome = true) :
    EntrySound slots' run' p := by
  cases p with
  | none => exact not_not.1 (mt hrun.1 (not_not.2 h))
  | some q => exact ⟨hrun.trans h.1, hslots q rfl h.2.1, h.2.2⟩

/-- A change of one entry and its run keeps the table sound when the entry stays sound and its panel is mounted alone. -/
theorem PanelsSound.of_entry {s t : State} (hs : PanelsSound s) (e : Fin 4) (hslots : t.slots = s.slots)
    (hruns : ∀ x, e ≠ x → t.runs[x] = s.runs[x]) (hpanels : ∀ x, e ≠ x → t.panel x = s.panel x)
    (he : EntrySound t.slots t.runs[e] (t.panel e))
    (hmount : ∀ p, t.panel e = some p → p.state ≠ .queued →
      ∀ x q, e ≠ x → s.panel x = some q → q.fixture = p.fixture → q.state = .queued) : PanelsSound t := by
  refine ⟨fun x => ?_, fun x y p q hp hq hf hp' hq' => ?_⟩
  · by_cases hx : e = x
    · exact hx ▸ he
    · rw [hslots, hruns x hx, hpanels x hx]
      exact hs.1 x
  · by_cases hx : e = x <;> by_cases hy : e = y
    · exact hx ▸ hy
    · subst hx
      exact absurd (hmount p hp hp' y q hy (hpanels y hy ▸ hq) hf.symm) hq'
    · subst hy
      exact absurd (hmount q hq hq' x p hx (hpanels x hx ▸ hp) hf) hp'
    · exact hs.2 x y p q (hpanels x hx ▸ hp) (hpanels y hy ▸ hq) hf hp' hq'

/-- A mounted panel is alone on its fixture: the others there are QUEUED (R21). -/
theorem OneMounted.others_queued {s : State} (h : OneMounted s) {e : Fin 4} {p : Panel} (hp : s.panel e = some p)
    (hq : p.state ≠ .queued) : ∀ x q, e ≠ x → s.panel x = some q → q.fixture = p.fixture → q.state = .queued := by
  intro x q hx hqx hf
  by_contra hn
  exact hx (h e x p q hp hqx hf.symm hq hn)

/-- No panel of a fixture is mounted: every one there is QUEUED (R21). -/
theorem queued_of_mounted_none {s : State} {f : Fin 2} (h : s.mounted f = none) (x : Fin 4) (q : Panel)
    (hq : s.panel x = some q) (hf : q.fixture = f) : q.state = .queued := by
  have hx := List.find?_eq_none.1 h x (by fin_cases x <;> simp [entries])
  simpa [hq, hf] using hx

/-- A number not in use is no live panel's (R17). -/
theorem recipe_ne_of_inUse_zero {s : State} {n : Fin 16} (h : s.inUse n = 0) (e : Fin 4) (p : Panel)
    (hp : s.panel e = some p) : p.recipe ≠ n := by
  have hx := List.filter_eq_nil_iff.1 (List.length_eq_zero_iff.1 h) e (by fin_cases e <;> simp [entries])
  simpa [hp] using hx

/-- RECIPE-DROP empties a slot no live panel was admitted with (R15, R17). -/
theorem recipeDrop_panelsSound (number : Byte) (s : State) (h :
    PanelsSound s) : PanelsSound (recipeDrop number s).1 := by
  unfold recipeDrop
  split
  · exact h
  next n hn =>
    split
    · exact h
    next hu =>
      refine ⟨fun e => (h.1 e).mono Iff.rfl fun q hq hl => ?_, h.2⟩
      have hne : n ≠ q.recipe := (recipe_ne_of_inUse_zero (not_not.1 hu) e q hq).symm
      exact (vector_set_ne s.slots n q.recipe none hne).symm ▸ hl

/-- The end of a validation loads a slot or leaves the slots (R13, R14). -/
theorem endValidation_panelsSound (s : State) (h : PanelsSound s) : PanelsSound (endValidation s) := by
  unfold endValidation
  split
  · next n r hr =>
    split
    · next q hv =>
      refine ⟨fun e => (h.1 e).mono Iff.rfl fun p _ hl => ?_, h.2⟩
      change ((s.slots.set n (some q))[p.recipe]).isSome = true
      by_cases hn : n = p.recipe
      · simp [hn]
      · exact (vector_set_ne s.slots n p.recipe _ hn).symm ▸ hl
    · exact h
  · exact h
  · exact h

/-- An admitted panel takes a FREE entry: QUEUED behind a mounted panel, ALIGNING on an empty fixture (R25). -/
theorem admitInto_panelsSound (s : State) (e : Fin 4) (id : Word) (n : Fin 16) (f : Fin 2) (r : Recipe) (h :
    PanelsSound s)
    (hfree : s.panel e = none) (hloaded : s.slots[n] = some r) : PanelsSound (admitInto s e id n f r).1 := by
  have hidle : s.runs[e] = .idle := by simpa [EntrySound, hfree] using h.1 e
  refine h.of_entry e rfl (fun _ _ => rfl) (fun x hx => panel_setPanel_ne s e x _ hx) ?_ ?_
  · change EntrySound s.slots s.runs[e] ((s.setPanel e (some _)).panel e)
    rw [panel_setPanel, hidle]
    by_cases hm : (s.mounted f).isSome <;> simp [EntrySound, hm, hloaded]
  · intro p hp hq x q _ hx hf
    obtain rfl := Option.some.inj ((panel_setPanel s e _).symm.trans hp)
    refine queued_of_mounted_none ?_ x q hx hf
    by_contra hm
    exact hq (if_pos (Option.isSome_iff_ne_none.2 hm))

/-- The store offers a LOADED slot alone (R17). -/
theorem slot_of_offered {s : State} {n : Fin 16} {r : Recipe} (h : s.offered n = some r) : s.slots[n] = some r := by
  unfold State.offered at h
  split at h
  · cases h
  · exact h

/-- The entry PANEL-ADMIT takes is FREE (R25). -/
theorem panel_of_freeEntry {s : State} {e : Fin 4} (h : s.freeEntry = some e) : s.panel e = none := by
  simpa using List.find?_some h

theorem panelAdmit_panelsSound (id : Word) (recipe fixture : Byte) (s : State) (h : PanelsSound s) :
    PanelsSound (panelAdmit id recipe fixture s).1 := by
  unfold panelAdmit
  split
  · exact h
  · exact h
  split
  · exact h
  next r hr =>
    split
    · exact h
    split
    · exact h
    split
    · exact h
    next e he => exact admitInto_panelsSound s e id _ _ r h (panel_of_freeEntry he) (slot_of_offered hr)

/-- The queued panel of an empty fixture begins ALIGNING (R30). -/
theorem advanceQueue_panelsSound (s : State) (f : Fin 2) (h : PanelsSound s) : PanelsSound (s.advanceQueue f) := by
  unfold State.advanceQueue
  split
  · exact h
  next hm =>
    have hnone : s.mounted f = none := by simpa using hm
    split
    · exact h
    next e rest he =>
      split
      · next p hp =>
        have hfix : p.fixture = f := by
          have hmem : e ∈ s.onFixture f := by simp [he]
          simpa [State.onFixture, hp] using (List.mem_filter.1 hmem).2
        have hqueued : p.state = .queued := queued_of_mounted_none hnone e p hp hfix
        have hentry := h.1 e
        simp only [hp, EntrySound, hqueued] at hentry
        refine h.of_entry e rfl (fun _ _ => rfl) (fun x hx => panel_setPanel_ne s e x _ hx) ?_ ?_
        · simpa [EntrySound] using hentry
        · intro q hq _ x y _ hy hyf
          obtain rfl := Option.some.inj ((panel_setPanel s e _).symm.trans hq)
          exact queued_of_mounted_none hnone x y hy (hyf.trans hfix)
      · exact h

/-- A retired entry is FREE and its run IDLE (R29, R52). -/
theorem retire_panelsSound (s : State) (e : Fin 4) (f : Fin 2) (h : PanelsSound s) : PanelsSound (retire s e f) := by
  refine advanceQueue_panelsSound _ f (h.of_entry e rfl (fun x hx => vector_set_ne _ e x _ hx)
    (fun x hx => panel_setPanel_ne s e x none hx) ?_ ?_)
  · change EntrySound s.slots (s.runs.set e .idle)[e] ((s.setPanel e none).panel e)
    simp [EntrySound]
  · intro p hp
    exact absurd ((panel_setPanel s e none).symm.trans hp) (by simp)

theorem panelRetire_panelsSound (entry force : Byte) (s : State) (h : PanelsSound s) :
    PanelsSound (panelRetire entry force s).1 := by
  unfold panelRetire
  split
  · exact h
  next e he =>
    split
    · exact h
    next p hp =>
      split
      · exact h
      · exact retire_panelsSound s e p.fixture h

/-! ### The alignment (R38 to R49) -/

/-- An accepted FIDUCIAL of an ALIGNING panel (R43). -/
theorem acceptFiducial_panelsSound (s : State) (e : Fin 4) (p : Panel) (r : Recipe) (c sn : Int) (f1m : Point)
    (h : PanelsSound s) (hp : s.panel e = some p) (hst : p.state = .aligning) :
    PanelsSound (acceptFiducial s e p r c sn f1m) := by
  have hentry := h.1 e
  simp only [hp, EntrySound, hst] at hentry
  refine h.of_entry e rfl (fun x hx => vector_set_ne _ e x _ hx) (fun x hx => panel_setPanel_ne s e x _ hx) ?_ ?_
  · change EntrySound s.slots (s.runs.set e (.running _))[e] ((s.setPanel e (some _)).panel e)
    rw [panel_setPanel]
    simpa [EntrySound] using hentry.2
  · intro q hq _
    obtain rfl := Option.some.inj ((panel_setPanel s e _).symm.trans hq)
    exact h.2.others_queued (p := p) hp (by simp [hst])

theorem checkFiducial_panelsSound (s : State) (e : Fin 4) (p : Panel) (r : Recipe) (f1m f2m : Point)
    (h : PanelsSound s) (hp : s.panel e = some p) (hst : p.state = .aligning) :
    PanelsSound (checkFiducial s e p r f1m f2m).1 := by
  simp only [checkFiducial, rejectRange]
  repeat' split
  case isFalse.isFalse.isFalse.isFalse => exact acceptFiducial_panelsSound s e p r _ _ f1m h hp hst
  all_goals exact SamePanels.panelsSound (by simp [SamePanels]) h

theorem fiducial_panelsSound (entry : Byte) (f1m f2m : Point) (s : State) (h : PanelsSound s) :
    PanelsSound (fiducial entry f1m f2m s).1 := by
  unfold fiducial
  split
  · exact h
  next e he =>
    split
    · exact h
    next p hp =>
      split
      · exact h
      split
      · exact h
      next hst =>
        split
        · exact h
        split
        · exact h
        next r hr => exact checkFiducial_panelsSound s e p r f1m f2m h hp (not_not.1 hst)

/-- The panel of an active run is CORRECTING and its run RUNNING (R37). -/
theorem activeRun_spec {s : State} {e : Fin 4} {v : RunValues} {p : Panel} {r : Recipe}
    (h : s.activeRun e = some (v, p, r)) : s.runs[e] = .running v ∧ s.panel e = some p ∧ p.state = .correcting := by
  unfold State.activeRun at h
  split at h
  · next w q hw hq =>
    split at h
    · next hst =>
      obtain ⟨r', hr', he⟩ := Option.map_eq_some_iff.1 h
      simp only [Prod.mk.injEq] at he
      obtain ⟨rfl, rfl, rfl⟩ := he
      exact ⟨hw, hq, hst⟩
    · cases h
  · cases h
  · cases h

/-- A run that goes on keeps the table sound (R45). -/
theorem setRun_panelsSound {s : State} {e : Fin 4} {v : RunValues} (w : RunValues) (h : PanelsSound s)
    (hrun : s.runs[e] = .running v) : PanelsSound (s.setRun e w) := by
  refine ⟨fun x => (h.1 x).mono ?_ fun _ _ hl => hl, h.2⟩
  change (s.runs.set e (.running w))[x] ≠ .idle ↔ _
  by_cases hx : e = x
  · subst hx
    simp [hrun]
  · rw [vector_set_ne _ e x _ hx]

theorem modifyBoard_panelsSound (s : State) (h : BoardHandle) (f : BoardRecord → BoardRecord) (hs : PanelsSound s) :
    PanelsSound (s.modifyBoard h f) :=
  SamePanels.panelsSound (by simp [SamePanels]) hs

theorem visitZone_panelsSound (e : Fin 4) (s : State) (h : PanelsSound s) : PanelsSound (visitZone e s) := by
  unfold visitZone
  split
  · next v p r ha =>
    split
    case h_1 => split <;> exact setRun_panelsSound _ h (activeRun_spec ha).1
    all_goals exact h
  · exact h

theorem visitPickPoint_panelsSound (e : Fin 4) (s : State) (h :
    PanelsSound s) : PanelsSound (visitPickPoint e s) := by
  unfold visitPickPoint
  split
  · next v p r ha =>
    split
    case h_1 =>
      exact setRun_panelsSound (v := v) _ (modifyBoard_panelsSound _ _ _ h) (by simpa using (activeRun_spec ha).1)
    all_goals exact h
  · exact h

theorem visitTab_panelsSound (e : Fin 4) (s : State) (h : PanelsSound s) : PanelsSound (visitTab e s) := by
  unfold visitTab
  split
  · next v p r ha =>
    split
    case h_1 =>
      exact setRun_panelsSound (v := v) _ (modifyBoard_panelsSound _ _ _ h) (by simpa using (activeRun_spec ha).1)
    all_goals exact h
  · exact h

/-- A panel at the end of its correction run (R49). -/
def Panel.aligned (p : Panel) (v : RunValues) : Panel :=
  { p with boards := p.boards.map strandBoard, correction := some ⟨v.c, v.s, v.f1m⟩, state := .aligned }

/-- The run's entry at its end: ALIGNED with its correction record, the run IDLE (R49). -/
theorem endRun_panelsSound (e : Fin 4) (s : State) (h : PanelsSound s) : PanelsSound (endRun e s) := by
  unfold endRun
  split
  · next v p r ha =>
    obtain ⟨_, hp, hst⟩ := activeRun_spec ha
    have hloaded := h.1 e
    rw [hp] at hloaded
    split
    · have hset : PanelsSound { s.setPanel e (some (p.aligned v)) with runs := s.runs.set e .idle } := by
        refine h.of_entry e rfl (fun x hx => vector_set_ne _ e x _ hx) (fun x hx => panel_setPanel_ne s e x _ hx) ?_ ?_
        · change EntrySound s.slots (s.runs.set e .idle)[e] ((s.setPanel e (some (p.aligned v))).panel e)
          rw [panel_setPanel]
          exact ⟨by simp [Panel.aligned], hloaded.2.1, by simp [Panel.aligned]⟩
        · intro p' hp' _
          obtain rfl := Option.some.inj ((panel_setPanel s e _).symm.trans hp')
          exact h.2.others_queued (p := p) hp (by simp [hst])
      refine SamePanels.panelsSound ?_ hset
      simp only [SamePanels, clearingTest_fields, outlines_clearingTest]
      split <;> simp [Panel.aligned]
    · exact h
  · exact h

/-! ### The restarts (R184, R185) -/

/-- A cold restart leaves every entry FREE and every run IDLE (R36, R54). -/
theorem coldValues_panelsSound (s : State) : PanelsSound (coldValues s) := by
  have hpanel : ∀ e, (coldValues s).panel e = none := fun e => by simp [State.panel, coldValues, State.reset]
  refine ⟨fun e => ?_, fun e₁ e₂ p₁ p₂ h₁ => ?_⟩
  · rw [hpanel]
    simp [EntrySound, coldValues, State.reset]
  · simp [hpanel] at h₁

theorem samePanels_cancelTargeted (s : State) : SamePanels s s.cancelTargeted := by
  unfold State.cancelTargeted
  induction s.targetedBoards generalizing s with
  | nil => exact .refl s
  | cons h rest ih => exact SamePanels.trans (by simp [SamePanels]) (ih _)

/-- The bays of a warm restart: reservations and bay records alone (R140, R162). -/
theorem samePanels_warmBays (s : State) : SamePanels s s.warmBays := by
  refine (samePanels_cancelTargeted s).trans ?_
  simp [State.warmBays, bayNumbers, SamePanels]

/-- A warm restart leaves a panel on its fixture, and QUEUED or mounted as it was (R36). -/
theorem Panel.mount_warm (p : Panel) :
    p.warm.fixture = p.fixture ∧ (p.warm.state = .queued ↔ p.state = .queued) := by
  unfold Panel.warm
  split <;> simp_all

/-- An entry after a warm restart: its run is IDLE, and a panel that was CORRECTING is ALIGNING again (R53). -/
theorem entrySound_warm {slots : Vector (Option Recipe) 16} {run : RunState} {p : Option Panel}
    (h : EntrySound slots run p) : EntrySound slots .idle (p.map Panel.warm) := by
  cases p with
  | none => rfl
  | some p =>
    obtain ⟨_, hl, hc⟩ := h
    by_cases hst : p.state = .correcting
    · exact ⟨by simp [Panel.warm, hst], by simpa [Panel.warm, hst] using hl, by simp [Panel.warm, hst]⟩
    · exact ⟨by simp [Panel.warm, hst], by simpa [Panel.warm, hst] using hl, by simpa [Panel.warm, hst] using hc⟩

theorem warmPanels_panelsSound (s : State) (h : PanelsSound s) : PanelsSound s.warmPanels := by
  have hpanel : ∀ e, s.warmPanels.panel e = (s.panel e).map Panel.warm := fun e => by
    simp [State.panel, State.warmPanels]
  have hrun : ∀ e : Fin 4, s.warmPanels.runs[e] = .idle := fun e => by simp [State.warmPanels]
  refine ⟨fun e => ?_, fun e₁ e₂ p₁ p₂ h₁ h₂ hf hq₁ hq₂ => ?_⟩
  · rw [hpanel, hrun]
    exact entrySound_warm (h.1 e)
  · rw [hpanel] at h₁ h₂
    obtain ⟨q₁, hp₁, rfl⟩ := Option.map_eq_some_iff.1 h₁
    obtain ⟨q₂, hp₂, rfl⟩ := Option.map_eq_some_iff.1 h₂
    simp only [Panel.mount_warm, ne_eq] at hf hq₁ hq₂
    exact h.2 e₁ e₂ q₁ q₂ hp₁ hp₂ hf hq₁ hq₂

theorem warmRestart_panelsSound (s : State) (h : PanelsSound s) : PanelsSound (warmRestart s) :=
  SamePanels.panelsSound (s := s.warmBays.warmPanels) ⟨rfl, rfl, rfl⟩
    (warmPanels_panelsSound _ ((samePanels_warmBays s).panelsSound h))

theorem panelsSound_restartWarm (s : State) (h : PanelsSound s) : PanelsSound (restartWarm s).1 := by
  unfold restartWarm
  split
  · exact h
  · exact warmRestart_panelsSound s h

theorem restartCold_panelsSound (s : State) : PanelsSound (restartCold s).1 :=
  SamePanels.panelsSound (s := coldValues s) ⟨rfl, rfl, rfl⟩ (coldValues_panelsSound s)

/-! ### Arrivals -/

/-- A command at its owning block keeps the table sound. -/
def CommandKeepsPanels (c : Command) : Prop := ∀ s, PanelsSound s → PanelsSound (c s).1

/-- A request at its owning block keeps the table sound. -/
def RequestKeepsPanels (r : Request) : Prop := ∀ s, PanelsSound s → PanelsSound (r s).1

theorem acceptFrame_panelsSound (s : State) (name : CommandName) (command : Option Command)
    (hc : ∀ c, command = some c → CommandKeepsPanels c) (h :
    PanelsSound s) : PanelsSound (s.acceptFrame name command) := by
  simp only [State.acceptFrame]
  split
  · exact h
  split
  · next c =>
    have hcmd := hc c rfl _ (show PanelsSound { s with ovr := false } from h)
    unfold State.deliver
    split
    · next t a ht => rw [ht] at hcmd; exact hcmd
    · next t ht => rw [ht] at hcmd; exact hcmd
  · exact h

theorem takeCommandOr_panelsSound (s : State) (name : CommandName) (command : Option Command)
    (hc : ∀ c, command = some c → CommandKeepsPanels c) (h :
    PanelsSound s) : PanelsSound (s.takeCommandOr name command) := by
  unfold State.takeCommandOr
  split
  · exact h
  split
  · exact h
  · exact acceptFrame_panelsSound s name command hc h

theorem takeCommand_panelsSound (s : State) (name : CommandName) {command : Command} (hc : CommandKeepsPanels command)
    (h : PanelsSound s) : PanelsSound (s.takeCommand name command) :=
  takeCommandOr_panelsSound s name _ (fun _ he => Option.some.inj he ▸ hc) h

/-- A command that leaves the outlines of the table. -/
theorem takeCommand_samePanels (s : State) (name : CommandName) {command : Command} (hc : ∀ t, SamePanels t (command t).1)
    (h : PanelsSound s) : PanelsSound (s.takeCommand name command) :=
  takeCommand_panelsSound s name (fun t => (hc t).panelsSound) h

theorem sendAnswer_panelsSound (s : State) (l : LineId) (f : Frame) (h :
    PanelsSound s) : PanelsSound (s.sendAnswer l f) :=
  SamePanels.panelsSound (by simp [SamePanels]) h

theorem examine_panelsSound (s : State) (l : LineId) (code : Byte) {request : Request} (hr :
    RequestKeepsPanels request)
    (h : PanelsSound s) : PanelsSound (s.examine l code request) := by
  have hreq := hr _ (SamePanels.panelsSound (t := s.reloadWatchdog l) (by simp [SamePanels]) h)
  unfold State.examine
  split
  · exact h
  split
  · exact sendAnswer_panelsSound _ _ _ h
  split
  · exact sendAnswer_panelsSound _ _ _ h
  split
  · next t r ht => rw [ht] at hreq; exact sendAnswer_panelsSound _ _ _ hreq
  · next t ht => rw [ht] at hreq; exact hreq

theorem frameComplete_panelsSound (s : State) (l : LineId) (h : PanelsSound s) : PanelsSound (s.frameComplete l) :=
  SamePanels.panelsSound (by simp [SamePanels]) h

theorem answerUnknown_panelsSound (s : State) (l : LineId) (code : Byte) (h : PanelsSound s) :
    PanelsSound (s.answerUnknown l code) :=
  SamePanels.panelsSound (by simp [SamePanels]) h

theorem takeRequest_panelsSound (s : State) (l : LineId) (name : RequestName) {request : Request} (hr :
    RequestKeepsPanels request)
    (h : PanelsSound s) : PanelsSound (s.takeRequest l name request) := by
  unfold State.takeRequest
  split
  · exact h
  · exact examine_panelsSound _ l _ hr (frameComplete_panelsSound s l h)

theorem takeRequest_samePanels (s : State) (l : LineId) (name : RequestName) {request : Request}
    (hr : ∀ t, SamePanels t (request t).1) (h : PanelsSound s) : PanelsSound (s.takeRequest l name request) :=
  takeRequest_panelsSound s l name (fun t => (hr t).panelsSound) h

theorem takeEvent_panelsSound (s : State) {event : State → State} (he : ∀ t, PanelsSound t → PanelsSound (event t))
    (h : PanelsSound s) : PanelsSound (s.takeEvent event) := by
  unfold State.takeEvent
  split
  · exact h
  · exact he s h

theorem takeEvent_samePanels (s : State) {event : State → State} (he : ∀ t, SamePanels t (event t)) (h :
    PanelsSound s) :
    PanelsSound (s.takeEvent event) :=
  takeEvent_panelsSound s (fun t => (he t).panelsSound) h

/-- Every request code with its fields, at its owning block. -/
theorem requestBlock_panelsSound (l : LineId) (name : RequestName) (f : List Byte) :
    RequestKeepsPanels (requestBlock l name f) := by
  have spindle : ∀ r : Spindle → Request, (∀ sp s, SamePanels s (r sp s).1) → RequestKeepsPanels (onSpindle l r) := by
    intro r hr s
    cases l
    case spindleA => exact (hr .a s).panelsSound
    case spindleB => exact (hr .b s).panelsSound
    all_goals exact id
  cases name with
  | nextTab => exact spindle _ samePanels_nextTab
  | tabDone => exact spindle _ fun sp => samePanels_tabDone sp _ _ _
  | tabFault => exact spindle _ fun sp => samePanels_tabFault sp _ _ _ _
  | progress =>
    intro s
    cases l
    case spindleA => exact (samePanels_spindleProgress .a s).panelsSound
    case spindleB => exact (samePanels_spindleProgress .b s).panelsSound
    case gripper => exact (samePanels_gripperProgress s).panelsSound
    all_goals exact id
  | nextPick => exact fun s => (samePanels_nextPick s).panelsSound
  | holdOn => exact fun s => (samePanels_holdOn _ _ s).panelsSound
  | placeCheck => exact fun s => (samePanels_placeCheck _ _ s).panelsSound
  | placed => exact fun s => (samePanels_placed _ _ _ _ s).panelsSound
  | dropped => exact fun s => (samePanels_dropped _ _ s).panelsSound
  | fiducial => exact fiducial_panelsSound _ _ _
  | siteMark => exact fun s => (samePanels_siteMark _ _ _ s).panelsSound
  | bayPoll => exact fun s => (samePanels_bayPoll s).panelsSound
  | bayDone =>
    intro s
    change PanelsSound s → PanelsSound (bayDone _ _ _ s).1
    unfold bayDone
    split
    · exact (samePanels_bayDoneIndex _ _ s).panelsSound
    split
    · exact (samePanels_bayDoneExchange _ _ s).panelsSound
    · exact (samePanels_bayDoneOther _ s).panelsSound

theorem frameArrives_panelsSound (l : LineId) (bytes : List Byte) (s : State) (h : PanelsSound s) :
    PanelsSound (frameArrives l bytes s) := by
  have hf := frameComplete_panelsSound s l h
  unfold frameArrives
  split
  · unfold State.examineBytes
    split
    · split
      · exact hf
      split
      · exact answerUnknown_panelsSound _ _ _ hf
      split
      · exact hf
      · exact examine_panelsSound _ l _ (requestBlock_panelsSound l _ _) hf
    · exact hf
    · exact hf
  · exact h

theorem receiveByte_panelsSound (l : LineId) (byte : Byte) (framingError : Bool) (s : State) (h : PanelsSound s) :
    PanelsSound (receiveByte l byte framingError s) := by
  have hdrop : PanelsSound (s.dropFrame l) := SamePanels.panelsSound (by simp [SamePanels]) h
  have hline : ∀ r, PanelsSound (s.setLine l r) := fun r => SamePanels.panelsSound (by simp [SamePanels]) h
  simp only [receiveByte]
  split
  · split
    · exact hline _
    · exact h
  · split
    · exact hdrop
    · exact hline _
  · split
    · exact hdrop
    split
    · exact frameArrives_panelsSound l _ s h
    · exact hline _

theorem restart_panelsSound (form : Byte) : CommandKeepsPanels (restart form) := by
  intro s h
  unfold restart
  split
  · exact panelsSound_restartWarm s h
  split
  · exact restartCold_panelsSound s
  · exact h

theorem samePanels_noticeWrite (action : Byte) (mask : Word) (s : State) :
    SamePanels s (noticeWrite action mask s).1 := by
  unfold noticeWrite
  split
  · exact samePanels_noticeAct _ mask s
  · exact .refl s

/-- Every command with its payload, at its owning block. -/
theorem commandOn_panelsSound (name : CommandName) (p : List Byte) : CommandKeepsPanels (commandOn name p) := by
  intro s
  cases name with
  | recipeBegin => exact (samePanels_recipeBegin _ s).panelsSound
  | recipeSite => exact (samePanels_recipeSite _ s).panelsSound
  | recipeZone => exact (samePanels_recipeZone _ s).panelsSound
  | recipeEnd => exact (samePanels_recipeEnd s).panelsSound
  | recipeDrop => exact recipeDrop_panelsSound _ s
  | recipeRead => exact (samePanels_recipeRead _ s).panelsSound
  | panelAdmit => exact panelAdmit_panelsSound _ _ _ s
  | panelRetire => exact panelRetire_panelsSound _ _ s
  | panelRead => exact (samePanels_panelRead _ s).panelsSound
  | boardRead => exact (samePanels_boardRead _ _ s).panelsSound
  | tabRead => exact (samePanels_tabRead _ _ _ s).panelsSound
  | decide => exact (samePanels_decideVerdict _ _ _ s).panelsSound
  | tabResolve => exact (samePanels_tabResolve _ _ _ _ s).panelsSound
  | boardResolve => exact (samePanels_boardResolve _ _ _ s).panelsSound
  | bitChange => exact (samePanels_bitChange _ _ _ s).panelsSound
  | stationClear => exact (samePanels_stationClear _ s).panelsSound
  | zoneSet => exact (samePanels_zoneSet _ _ _ _ _ s).panelsSound
  | magStage => exact (samePanels_magStage _ _ _ _ _ s).panelsSound
  | magGo => exact (samePanels_magGo _ s).panelsSound
  | magUnstage => exact (samePanels_magUnstage _ s).panelsSound
  | magRead => exact (samePanels_magRead _ _ _ s).panelsSound
  | magRelease => exact (samePanels_magRelease _ s).panelsSound
  | bayRoute => exact (samePanels_bayRoute _ s).panelsSound
  | bayExchange => exact (samePanels_bayExchange _ s).panelsSound
  | bayClear => exact (samePanels_bayClear _ _ s).panelsSound
  | pause => exact (samePanels_pauseCommand s).panelsSound
  | resume => exact (samePanels_resumeCommand s).panelsSound
  | restart => exact restart_panelsSound _ s
  | configSet => exact (samePanels_configSet _ _ s).panelsSound
  | configRead => exact (samePanels_configRead _ s).panelsSound
  | noticeRead => exact (samePanels_noticeRead s).panelsSound
  | noticeWrite => exact (samePanels_noticeWrite _ _ s).panelsSound
  | faultRead => exact (samePanels_faultRead s).panelsSound
  | faultAck => exact (samePanels_faultAck s).panelsSound

/-- The command a complete frame carries. -/
theorem commandBlock_panelsSound {name : CommandName} {p : List Byte} {c : Command} (hc : commandBlock name p = some c) :
    CommandKeepsPanels c := by
  unfold commandBlock at hc
  split at hc
  · exact Option.some.inj hc ▸ commandOn_panelsSound name p
  · cases hc

/-- A transaction ends in nothing, in OVR, in a refusal or in a command (R186, R187). -/
theorem transact_panelsSound (bytes : List Byte) (s : State) (h :
    PanelsSound s) : PanelsSound (transact bytes s) := by
  simp only [transact, examineFrame]
  repeat' split
  case h_2 name _ => exact acceptFrame_panelsSound s name _ (fun c hc => commandBlock_panelsSound hc) h
  all_goals exact h

/-- Every command goes on, and in a state whose Panel Table is sound. -/
theorem exec_panelsSound (c : Instr) (s : State) (h : PanelsSound s) : ∃ t, exec c s = .next t ∧ PanelsSound t := by
  cases c with
  | recipeBegin payload => exact ⟨_, rfl, takeCommand_samePanels s _ (samePanels_recipeBegin payload) h⟩
  | recipeSite payload => exact ⟨_, rfl, takeCommand_samePanels s _ (samePanels_recipeSite payload) h⟩
  | recipeZone payload => exact ⟨_, rfl, takeCommand_samePanels s _ (samePanels_recipeZone payload) h⟩
  | recipeEnd => exact ⟨_, rfl, takeCommand_samePanels s _ samePanels_recipeEnd h⟩
  | validationEnd => exact ⟨_, rfl, takeEvent_panelsSound s endValidation_panelsSound h⟩
  | recipeDrop number => exact ⟨_, rfl, takeCommand_panelsSound s _ (recipeDrop_panelsSound number) h⟩
  | recipeRead number => exact ⟨_, rfl, takeCommand_samePanels s _ (samePanels_recipeRead number) h⟩
  | panelAdmit id recipe fixture =>
    exact ⟨_, rfl, takeCommand_panelsSound s _ (panelAdmit_panelsSound id recipe fixture) h⟩
  | panelRetire entry force => exact ⟨_, rfl, takeCommand_panelsSound s _ (panelRetire_panelsSound entry force) h⟩
  | panelRead entry => exact ⟨_, rfl, takeCommand_samePanels s _ (samePanels_panelRead entry) h⟩
  | fiducial entry x1 y1 x2 y2 => exact ⟨_, rfl, takeRequest_panelsSound s _ _ (fiducial_panelsSound entry _ _) h⟩
  | zoneVisit entry => exact ⟨_, rfl, takeEvent_panelsSound s (visitZone_panelsSound entry) h⟩
  | pickPointVisit entry => exact ⟨_, rfl, takeEvent_panelsSound s (visitPickPoint_panelsSound entry) h⟩
  | tabVisit entry => exact ⟨_, rfl, takeEvent_panelsSound s (visitTab_panelsSound entry) h⟩
  | correctionRunEnd entry => exact ⟨_, rfl, takeEvent_panelsSound s (endRun_panelsSound entry) h⟩
  | siteMark entry site verdict =>
    exact ⟨_, rfl, takeRequest_samePanels s _ _ (samePanels_siteMark entry site verdict) h⟩
  | decideVerdict entry site verdict =>
    exact ⟨_, rfl, takeCommand_samePanels s _ (samePanels_decideVerdict entry site verdict) h⟩
  | holdExpiry => exact ⟨_, rfl, takeEvent_samePanels s samePanels_expireHold h⟩
  | tabResolve entry site tab outcome =>
    exact ⟨_, rfl, takeCommand_samePanels s _ (samePanels_tabResolve entry site tab outcome) h⟩
  | boardResolve entry site outcome =>
    exact ⟨_, rfl, takeCommand_samePanels s _ (samePanels_boardResolve entry site outcome) h⟩
  | boardRead entry site => exact ⟨_, rfl, takeCommand_samePanels s _ (samePanels_boardRead entry site) h⟩
  | tabRead entry site tab => exact ⟨_, rfl, takeCommand_samePanels s _ (samePanels_tabRead entry site tab) h⟩
  | gapTimerExpiry line => exact ⟨_, rfl, takeEvent_samePanels s (samePanels_expireGap line) h⟩
  | stationFrame line bytes => exact ⟨_, rfl, takeEvent_panelsSound s (frameArrives_panelsSound line bytes) h⟩
  | frameTransmitted line => exact ⟨_, rfl, takeEvent_samePanels s (samePanels_endTransmission line) h⟩
  | nextTab sp => exact ⟨_, rfl, takeRequest_samePanels s _ _ (samePanels_nextTab sp) h⟩
  | tabDone sp entry site tab => exact ⟨_, rfl, takeRequest_samePanels s _ _ (samePanels_tabDone sp entry site tab) h⟩
  | tabFault sp entry site tab reason =>
    exact ⟨_, rfl, takeRequest_samePanels s _ _ (samePanels_tabFault sp entry site tab reason) h⟩
  | progress line =>
    refine ⟨_, rfl, ?_⟩
    cases line with
    | spindleA => exact takeRequest_samePanels s _ _ (samePanels_spindleProgress .a) h
    | spindleB => exact takeRequest_samePanels s _ _ (samePanels_spindleProgress .b) h
    | gripper => exact takeRequest_samePanels s _ _ samePanels_gripperProgress h
    | vision =>
      exact takeEvent_panelsSound s (fun t ht => answerUnknown_panelsSound _ _ _ (frameComplete_panelsSound t _ ht)) h
    | elevator =>
      exact takeEvent_panelsSound s (fun t ht => answerUnknown_panelsSound _ _ _ (frameComplete_panelsSound t _ ht)) h
  | spindleWatchdogExpiry sp => exact ⟨_, rfl, takeEvent_samePanels s (samePanels_expireSpindle sp) h⟩
  | bitChange spindle lifeLimit startTotal =>
    exact ⟨_, rfl, takeCommand_samePanels s _ (samePanels_bitChange spindle lifeLimit startTotal) h⟩
  | stationClear station => exact ⟨_, rfl, takeCommand_samePanels s _ (samePanels_stationClear station) h⟩
  | zoneSet zone lowX lowY highX highY mode enable =>
    exact ⟨_, rfl, takeCommand_samePanels s _ (samePanels_zoneSet zone _ _ mode enable) h⟩
  | nextPick => exact ⟨_, rfl, takeRequest_samePanels s _ _ samePanels_nextPick h⟩
  | holdOn entry site => exact ⟨_, rfl, takeRequest_samePanels s _ _ (samePanels_holdOn entry site) h⟩
  | placeCheck entry site => exact ⟨_, rfl, takeRequest_samePanels s _ _ (samePanels_placeCheck entry site) h⟩
  | placed entry site bay slot =>
    exact ⟨_, rfl, takeRequest_samePanels s _ _ (samePanels_placed entry site bay slot) h⟩
  | dropped entry site => exact ⟨_, rfl, takeRequest_samePanels s _ _ (samePanels_dropped entry site) h⟩
  | gripperWatchdogExpiry => exact ⟨_, rfl, takeEvent_samePanels s samePanels_expireGripper h⟩
  | bayPoll => exact ⟨_, rfl, takeRequest_samePanels s _ _ samePanels_bayPoll h⟩
  | bayDoneIndex bay ok => exact ⟨_, rfl, takeRequest_samePanels s _ _ (samePanels_bayDoneIndex bay ok) h⟩
  | bayDoneExchange bay ok => exact ⟨_, rfl, takeRequest_samePanels s _ _ (samePanels_bayDoneExchange bay ok) h⟩
  | actionTimerExpiry bay => exact ⟨_, rfl, takeEvent_samePanels s (samePanels_expireAction bay) h⟩
  | settleTimerExpiry bay => exact ⟨_, rfl, takeEvent_samePanels s (samePanels_expireSettle bay) h⟩
  | confirmWindowExpiry bay => exact ⟨_, rfl, takeEvent_samePanels s (samePanels_expireWindow bay) h⟩
  | magStage bay magazineId slotCount pitch clearance =>
    exact ⟨_, rfl, takeCommand_samePanels s _ (samePanels_magStage bay magazineId slotCount pitch clearance) h⟩
  | magGo bay => exact ⟨_, rfl, takeCommand_samePanels s _ (samePanels_magGo bay) h⟩
  | magUnstage bay => exact ⟨_, rfl, takeCommand_samePanels s _ (samePanels_magUnstage bay) h⟩
  | bayExchange bay => exact ⟨_, rfl, takeCommand_samePanels s _ (samePanels_bayExchange bay) h⟩
  | bayClear bay loaded => exact ⟨_, rfl, takeCommand_samePanels s _ (samePanels_bayClear bay loaded) h⟩
  | magRelease magazineId => exact ⟨_, rfl, takeCommand_samePanels s _ (samePanels_magRelease magazineId) h⟩
  | magRead location first count =>
    exact ⟨_, rfl, takeCommand_samePanels s _ (samePanels_magRead location first count) h⟩
  | bayRoute payload =>
    refine ⟨_, rfl, takeCommandOr_panelsSound s _ _ (fun c hc => ?_) h⟩
    unfold bayRouteCommand at hc
    split at hc
    · exact Option.some.inj hc ▸ fun t => (samePanels_bayRoute payload t).panelsSound
    · cases hc
  | sample raw => exact ⟨_, rfl, takeEvent_samePanels s (samePanels_samplePins raw) h⟩
  | pause => exact ⟨_, rfl, takeCommand_samePanels s _ samePanels_pauseCommand h⟩
  | resume => exact ⟨_, rfl, takeCommand_samePanels s _ samePanels_resumeCommand h⟩
  | faultRead => exact ⟨_, rfl, takeCommand_samePanels s _ samePanels_faultRead h⟩
  | faultAck => exact ⟨_, rfl, takeCommand_samePanels s _ samePanels_faultAck h⟩
  | restartWarm => exact ⟨_, rfl, takeCommand_panelsSound s _ panelsSound_restartWarm h⟩
  | restartCold => exact ⟨_, rfl, takeCommand_panelsSound s _ (fun t _ => restartCold_panelsSound t) h⟩
  | resetAssert => exact ⟨_, rfl, SamePanels.panelsSound (s := s) ⟨rfl, rfl, rfl⟩ h⟩
  | resetRelease =>
    exact ⟨_, rfl, SamePanels.panelsSound (s := coldValues s) ⟨rfl, rfl, rfl⟩ (coldValues_panelsSound s)⟩
  | powerOn => exact ⟨_, rfl, coldValues_panelsSound s⟩
  | commandFrame bytes => exact ⟨_, rfl, takeEvent_panelsSound s (transact_panelsSound bytes) h⟩
  | configSet item value => exact ⟨_, rfl, takeCommand_samePanels s _ (samePanels_configSet item value) h⟩
  | configRead item => exact ⟨_, rfl, takeCommand_samePanels s _ (samePanels_configRead item) h⟩
  | noticeRead => exact ⟨_, rfl, takeCommand_samePanels s _ samePanels_noticeRead h⟩
  | noticeWriteSet mask => exact ⟨_, rfl, takeCommand_samePanels s _ (samePanels_noticeAct .set mask) h⟩
  | noticeWriteClear mask => exact ⟨_, rfl, takeCommand_samePanels s _ (samePanels_noticeAct .clear mask) h⟩
  | noticeWriteEnable mask => exact ⟨_, rfl, takeCommand_samePanels s _ (samePanels_noticeAct .enable mask) h⟩
  | noticeWriteDisable mask => exact ⟨_, rfl, takeCommand_samePanels s _ (samePanels_noticeAct .disable mask) h⟩
  | noticeWriteGroupEnable mask =>
    exact ⟨_, rfl, takeCommand_samePanels s _ (samePanels_noticeAct .groupEnable mask) h⟩
  | noticeWriteGroupDisable mask =>
    exact ⟨_, rfl, takeCommand_samePanels s _ (samePanels_noticeAct .groupDisable mask) h⟩
  | stationLineByte line byte framingError =>
    exact ⟨_, rfl, takeEvent_panelsSound s (receiveByte_panelsSound line byte framingError) h⟩

/-- One step keeps the Panel Table sound. -/
theorem step_panelsSound (s t : State) (h : PanelsSound s) (hstep : step s = .next t) : PanelsSound t := by
  unfold step at hstep
  split at hstep
  · next c rest hq =>
    obtain ⟨u, hu, hsound⟩ := exec_panelsSound c { s with pending := rest } h
    exact Host.Outcome.next.inj (hu.symm.trans hstep) ▸ hsound
  · exact Host.Outcome.next.inj hstep ▸ (samePanels_tick s).panelsSound h

/-- Settles O54: every command keeps every entry sound and its fixture's mount, and so does a tick. -/
theorem panelTableStaysSound : Obligations.PanelTableStaysSound := fun s t h hstep =>
  (panelsSound_iff t).1 (step_panelsSound s t ((panelsSound_iff s).2 h) hstep)

end Sys2Proof.Machine
end

section
/-! How a command that answers at once leaves the part, and the obligations that need no more: the cold values, RECIPE-DROP, the
start and the end of a validation. -/

namespace Sys2Proof.Machine

/-! ### One-byte indices -/

/-- A number is read as an index when it is that index's number. -/
theorem fin?_eq_some {n k : Nat} {i : Fin n} : fin? n k = some i ↔ i.val = k := by
  unfold fin?
  split
  · simp [Fin.ext_iff, eq_comm]
  · simp; omega

/-- A number at its bound or above is no index. -/
theorem fin?_eq_none {n k : Nat} : fin? n k = none ↔ n ≤ k := by
  simp [fin?]

/-- A byte that carries an index reads back as the index. -/
theorem fin?_ofNat {n : Nat} (i : Fin n) (hn : n ≤ 256) : fin? n (BitVec.ofNat 8 i).toNat = some i := by
  rw [fin?_eq_some, BitVec.toNat_ofNat]
  omega

/-! ### Commands that answer at once (R187, R188) -/

/-- A delivered command that leaves the state and answers. -/
theorem takeCommand_answered (s : State) (name : CommandName) (c : Command) (code : HostCode) (fields : List Byte)
    (h : PortOpen s) (hl : s.fault.locked = false ∨ name.takenInLockdown = true)
    (hc : c { s with ovr := false } = ({ s with ovr := false }, some ⟨code, fields⟩)) :
    s.takeCommand name c = s.answered name code fields :=
  takeCommand_answers s name c _ _ h hl hc

/-- A delivered command that changes the state and answers. -/
theorem takeCommand_changes (s t : State) (name : CommandName) (c : Command) (code : HostCode) (fields : List Byte)
    (h : PortOpen s) (hl : s.fault.locked = false ∨ name.takenInLockdown = true)
    (hc : c { s with ovr := false } = ({ t with ovr := false }, some ⟨code, fields⟩)) :
    s.takeCommand name c = t.answered name code fields :=
  takeCommand_answers s name c _ _ h hl hc

/-- The row of such a command, where it leaves the state. -/
theorem exec_answered {c : Instr} {s : State} {name : CommandName} {command : Command} {code : HostCode} {fields : List Byte}
    (h : PortOpen s) (hl : s.fault.locked = false ∨ name.takenInLockdown = true)
    (hexec : exec c s = .next (s.takeCommand name command))
    (hc : command { s with ovr := false } = ({ s with ovr := false }, some ⟨code, fields⟩)) :
    exec c s = .next (s.answered name code fields) :=
  hexec.trans (congrArg Host.Outcome.next (takeCommand_answered s name command code fields h hl hc))

/-- The row of such a command, where it changes the state. -/
theorem exec_changes {c : Instr} {s : State} (t : State) {name : CommandName} {command : Command} {code : HostCode}
    {fields : List Byte} (h : PortOpen s) (hl : s.fault.locked = false ∨ name.takenInLockdown = true)
    (hexec : exec c s = .next (s.takeCommand name command))
    (hc : command { s with ovr := false } = ({ t with ovr := false }, some ⟨code, fields⟩)) :
    exec c s = .next (t.answered name code fields) :=
  hexec.trans (congrArg Host.Outcome.next (takeCommand_changes s t name command code fields h hl hc))

/-- A delivered command that forms no answer yet leaves BSY set (R187, test 6). -/
theorem takeCommand_goesOn (s t : State) (name : CommandName) (c : Command) (h : PortOpen s)
    (hl : s.fault.locked = false ∨ name.takenInLockdown = true) (hc : c { s with ovr := false } = (t, none)) :
    s.takeCommand name c = { t with busy := true } := by
  simp [takeCommand_delivered s name c h hl, State.deliver, hc]

/-- While RESET is negated an event inside the part is taken (R185). -/
theorem takeEvent_taken (s : State) (event : State → State) (h : s.resetAsserted = false) : s.takeEvent event = event s := by
  simp [State.takeEvent, h]

/-! ### Reset -/

/-- Settles O4: every field of `State.reset` is read off, record by record where a block has several. -/
theorem resetHasTheColdValues : Obligations.ResetHasTheColdValues := by
  have hlines : ∀ l, State.reset.line l = ⟨.hunt, [], none, none, [], none⟩ := fun l => by cases l <;> rfl
  have hspindles : ∀ sp, State.reset.spindle sp = ⟨.ready, none, 0, 60000000, none⟩ := fun sp => by cases sp <;> rfl
  exact ⟨rfl, rfl, rfl, rfl, rfl, by decide, rfl, by decide, rfl, by decide, rfl, hlines, hspindles, by decide, rfl,
    by decide, rfl, by decide, rfl, by decide, rfl, rfl, rfl, rfl, rfl, rfl, rfl, rfl, rfl⟩

/-! ### RECIPE-DROP (R15) -/

/-- A number above 15 names no slot. -/
theorem recipeDrop_range (number : Byte) (s : State) (h : 15 < number.toNat) :
    recipeDrop number s = (s, some (.bare .range)) := by
  simp [recipeDrop, fin?_eq_none.2 h]

/-- A slot whose number is in use stays. -/
theorem recipeDrop_inUse (number : Byte) (s : State) (n : Fin 16) (hn : n.val = number.toNat) (h : s.inUse n ≠ 0) :
    recipeDrop number s = (s, some (.bare .inUse)) := by
  simp [recipeDrop, fin?_eq_some.2 hn, h]

/-- Any other slot becomes EMPTY. -/
theorem recipeDrop_empties (number : Byte) (s : State) (n : Fin 16) (hn : n.val = number.toNat) (h : s.inUse n = 0) :
    recipeDrop number s = ({ s with slots := s.slots.set n none }, some (.ok [])) := by
  simp [recipeDrop, fin?_eq_some.2 hn, h]

/-- Settles O24, case by case of RECIPE-DROP. -/
theorem recipeDropEmptiesASlot : Obligations.RecipeDropEmptiesASlot := by
  rintro s number ⟨hopen, hnormal⟩
  refine ⟨fun hbig => ?_, fun n hn => ⟨fun huse => ?_, fun huse => ?_⟩⟩
  · exact exec_answered hopen (.inl hnormal) rfl (recipeDrop_range number _ hbig)
  · exact exec_answered hopen (.inl hnormal) rfl (recipeDrop_inUse number _ n hn huse)
  · exact exec_changes { s with slots := s.slots.set n none } hopen (.inl hnormal) rfl (recipeDrop_empties number _ n hn huse)

/-! ### The start and the end of a validation (R11, R13, R14) -/

/-- RECIPE-END of an OPEN staging begins the validation and forms no answer (R11). -/
theorem recipeEnd_opened (s : State) (n : Fin 16) (r : StagedRecipe) (h : s.staging = .opened n r) :
    recipeEnd s = ({ s with staging := .validating n r }, none) := by
  simp [recipeEnd, h]

/-- RECIPE-END without an OPEN staging is NOT-OPEN (R11). -/
theorem recipeEnd_notOpen (s : State) (h : ∀ n r, s.staging ≠ .opened n r) : recipeEnd s = (s, some (.bare .notOpen)) := by
  unfold recipeEnd
  split
  · next n r hst => exact absurd hst (h n r)
  · rfl
  · rfl

/-- A validation that passes commits the recipe whole (R13). -/
theorem endValidation_commits (s : State) (n : Fin 16) (r : StagedRecipe) (q : Recipe)
    (hst : s.staging = .validating n r) (hv : validate r = .ok q) :
    endValidation s = ({ s with slots := s.slots.set n (some q), staging := .closed } : State).placeAnswer 0x13
      (.ok (u8 n ++ u8 q.header.siteCount ++ u16 (tabTotal q.sites) ++ u16 (zoneCount q.zones))) := by
  unfold endValidation
  rw [hst]
  simp only [hv]
  rfl

/-- A validation that fails discards the staging and reports the failure (R14). -/
theorem endValidation_discards (s : State) (n : Fin 16) (r : StagedRecipe) (f : Failure)
    (hst : s.staging = .validating n r) (hv : validate r = .error f) :
    endValidation s = ({ s with staging := .closed } : State).placeAnswer 0x13 ⟨.invalid, failureFields f⟩ := by
  unfold endValidation
  rw [hst]
  simp only [hv]
  rfl

/-- Settles O22: the two outcomes of RECIPE-END and the two of the validation's end. -/
theorem validationCommitsOrDiscards : Obligations.ValidationCommitsOrDiscards := by
  intro s n r
  refine ⟨fun ⟨hopen, hnormal⟩ hst => ?_, fun ⟨hopen, hnormal⟩ hst => ?_, fun hr hst q hv => ?_, fun hr hst f hv => ?_⟩
  · exact congrArg Host.Outcome.next (takeCommand_goesOn s _ _ _ hopen (.inl hnormal) (recipeEnd_opened _ n r hst))
  · exact exec_answered hopen (.inl hnormal) rfl (recipeEnd_notOpen _ hst)
  · exact congrArg Host.Outcome.next ((takeEvent_taken s _ hr).trans (endValidation_commits s n r q hst hv))
  · exact congrArg Host.Outcome.next ((takeEvent_taken s _ hr).trans (endValidation_discards s n r f hst hv))

end Sys2Proof.Machine
end

section
/-! The packings of a recipe frame (R3 to R5): a pair is read at its place whatever stands around it, and each
packing's bytes are the numbers their bits spell. -/

namespace Sys2Proof.Machine

/-! ### Reading at a place -/

/-- A byte behind a front part is read as in what follows it. -/
theorem byteAt_append (front back : List Byte) (i : Nat) : byteAt (front ++ back) (front.length + i) = byteAt back i := by
  simp [byteAt, List.getD_eq_getElem?_getD, List.getElem?_append_right]

/-- A pair behind a front part is read as in what follows it. -/
theorem pairAt_append (packing : Packing) (pitch : Nat) (front back : List Byte) (i : Nat) :
    pairAt packing pitch (front ++ back) (front.length + i) = pairAt packing pitch back i := by
  cases packing <;> simp [pairAt, halfAt, coordAt, Nat.add_assoc, byteAt_append]

/-! ### The three packings -/

/-- The number that two stretches of bits spell is the higher one's number above the lower one's. -/
theorem toNat_append_add {n m : Nat} (x : BitVec n) (y : BitVec m) : (x ++ y).toNat = x.toNat * 2 ^ m + y.toNat := by
  rw [BitVec.toNat_append, ← Nat.shiftLeft_add_eq_or_of_lt y.isLt, Nat.shiftLeft_eq]

/-- P12: two 12-bit numbers times the grid pitch (R3). -/
theorem pairAt_cons_p12 (pitch : Nat) (b0 b1 b2 : Byte) (after : List Byte) :
    pairAt .p12 pitch (b0 :: b1 :: b2 :: after) 0 =
        ⟨((b0 ++ b1.extractLsb' 4 4 : BitVec 12).toNat * pitch : Nat),
          ((b1.extractLsb' 0 4 ++ b2 : BitVec 12).toNat * pitch : Nat)⟩ := by
  have hx : (b0 ++ b1.extractLsb' 4 4 : BitVec 12).toNat = b0.toNat * 16 + b1.toNat / 16 := by
    rw [toNat_append_add, BitVec.extractLsb'_toNat, Nat.shiftRight_eq_div_pow]; omega
  have hy : (b1.extractLsb' 0 4 ++ b2 : BitVec 12).toNat = b1.toNat % 16 * 256 + b2.toNat := by
    rw [toNat_append_add, BitVec.extractLsb'_toNat]; rfl
  rw [hx, hy]; rfl

/-- W16: two 16-bit numbers times 10 (R4). -/
theorem pairAt_cons_w16 (pitch : Nat) (b0 b1 b2 b3 : Byte) (after : List Byte) :
    pairAt .w16 pitch (b0 :: b1 :: b2 :: b3 :: after) 0 =
        ⟨((b0 ++ b1 : BitVec 16).toNat * 10 : Nat), ((b2 ++ b3 : BitVec 16).toNat * 10 : Nat)⟩ := by
  rw [toNat_append_add, toNat_append_add]; rfl

/-- Three bytes, high byte first, as one 24-bit field. -/
theorem ofNat_three_bytes (b0 b1 b2 : Byte) :
    BitVec.ofNat 24 (b0.toNat * 65536 + b1.toNat * 256 + b2.toNat) = (b0 ++ b1 ++ b2 : BitVec 24) := by
  apply BitVec.eq_of_toNat_eq
  rw [toNat_append_add, toNat_append_add, BitVec.toNat_ofNat]
  omega

/-- S24: two signed 24-bit numbers (R5). -/
theorem pairAt_cons_s24 (pitch : Nat) (b0 b1 b2 b3 b4 b5 : Byte) (after : List Byte) :
    pairAt .s24 pitch (b0 :: b1 :: b2 :: b3 :: b4 :: b5 :: after) 0 =
      ⟨(b0 ++ b1 ++ b2 : BitVec 24).toInt, (b3 ++ b4 ++ b5 : BitVec 24).toInt⟩ := by
  rw [← ofNat_three_bytes, ← ofNat_three_bytes]
  rfl

/-- A 24-bit field whose first byte has its top bit set is negative. -/
theorem toInt_three_bytes_neg (b0 b1 b2 : Byte) (h : b0.msb = true) : (b0 ++ b1 ++ b2 : BitVec 24).toInt < 0 := by
  have hmsb : (b0 ++ b1 ++ b2 : BitVec 24).msb = true := by
    rw [BitVec.msb_append, BitVec.msb_append]
    simpa using h
  simpa [BitVec.msb_eq_toInt] using hmsb

/-- Settles O20: each packing's pair by its bytes, and the bounds of those numbers against the envelope. -/
theorem pairsExpandByTheirPacking : Obligations.PairsExpandByTheirPacking := by
  intro before after pitch b0 b1 b2 b3 b4 b5
  have hx := (b0 ++ b1 : BitVec 16).isLt
  have hy := (b2 ++ b3 : BitVec 16).isLt
  have at_place : ∀ packing rest, pairAt packing pitch (before ++ rest) before.length = pairAt packing pitch rest 0 :=
    fun packing rest => pairAt_append packing pitch before rest 0
  simp only [at_place, pairAt_cons_p12, pairAt_cons_w16, pairAt_cons_s24, Inside, true_and]
  refine ⟨fun h => ?_, ?_, by decide, fun h => ?_⟩
  · omega
  · rintro q rfl
    dsimp only
    omega
  · rcases h with h | h
    · have := toInt_three_bytes_neg b0 b1 b2 h
      omega
    · have := toInt_three_bytes_neg b3 b4 b5 h
      omega

end Sys2Proof.Machine
end

section
/-! The recipe frames (R6 to R10): the fields of a payload are read at their places, each of the three commands has one refusal
per test in the order of its rule, and a frame that passes writes the staging area alone. -/

namespace Sys2Proof.Machine

/-! ### Fields at their places -/

/-- A byte within the front part is read there. -/
theorem byteAt_append_left (front back : List Byte) (i : Nat) (h : i < front.length) :
    byteAt (front ++ back) i = byteAt front i := by
  simp [byteAt, List.getD_eq_getElem?_getD, List.getElem?_append_left h]

/-- The byte at a place of a payload. -/
theorem byteAt_field (front back : List Byte) (b : Byte) (i : Nat) (h : front.length = i) :
    byteAt (front ++ b :: back) i = b.toNat := by
  subst h
  exact byteAt_append front (b :: back) 0

/-- The same byte as the payload holds it. -/
theorem getElem?_field (front back : List Byte) (b : Byte) (i : Nat) (h : front.length = i) :
    (front ++ b :: back)[i]? = some b := by
  subst h
  simp

/-- A pair reads no byte behind its own (R3 to R5). -/
theorem pairAt_append_left (packing : Packing) (pitch : Nat) (f back : List Byte) (h : f.length = packing.width) :
    pairAt packing pitch (f ++ back) 0 = pairAt packing pitch f 0 := by
  cases packing <;> simp only [Packing.width] at h <;>
    simp [pairAt, halfAt, coordAt, byteAt_append_left, h]

/-- The pair at a place of a payload. -/
theorem pairAt_field (packing : Packing) (pitch : Nat) (front f back : List Byte) (i : Nat) (hi : front.length = i)
    (h : f.length = packing.width) : pairAt packing pitch (front ++ (f ++ back)) i = pairAt packing pitch f 0 := by
  subst hi
  exact (pairAt_append packing pitch front (f ++ back) 0).trans (pairAt_append_left packing pitch f back h)

/-- The size at a place of a payload (R6). -/
theorem sizeAt_field (front back : List Byte) (v : Half) (i : Nat) (h : front.length = i) :
    sizeAt (front ++ (halfBytes v ++ back)) i = v.toNat * 10 := by
  subst h
  have hhigh := byteAt_append front (halfBytes v ++ back) 0
  have hlow := byteAt_append front (halfBytes v ++ back) 1
  simp only [halfBytes, u16, byteAt, List.cons_append, List.getD_cons_zero, List.getD_cons_succ, Nat.add_zero] at hhigh hlow
  simp only [sizeAt, halfAt, halfBytes, u16, byteAt, List.cons_append, hhigh, hlow, BitVec.toNat_ofNat]
  omega

@[simp] theorem length_halfBytes (v : Half) : (halfBytes v).length = 2 := rfl

/-! ### Codes (R194) -/

/-- A code byte names a packing when it is that packing's code. -/
theorem packingOf_eq_some (b : Byte) (p : Packing) : packingOf b.toNat = some p ↔ b = BitVec.ofNat 8 p.code := by
  have hb := b.isLt
  unfold packingOf
  rw [← BitVec.toNat_inj, BitVec.toNat_ofNat]
  cases p <;> (repeat' split) <;> simp [Packing.code] <;> omega

/-- A code byte names an x-out mode unless it is above 1. -/
theorem xoutModeOf_eq_none {code : Nat} : xoutModeOf code = none ↔ 1 < code := by
  unfold xoutModeOf
  repeat' split
  all_goals (simp; omega)

theorem xoutModeOf_code (m : XoutMode) : xoutModeOf (BitVec.ofNat 8 m.code).toNat = some m := by
  cases m <;> rfl

/-- A code byte names an orientation unless it is above 1. -/
theorem orientationOf_eq_none {code : Nat} : orientationOf code = none ↔ 1 < code := by
  unfold orientationOf
  repeat' split
  all_goals (simp; omega)

theorem orientationOf_code (o : Orientation) : orientationOf (BitVec.ofNat 8 o.code).toNat = some o := by
  cases o <;> rfl

/-! ### RECIPE-BEGIN (R7, R8) -/

/-- A payload whose second byte names no packing is RANGE (R7; a payload without one: log entry 8). -/
theorem recipeBegin_noPacking (payload : List Byte) (s : State)
    (h : ∀ p : Packing, payload[1]? ≠ some (BitVec.ofNat 8 p.code)) :
    recipeBegin payload s = (s, some (.bare .range)) := by
  have hnone : (payload[1]?).bind (fun b => packingOf b.toNat) = none := by
    rw [Option.eq_none_iff_forall_ne_some]
    intro p hp
    obtain ⟨b, hb, hbp⟩ := Option.bind_eq_some_iff.1 hp
    exact h p (hb.trans (congrArg some ((packingOf_eq_some b p).1 hbp)))
  unfold recipeBegin
  rw [hnone]

/-- The packing a payload's second byte names. -/
theorem packing_of_second (payload : List Byte) (p : Packing) (h : payload[1]? = some (BitVec.ofNat 8 p.code)) :
    (payload[1]?).bind (fun b => packingOf b.toNat) = some p := by
  rw [h]
  exact (packingOf_eq_some _ p).2 rfl

/-- With the packing known, a test of R7 that fails refuses the frame. -/
theorem recipeBegin_refused (payload : List Byte) (s : State) (p : Packing) (code : HostCode)
    (h : payload[1]? = some (BitVec.ofNat 8 p.code)) (ht : beginTests s p payload = .error code) :
    recipeBegin payload s = (s, some (.bare code)) := by
  simp only [recipeBegin, packing_of_second payload p h, ht]

/-- A frame that passes opens a fresh staging (R7, R8). -/
theorem recipeBegin_opens (payload : List Byte) (s : State) (p : Packing) (n : Fin 16) (header : RecipeHeader)
    (h : payload[1]? = some (BitVec.ofNat 8 p.code)) (ht : beginTests s p payload = .ok (n, header)) :
    recipeBegin payload s = ({ s with staging := .opened n (StagedRecipe.fresh header) }, some (.ok (u8 n))) := by
  simp only [recipeBegin, packing_of_second payload p h, ht]

theorem beginTests_length (s : State) (p : Packing) (payload : List Byte) (h : payload.length ≠ 7 + 2 * p.width) :
    beginTests s p payload = .error .length :=
  if_pos h

/-- The RANGE tests of R7 after the length. -/
theorem beginTests_range (s : State) (p : Packing) (payload : List Byte) (hlen : payload.length = 7 + 2 * p.width)
    (h : 15 < byteAt payload 0 ∨ (p = .p12 ∧ byteAt payload 2 = 0) ∨ byteAt payload 3 = 0 ∨ 64 < byteAt payload 3
      ∨ 1 < byteAt payload (6 + 2 * p.width)) : beginTests s p payload = .error .range := by
  unfold beginTests
  rw [if_neg (not_not.2 (show payload.length = beginLength p from hlen))]
  split
  · rfl
  next n hn =>
    have hn' : ¬ 15 < byteAt payload 0 := by have := fin?_eq_some.1 hn; omega
    split
    · rfl
    next hp =>
    split
    · rfl
    next hc =>
    split
    · rfl
    next m hm =>
      have hm' : ¬ 1 < byteAt payload (6 + 2 * p.width) := by
        rw [← xoutModeOf_eq_none, hm]
        exact Option.some_ne_none m
      exact absurd h (by tauto)

/-- A payload whose fields pass every test but perhaps the last: INUSE, or the header it carries (R7). -/
theorem beginTests_fields (s : State) (n : Fin 16) (p : Packing) (pitch count : Byte) (f1 f2 : List Byte) (thickness : Half)
    (mode : XoutMode) (h1 : f1.length = p.width) (h2 : f2.length = p.width) (hp : p = .p12 → pitch ≠ 0)
    (hlow : 1 ≤ count.toNat) (hhigh : count.toNat ≤ 64) :
    let payload := [BitVec.ofNat 8 n, BitVec.ofNat 8 p.code, pitch, count] ++ f1 ++ f2 ++ halfBytes thickness
      ++ [BitVec.ofNat 8 mode.code]
    let grid := if p = .p12 then pitch.toNat else 0
    beginTests s p payload = if s.inUse n ≠ 0 then .error .inUse else .ok (n,
      ⟨p, grid, count.toNat, pairAt p grid f1 0, pairAt p grid f2 0, thickness.toNat * 10, mode⟩) := by
  intro payload grid
  have hpay : payload = [BitVec.ofNat 8 n, BitVec.ofNat 8 p.code, pitch, count]
      ++ (f1 ++ (f2 ++ (halfBytes thickness ++ [BitVec.ofNat 8 mode.code]))) := by simp [payload]
  have hlen : payload.length = 7 + 2 * p.width := by simp [payload, h1, h2]; omega
  have hnum : byteAt payload 0 = (BitVec.ofNat 8 n).toNat := rfl
  have hpitch : byteAt payload 2 = pitch.toNat := rfl
  have hcount : byteAt payload 3 = count.toNat := rfl
  have hmode : byteAt payload (6 + 2 * p.width) = (BitVec.ofNat 8 mode.code).toNat :=
    byteAt_field _ [] _ _ (by simp [h1, h2]; omega)
  have hf1 : pairAt p grid payload 4 = pairAt p grid f1 0 := by
    rw [hpay]
    exact pairAt_field p grid _ f1 _ 4 rfl h1
  have hf2 : pairAt p grid payload (4 + p.width) = pairAt p grid f2 0 := by
    rw [hpay, ← List.append_assoc]
    exact pairAt_field p grid _ f2 _ _ (by simp [h1]; omega) h2
  have hthick : sizeAt payload (4 + 2 * p.width) = thickness.toNat * 10 := by
    rw [hpay, ← List.append_assoc, ← List.append_assoc]
    exact sizeAt_field _ _ thickness _ (by simp [h1, h2]; omega)
  have hpitch0 : ¬ (p = .p12 ∧ pitch.toNat = 0) := fun ⟨h12, h0⟩ => hp h12 (BitVec.eq_of_toNat_eq h0)
  have hcount0 : ¬ (count.toNat = 0 ∨ 64 < count.toNat) := by omega
  simp only [beginTests, beginLength, hlen, hnum, hpitch, hcount, hmode, fin?_ofNat n (by decide), xoutModeOf_code,
    hpitch0, hcount0, headerOf, if_false, ne_eq, not_true_eq_false]
  simp only [show (if p = .p12 then pitch.toNat else 0) = grid from rfl, hf1, hf2, hthick]

/-! ### RECIPE-SITE (R9) -/

/-- Without an OPEN staging RECIPE-SITE is NOT-OPEN. -/
theorem recipeSite_notOpen (payload : List Byte) (s : State) (h : ∀ n r, s.staging ≠ .opened n r) :
    recipeSite payload s = (s, some (.bare .notOpen)) := by
  unfold recipeSite
  split
  · next n r hst => exact absurd hst (h n r)
  · rfl
  · rfl

/-- A test of R9 that fails refuses the frame. -/
theorem recipeSite_refused (payload : List Byte) (s : State) (n : Fin 16) (r : StagedRecipe) (code : HostCode)
    (hst : s.staging = .opened n r) (ht : siteTests r payload = .error code) :
    recipeSite payload s = (s, some (.bare code)) := by
  simp only [recipeSite, hst, ht]

/-- A frame that passes writes its whole entry (R9). -/
theorem recipeSite_writes (payload : List Byte) (s : State) (n : Fin 16) (r : StagedRecipe) (index : Nat) (entry : RecipeSite)
    (hst : s.staging = .opened n r) (ht : siteTests r payload = .ok (index, entry)) :
    let r' : StagedRecipe := { r with sites := r.sites.set index (some entry) }
    recipeSite payload s = ({ s with staging := .opened n r' }, some (.ok (u8 index ++ u16 r'.sitesReceived))) := by
  simp only [recipeSite, hst, ht]

/-- A payload too short for its tab count is LENGTH (log entry 8). -/
theorem siteTests_noCount (r : StagedRecipe) (payload : List Byte) (h : payload.length ≤ 8 + r.header.packing.width) :
    siteTests r payload = .error .length := by
  simp [siteTests, h]

/-- More than eight tabs are RANGE. -/
theorem siteTests_tooManyTabs (r : StagedRecipe) (payload : List Byte) (count : Byte)
    (hcount : payload[8 + r.header.packing.width]? = some count) (h : 8 < count.toNat) :
    siteTests r payload = .error .range := by
  simp only [siteTests, hcount, h, if_true]

/-- A payload whose length is not that of its tabs is LENGTH. -/
theorem siteTests_length (r : StagedRecipe) (payload : List Byte) (count : Byte)
    (hcount : payload[8 + r.header.packing.width]? = some count) (h8 : count.toNat ≤ 8)
    (h : payload.length ≠ siteLength r.header.packing count.toNat) : siteTests r payload = .error .length := by
  simp only [siteTests, hcount, not_lt.2 h8, if_false, ne_eq, h, not_false_eq_true, if_true]

/-- One tab that is bad spoils the whole list. -/
theorem mapM_eq_none_of_mem {α β : Type} (f : α → Option β) (l : List α) (x : α) (hx : x ∈ l) (h : f x = none) :
    l.mapM f = none := by
  induction l with
  | nil => cases hx
  | cons a l ih =>
    rw [List.mapM_cons]
    rcases List.mem_cons.1 hx with rfl | hmem
    · simp [h]
    · simp [ih hmem]

/-- A list read entry by entry. -/
theorem mapM_range_eq_some {β : Type} (l : List β) (f : Nat → Option β) (h : ∀ i (hi : i < l.length), f i = some l[i]) :
    (List.range l.length).mapM f = some l := by
  induction l generalizing f with
  | nil => rfl
  | cons a l ih =>
    have htail := ih (fun i => f (i + 1)) (fun i hi => h (i + 1) (Nat.succ_lt_succ hi))
    have hhead : f 0 = some a := h 0 (Nat.succ_pos _)
    rw [List.length_cons, List.range_succ_eq_map, List.mapM_cons, List.mapM_map, hhead]
    simp only [Function.comp_def, Nat.succ_eq_add_one, htail]
    rfl

/-- A bad orientation code spoils the tab list. -/
theorem tabsAt_badOrientation (h : RecipeHeader) (payload : List Byte) (n i : Nat) (hi : i < n)
    (hbad : 1 < byteAt payload (9 + h.packing.width + i * (5 + h.packing.width) + h.packing.width)) :
    tabsAt h payload n = none := by
  refine mapM_eq_none_of_mem _ _ i (List.mem_range.2 hi) ?_
  simp only [tabAt, orientationOf_eq_none.2 hbad, Option.map_none]

/-- The tests of R9 that answer RANGE after the length. -/
theorem siteTests_range (r : StagedRecipe) (payload : List Byte) (count : Byte)
    (hcount : payload[8 + r.header.packing.width]? = some count) (h8 : count.toNat ≤ 8)
    (hlen : payload.length = siteLength r.header.packing count.toNat)
    (h : r.header.siteCount ≤ byteAt payload 0 ∨ 15 < byteAt payload 1
      ∨ tabsAt r.header payload count.toNat = none) :
    siteTests r payload = .error .range := by
  simp only [siteTests, hcount, not_lt.2 h8, if_false, hlen, ne_eq, not_true_eq_false]
  rcases h with h | h | h
  · rw [if_pos h]
  · simp [h]
  · simp [h]

/-- A payload that passes every test of R9 carries its entry. -/
theorem siteTests_ok (r : StagedRecipe) (payload : List Byte) (count : Byte) (tabs : List RecipeTab)
    (hcount : payload[8 + r.header.packing.width]? = some count) (h8 : count.toNat ≤ 8)
    (hlen : payload.length = siteLength r.header.packing count.toNat)
    (hsite : byteAt payload 0 < r.header.siteCount) (hvariant : byteAt payload 1 ≤ 15)
    (htabs : tabsAt r.header payload count.toNat = some tabs) :
    siteTests r payload = .ok (byteAt payload 0,
      ⟨byteAt payload 1, pairAt r.header.packing r.header.pitch payload 2, sizeAt payload (2 + r.header.packing.width),
        sizeAt payload (4 + r.header.packing.width), sizeAt payload (6 + r.header.packing.width), tabs⟩) := by
  simp only [siteTests, hcount, not_lt.2 h8, if_false, hlen, ne_eq, not_true_eq_false, not_le.2 hsite, not_lt.2 hvariant,
    htabs]

/-- A byte sent as a one-byte field is itself. -/
theorem u8_toNat (b : Byte) : u8 b.toNat = [b] := by
  simp [u8]

/-- The bytes of one tab. -/
theorem length_tabBytes (t : TabBytes) : t.bytes.length = t.mid.length + 5 := by
  simp [TabBytes.bytes]

/-- The bytes of tabs whose pairs have the packing's width. -/
theorem length_flatMap_tabBytes (w : Nat) (tabs : List TabBytes) (h : ∀ t ∈ tabs, t.mid.length = w) :
    (tabs.flatMap TabBytes.bytes).length = tabs.length * (5 + w) := by
  induction tabs with
  | nil => simp
  | cons t tabs ih =>
    rw [List.flatMap_cons, List.length_append, length_tabBytes, ih (fun u hu => h u (by simp [hu])), h t (by simp),
      List.length_cons]
    ring

/-- A tab is read at its place of the payload (R9). -/
theorem tabAt_field (h : RecipeHeader) (front back : List Byte) (t : TabBytes) (i : Nat)
    (hfront : front.length = 9 + h.packing.width + i * (5 + h.packing.width)) (hmid : t.mid.length = h.packing.width) :
    tabAt h (front ++ (t.bytes ++ back)) i = some (t.tab h.packing h.pitch) := by
  have hmidpoint : pairAt h.packing h.pitch (front ++ (t.bytes ++ back)) front.length = pairAt h.packing h.pitch t.mid 0 := by
    rw [show t.bytes ++ back = t.mid ++ (BitVec.ofNat 8 t.orient.code :: (halfBytes t.width ++ (t.seq :: t.release :: back)))
      by simp [TabBytes.bytes]]
    exact pairAt_field _ _ front t.mid _ _ rfl hmid
  have horient : byteAt (front ++ (t.bytes ++ back)) (front.length + h.packing.width)
      = (BitVec.ofNat 8 t.orient.code).toNat := by
    rw [show front ++ (t.bytes ++ back) = (front ++ t.mid)
      ++ BitVec.ofNat 8 t.orient.code :: (halfBytes t.width ++ (t.seq :: t.release :: back)) by simp [TabBytes.bytes]]
    exact byteAt_field _ _ _ _ (by simp [hmid])
  have hwidth : sizeAt (front ++ (t.bytes ++ back)) (front.length + h.packing.width + 1) = t.width.toNat * 10 := by
    rw [show front ++ (t.bytes ++ back) = (front ++ t.mid ++ [BitVec.ofNat 8 t.orient.code])
      ++ (halfBytes t.width ++ (t.seq :: t.release :: back)) by simp [TabBytes.bytes]]
    exact sizeAt_field _ _ t.width _ (by simp [hmid]; omega)
  have hseq : byteAt (front ++ (t.bytes ++ back)) (front.length + h.packing.width + 3) = t.seq.toNat := by
    rw [show front ++ (t.bytes ++ back) = (front ++ t.mid ++ [BitVec.ofNat 8 t.orient.code] ++ halfBytes t.width)
      ++ t.seq :: (t.release :: back) by simp [TabBytes.bytes]]
    exact byteAt_field _ _ _ _ (by simp [hmid]; omega)
  have hrelease : byteAt (front ++ (t.bytes ++ back)) (front.length + h.packing.width + 4) = t.release.toNat := by
    rw [show front ++ (t.bytes ++ back) = (front ++ t.mid ++ [BitVec.ofNat 8 t.orient.code] ++ halfBytes t.width ++ [t.seq])
      ++ t.release :: back by simp [TabBytes.bytes]]
    exact byteAt_field _ _ _ _ (by simp [hmid]; omega)
  have hflag : (t.release.toNat ≠ 0) = (t.release ≠ 0) := by simp [← BitVec.toNat_inj]
  simp only [tabAt, ← hfront, horient, orientationOf_code, Option.map_some, hmidpoint, hwidth, hseq, hrelease, hflag,
    TabBytes.tab]

/-- The tabs of a payload are read in the order of the frame (R9). -/
theorem tabsAt_fields (h : RecipeHeader) (front : List Byte) (tabs : List TabBytes)
    (hfront : front.length = 9 + h.packing.width)
    (hmid : ∀ t ∈ tabs, t.mid.length = h.packing.width) :
    tabsAt h (front ++ tabs.flatMap TabBytes.bytes) tabs.length = some (tabs.map (TabBytes.tab h.packing h.pitch)) := by
  rw [← List.length_map (TabBytes.tab h.packing h.pitch) (as := tabs)]
  refine mapM_range_eq_some _ _ fun i hi => ?_
  rw [List.length_map] at hi
  have hsplit : tabs = tabs.take i ++ tabs[i] :: tabs.drop (i + 1) := by
    rw [List.getElem_cons_drop, List.take_append_drop]
  have hpay : front ++ tabs.flatMap TabBytes.bytes
      = (front ++ (tabs.take i).flatMap TabBytes.bytes) ++ (tabs[i].bytes ++ (tabs.drop (i + 1)).flatMap TabBytes.bytes) := by
    rw [List.append_assoc, ← List.flatMap_cons, ← List.flatMap_append, ← hsplit]
  rw [hpay, List.getElem_map]
  refine tabAt_field h _ _ _ i ?_ (hmid _ (List.getElem_mem hi))
  rw [List.length_append, hfront, length_flatMap_tabBytes h.packing.width _ fun t ht => hmid t (List.mem_of_mem_take ht),
    List.length_take, Nat.min_eq_left hi.le]

/-- A payload built of good fields passes the tests of R9 and carries its entry. -/
theorem siteTests_fields (r : StagedRecipe) (site variant : Byte) (origin : List Byte) (width height top : Half)
    (tabs : List TabBytes) (hsite : site.toNat < r.header.siteCount) (hvariant : variant.toNat ≤ 15)
    (horigin : origin.length = r.header.packing.width) (h8 : tabs.length ≤ 8)
    (hmid : ∀ t ∈ tabs, t.mid.length = r.header.packing.width) :
    siteTests r ([site, variant] ++ origin ++ halfBytes width ++ halfBytes height ++ halfBytes top
        ++ [BitVec.ofNat 8 tabs.length] ++ tabs.flatMap TabBytes.bytes) =
      .ok (site.toNat, ⟨variant.toNat, pairAt r.header.packing r.header.pitch origin 0, width.toNat * 10, height.toNat * 10,
        top.toNat * 10, tabs.map (TabBytes.tab r.header.packing r.header.pitch)⟩) := by
  generalize hp : [site, variant] ++ origin ++ halfBytes width ++ halfBytes height ++ halfBytes top
    ++ [BitVec.ofNat 8 tabs.length] ++ tabs.flatMap TabBytes.bytes = payload
  have hcount : payload[8 + r.header.packing.width]? = some (BitVec.ofNat 8 tabs.length) := by
    rw [← hp, List.append_assoc]
    exact getElem?_field _ _ _ _ (by simp [horigin]; omega)
  have hcountNat : (BitVec.ofNat 8 tabs.length).toNat = tabs.length := by rw [BitVec.toNat_ofNat]; omega
  have hsite0 : byteAt payload 0 = site.toNat := by subst hp; rfl
  have hvariant1 : byteAt payload 1 = variant.toNat := by subst hp; rfl
  have horigin2 : pairAt r.header.packing r.header.pitch payload 2 = pairAt r.header.packing r.header.pitch origin 0 := by
    rw [← hp]
    simp only [List.append_assoc]
    exact pairAt_field _ _ [site, variant] origin _ 2 rfl horigin
  have hwidth : sizeAt payload (2 + r.header.packing.width) = width.toNat * 10 := by
    rw [← hp, show [site, variant] ++ origin ++ halfBytes width ++ halfBytes height ++ halfBytes top
      ++ [BitVec.ofNat 8 tabs.length] ++ tabs.flatMap TabBytes.bytes = ([site, variant] ++ origin) ++ (halfBytes width
        ++ (halfBytes height ++ halfBytes top ++ [BitVec.ofNat 8 tabs.length] ++ tabs.flatMap TabBytes.bytes)) by simp]
    exact sizeAt_field _ _ width _ (by simp [horigin]; omega)
  have hheight : sizeAt payload (4 + r.header.packing.width) = height.toNat * 10 := by
    rw [← hp, show [site, variant] ++ origin ++ halfBytes width ++ halfBytes height ++ halfBytes top
      ++ [BitVec.ofNat 8 tabs.length] ++ tabs.flatMap TabBytes.bytes = ([site, variant] ++ origin ++ halfBytes width)
        ++ (halfBytes height ++ (halfBytes top ++ [BitVec.ofNat 8 tabs.length] ++ tabs.flatMap TabBytes.bytes)) by simp]
    exact sizeAt_field _ _ height _ (by simp [horigin]; omega)
  have htop : sizeAt payload (6 + r.header.packing.width) = top.toNat * 10 := by
    rw [← hp, show [site, variant] ++ origin ++ halfBytes width ++ halfBytes height ++ halfBytes top
      ++ [BitVec.ofNat 8 tabs.length] ++ tabs.flatMap TabBytes.bytes = ([site, variant] ++ origin ++ halfBytes width
        ++ halfBytes height) ++ (halfBytes top ++ ([BitVec.ofNat 8 tabs.length] ++ tabs.flatMap TabBytes.bytes)) by simp]
    exact sizeAt_field _ _ top _ (by simp [horigin]; omega)
  have htabs : tabsAt r.header payload tabs.length = some (tabs.map (TabBytes.tab r.header.packing r.header.pitch)) := by
    rw [← hp]
    exact tabsAt_fields r.header _ tabs (by simp [horigin]; omega) hmid
  have hlen : payload.length = siteLength r.header.packing (BitVec.ofNat 8 tabs.length).toNat := by
    rw [← hp, hcountNat, List.length_append, length_flatMap_tabBytes r.header.packing.width tabs hmid]
    simp [horigin, siteLength]
    omega
  have hok := siteTests_ok r payload _ (tabs.map (TabBytes.tab r.header.packing r.header.pitch)) hcount (by omega)
    hlen (by rwa [hsite0]) (by rwa [hvariant1]) (by rwa [hcountNat])
  rw [hok, hsite0, hvariant1, horigin2, hwidth, hheight, htop]

/-! ### RECIPE-ZONE (R10) -/

/-- Without an OPEN staging RECIPE-ZONE is NOT-OPEN. -/
theorem recipeZone_notOpen (payload : List Byte) (s : State) (h : ∀ n r, s.staging ≠ .opened n r) :
    recipeZone payload s = (s, some (.bare .notOpen)) := by
  unfold recipeZone
  split
  · next n r hst => exact absurd hst (h n r)
  · rfl
  · rfl

/-- A payload of another length than two pairs and an index is LENGTH. -/
theorem recipeZone_length (payload : List Byte) (s : State) (n : Fin 16) (r : StagedRecipe) (hst : s.staging = .opened n r)
    (h : payload.length ≠ 1 + 2 * r.header.packing.width) : recipeZone payload s = (s, some (.bare .length)) := by
  simp only [recipeZone, hst, zoneLength, ne_eq, h, not_false_eq_true, if_true]

/-- An index above 7 is RANGE. -/
theorem recipeZone_range (payload : List Byte) (s : State) (n : Fin 16) (r : StagedRecipe) (hst : s.staging = .opened n r)
    (hlen : payload.length = 1 + 2 * r.header.packing.width) (h : 7 < byteAt payload 0) :
    recipeZone payload s = (s, some (.bare .range)) := by
  simp only [recipeZone, hst, zoneLength, ne_eq, hlen, not_true_eq_false, if_false, fin?_eq_none.2 h]

/-- A payload of an index and two corners replaces that zone's whole entry. -/
theorem recipeZone_writes (s : State) (n : Fin 16) (r : StagedRecipe) (z : Fin 8) (low high : List Byte)
    (hst : s.staging = .opened n r) (hlow : low.length = r.header.packing.width)
    (hhigh : high.length = r.header.packing.width) :
    let r' : StagedRecipe := { r with zones := r.zones.set z (some ⟨pairAt r.header.packing r.header.pitch low 0,
      pairAt r.header.packing r.header.pitch high 0⟩) }
    recipeZone (BitVec.ofNat 8 z :: low ++ high) s =
      ({ s with staging := .opened n r' }, some (.ok (u8 z ++ u16 (zoneCount r'.zones)))) := by
  have hlen : (BitVec.ofNat 8 z :: low ++ high).length = 1 + 2 * r.header.packing.width := by simp [hlow, hhigh]; omega
  have hindex : byteAt (BitVec.ofNat 8 z :: low ++ high) 0 = (BitVec.ofNat 8 z).toNat := rfl
  have hlowPair : pairAt r.header.packing r.header.pitch (BitVec.ofNat 8 z :: low ++ high) 1
      = pairAt r.header.packing r.header.pitch low 0 :=
    pairAt_field _ _ [BitVec.ofNat 8 z] low high 1 rfl hlow
  have hhighPair : pairAt r.header.packing r.header.pitch (BitVec.ofNat 8 z :: low ++ high) (1 + r.header.packing.width)
      = pairAt r.header.packing r.header.pitch high 0 := by
    rw [show BitVec.ofNat 8 z :: low ++ high = (BitVec.ofNat 8 z :: low) ++ (high ++ []) by simp]
    exact pairAt_field _ _ _ high [] _ (by simp [hlow]; omega) hhigh
  simp only [recipeZone, hst, zoneLength, hlen, ne_eq, not_true_eq_false, if_false, hindex, fin?_ofNat z (by decide), hlowPair,
    hhighPair]

/-! ### The obligation -/

/-- RECIPE_BEGIN with good fields: INUSE for a number in use, a fresh staging otherwise (R7, R8). -/
theorem exec_recipeBegin_fields (s : State) (hs : PortNormal s) (n : Fin 16) (p : Packing) (pitch count : Byte)
    (f1 f2 : List Byte) (thickness : Half) (mode : XoutMode) (h1 : f1.length = p.width) (h2 : f2.length = p.width)
    (hp : p = .p12 → pitch ≠ 0) (hlow : 1 ≤ count.toNat) (hhigh : count.toNat ≤ 64) :
    let payload := [BitVec.ofNat 8 n, BitVec.ofNat 8 p.code, pitch, count] ++ f1 ++ f2 ++ halfBytes thickness
      ++ [BitVec.ofNat 8 mode.code]
    let grid := if p = .p12 then pitch.toNat else 0
    (s.inUse n ≠ 0 → exec (.recipeBegin payload) s = .next (s.answered .recipeBegin .inUse []))
      ∧ (s.inUse n = 0 → exec (.recipeBegin payload) s = .next ({ s with
          staging := .opened n ⟨⟨p, grid, count.toNat, pairAt p grid f1 0, pairAt p grid f2 0, thickness.toNat * 10, mode⟩,
            List.replicate count.toNat none, Vector.replicate 8 none⟩ }.answered .recipeBegin .ok [BitVec.ofNat 8 n])) := by
  intro payload grid
  obtain ⟨hopen, hnormal⟩ := hs
  have htests := beginTests_fields { s with ovr := false } n p pitch count f1 f2 thickness mode h1 h2 hp hlow hhigh
  refine ⟨fun huse => ?_, fun huse => ?_⟩
  · exact exec_answered hopen (.inl hnormal) rfl
      (recipeBegin_refused payload _ p _ rfl (htests.trans (if_pos huse)))
  · exact exec_changes { s with staging := .opened n _ } hopen (.inl hnormal) rfl
      (recipeBegin_opens payload _ p n _ rfl (htests.trans (if_neg (not_not.2 huse))))

/-- Settles O21: each of the three commands by its refusals, in the order of its rule, and by what it writes. -/
theorem recipeFramesFillTheStaging : Obligations.RecipeFramesFillTheStaging := by
  rintro s ⟨hopen, hnormal⟩
  refine ⟨exec_recipeBegin_fields s ⟨hopen, hnormal⟩, fun n r hst => ⟨?_, ?_⟩, fun hst payload => ⟨?_, ?_⟩,
    fun payload => ⟨?_, ?_, ?_⟩⟩
  · intro site variant origin width height top tabs hsite hvariant horigin h8 hmid
    have hwrites := recipeSite_writes _ { s with ovr := false } n r _ _ hst
      (siteTests_fields r site variant origin width height top tabs hsite hvariant horigin h8 hmid)
    rw [u8_toNat] at hwrites
    exact exec_changes { s with staging := .opened n _ } hopen (.inl hnormal) rfl hwrites
  · intro z low high hlow hhigh
    exact exec_changes { s with staging := .opened n _ } hopen (.inl hnormal) rfl
      (recipeZone_writes { s with ovr := false } n r z low high hst hlow hhigh)
  · exact exec_answered hopen (.inl hnormal) rfl (recipeSite_notOpen payload _ hst)
  · exact exec_answered hopen (.inl hnormal) rfl (recipeZone_notOpen payload _ hst)
  · exact fun h => exec_answered hopen (.inl hnormal) rfl (recipeBegin_noPacking payload _ h)
  · exact fun p hp => ⟨
      fun hlen => exec_answered hopen (.inl hnormal) rfl
        (recipeBegin_refused payload _ p _ hp (beginTests_length _ p payload hlen)),
      fun hlen h => exec_answered hopen (.inl hnormal) rfl
        (recipeBegin_refused payload _ p _ hp (beginTests_range _ p payload hlen h))⟩
  · intro n r hst
    have refused := fun code ht => exec_answered (c := .recipeSite payload) hopen (.inl hnormal) rfl
      (recipeSite_refused payload { s with ovr := false } n r code hst ht)
    have count_in : 8 + r.header.packing.width < payload.length →
        payload[8 + r.header.packing.width]? = some (payload.getD (8 + r.header.packing.width) 0) := fun h => by
      rw [List.getD_eq_getElem?_getD, List.getElem?_eq_getElem h, Option.getD_some]
    refine ⟨fun h => refused _ (siteTests_noCount r payload h),
      fun hin h => refused _ (siteTests_tooManyTabs r payload _ (count_in hin) h),
      fun hin h8 h => refused _ (siteTests_length r payload _ (count_in hin) h8 h),
      fun hlen h8 h => refused _ (siteTests_range r payload _ (count_in (by rw [hlen]; omega)) h8 hlen ?_),
      fun h => exec_answered hopen (.inl hnormal) rfl (recipeZone_length payload { s with ovr := false } n r hst h),
      fun hlen h => exec_answered hopen (.inl hnormal) rfl (recipeZone_range payload { s with ovr := false } n r hst hlen h)⟩
    exact h.imp_right (.imp_right fun ⟨i, hi, hbad⟩ => tabsAt_badOrientation r.header payload _ i hi hbad)

end Sys2Proof.Machine
end

section
/-! Validation (R12 to R14): the checks of R12 one by one, what each of them reports and when it passes, and the
validation as the first of them that fails. -/

namespace Sys2Proof.Machine

/-! ### The checks one by one -/

/-- The checks of R12 in table order. -/
def Check.all : List Check :=
  [.missingSite, .tabCount, .release, .tabTotal, .sequence, .thickness, .fiducial, .fidSpacing, .origin, .outline, .topHeight,
    .midpoint, .width, .zoneCorner, .zoneOrder]

/-- What one check of R12 finds on a recipe whose sites are all present. -/
def checkFailure (q : Recipe) : Check → Option Failure
  | .missingSite => none
  | .tabCount => ((indexedSites q.sites).find? (fun x => x.2.tabs.isEmpty)).map (fun x => Failure.ofSite .tabCount x.1)
  | .release => (indexedSites q.sites).findSome? (fun x => releaseFailure x.1 x.2)
  | .tabTotal => if Config.maxTabs < tabTotal q.sites then some (Failure.plain .tabTotal) else none
  | .sequence => sequenceFailure [] (indexedTabs q.sites)
  | .thickness =>
    if q.header.thickness < 400 ∨ 3200 < q.header.thickness then some (Failure.plain .thickness) else none
  | .fiducial =>
    if inEnvelope q.header.f1 = false then some ⟨.fiducial, none, none, none, some 1⟩
    else if inEnvelope q.header.f2 = false then some ⟨.fiducial, none, none, none, some 2⟩ else none
  | .fidSpacing => if fiducialSpacing q.header < Config.minSpacing then some (Failure.plain .fidSpacing) else none
  | .origin => ((indexedSites q.sites).find? (fun x => !inEnvelope x.2.origin)).map (fun x => Failure.ofSite .origin x.1)
  | .outline =>
    ((indexedSites q.sites).find? (fun x => decide (x.2.width = 0 ∨ x.2.height = 0))).map
      (fun x => Failure.ofSite .outline x.1)
  | .topHeight =>
    ((indexedSites q.sites).find? (fun x => decide (25000 < x.2.topHeight))).map (fun x => Failure.ofSite .topHeight x.1)
  | .midpoint =>
    ((indexedTabs q.sites).find? (fun x => !inEnvelope x.2.2.mid)).map (fun x => Failure.ofTab .midpoint x.1 x.2.1)
  | .width =>
    ((indexedTabs q.sites).find? (fun x => decide (x.2.2.width < 500 ∨ 5000 < x.2.2.width))).map
      (fun x => Failure.ofTab .width x.1 x.2.1)
  | .zoneCorner =>
    ((indexedZones q.zones).find? (fun x => !inEnvelope x.2.low || !inEnvelope x.2.high)).map
      (fun x => Failure.ofZone .zoneCorner x.1)
  | .zoneOrder =>
    ((indexedZones q.zones).find? (fun x => decide (x.2.high.x < x.2.low.x ∨ x.2.high.y < x.2.low.y))).map
      (fun x => Failure.ofZone .zoneOrder x.1)

/-- A list searched for its first hit: the head's, or the rest's. -/
theorem findSome?_cons_orElse {α β : Type} (f : α → Option β) (a : α) (l : List α) :
    (a :: l).findSome? f = (f a <|> l.findSome? f) := by
  rw [List.findSome?_cons]
  cases f a <;> rfl

/-- The validation of a recipe whose sites are all present is the first check that fails. -/
theorem recipeFailure_eq (q : Recipe) :
    recipeFailure q.header q.sites q.zones = Check.all.findSome? (checkFailure q) := by
  simp only [Check.all, findSome?_cons_orElse, List.findSome?_nil, Option.orElse_eq_orElse]
  simp [recipeFailure, checkFailure]

/-! ### What each check reports -/

/-- The travel envelope, as a test and as a bound. -/
theorem inEnvelope_iff (p : Point) : inEnvelope p = true ↔ Inside p :=
  decide_eq_true_iff

theorem outside_iff (p : Point) : (!inEnvelope p) = true ↔ ¬ Inside p := by
  simp [← inEnvelope_iff]

theorem corner_outside_iff (z : Rect) :
    (!inEnvelope z.low || !inEnvelope z.high) = true ↔ ¬ Inside z.low ∨ ¬ Inside z.high := by
  rw [Bool.or_eq_true, outside_iff, outside_iff]

/-- The squared fiducial spacing, as R12 writes it. -/
theorem fiducialSpacing_eq (h : RecipeHeader) : fiducialSpacing h = (h.f2.x - h.f1.x) ^ 2 + (h.f2.y - h.f1.y) ^ 2 := by
  simp only [fiducialSpacing, pow_two]

/-- The places of the release tabs of a list numbered from `n`. -/
def releasePlaces (tabs : List RecipeTab) (n : Nat) : List Nat := ((tabs.zipIdx n).filter (fun ti => ti.1.release)).map Prod.snd

/-- There are as many places as release tabs. -/
theorem length_releasePlaces (tabs : List RecipeTab) (n : Nat) :
    (releasePlaces tabs n).length = releaseCount (tabs.map (·.release)) := by
  induction tabs generalizing n with
  | nil => rfl
  | cons t tabs ih =>
    have := ih (n + 1)
    cases hr : t.release <;> simp_all [releasePlaces, releaseCount]

/-- The place of each release tab, by how many come before it. -/
theorem getElem?_releasePlaces (tabs : List RecipeTab) (n m j : Nat) :
    (releasePlaces tabs n)[m]? = some j ↔
      ∃ i, j = n + i ∧ ∃ t, tabs[i]? = some t ∧ t.release = true ∧ releaseCount ((tabs.take i).map (·.release)) = m := by
  induction tabs generalizing n m with
  | nil => simp [releasePlaces]
  | cons t tabs ih =>
    have hshift : ∀ i, n + 1 + i = n + (i + 1) := fun i => by omega
    rw [← Nat.or_exists_add_one]
    cases hr : t.release with
    | false =>
      have htail : releasePlaces (t :: tabs) n = releasePlaces tabs (n + 1) := by simp [releasePlaces, hr]
      simp [htail, ih, hr, hshift, releaseCount]
    | true =>
      have htail : releasePlaces (t :: tabs) n = n :: releasePlaces tabs (n + 1) := by simp [releasePlaces, hr]
      cases m with
      | zero => simpa [htail, hr, releaseCount] using eq_comm
      | succ m => simp [htail, ih, hr, hshift, releaseCount]

/-- Check 3 on one site passes with exactly one release tab (R12). -/
theorem releaseFailure_eq_none (site : Nat) (x : RecipeSite) :
    releaseFailure site x = none ↔ releaseCount (x.tabs.map (·.release)) = 1 := by
  rw [← length_releasePlaces x.tabs 0, releaseFailure, ← releasePlaces]
  split
  · next hp => simp [hp]
  · next hp => simp [hp]
  · next hp => simp [hp]

/-- Check 3 on one site reports the second release tab, or that there is none (R12). -/
theorem releaseFailure_eq_some (site : Nat) (x : RecipeSite) (f : Failure) :
    releaseFailure site x = some f ↔
      ((∀ t ∈ x.tabs, t.release = false) ∧ f = ⟨.release, some site, none, none, none⟩)
        ∨ ∃ i t, x.tabs[i]? = some t ∧ t.release = true ∧ releaseCount ((x.tabs.take i).map (·.release)) = 1
          ∧ f = ⟨.release, some site, some i, none, none⟩ := by
  have hfirst : (∀ t ∈ x.tabs, t.release = false) ↔ releasePlaces x.tabs 0 = [] := by
    rw [← List.length_eq_zero_iff, length_releasePlaces]
    simp [releaseCount]
  have hsecond : ∀ i, (releasePlaces x.tabs 0)[1]? = some i ↔
      ∃ t, x.tabs[i]? = some t ∧ t.release = true ∧ releaseCount ((x.tabs.take i).map (·.release)) = 1 := fun i => by
    simp [getElem?_releasePlaces]
  have hcollect : (∃ i t, x.tabs[i]? = some t ∧ t.release = true ∧ releaseCount ((x.tabs.take i).map (·.release)) = 1
      ∧ f = ⟨.release, some site, some i, none, none⟩)
      ↔ ∃ i, (releasePlaces x.tabs 0)[1]? = some i ∧ f = ⟨.release, some site, some i, none, none⟩ := by
    simp only [hsecond]
    tauto
  rw [hfirst, hcollect, releaseFailure, ← releasePlaces]
  split
  · next hp => simp [hp, Failure.ofSite, eq_comm]
  · next hp => simp [hp]
  · next hp => simp [hp, Failure.ofTab, eq_comm]

/-- A search that answers is the answer at the first entry with one. -/
theorem findSome?_eq_bind_find? {α β : Type} (f : α → Option β) (l : List α) :
    l.findSome? f = (l.find? (fun a => (f a).isSome)).bind f := by
  induction l with
  | nil => rfl
  | cons a l ih => cases ha : f a <;> simp [ha, ih]

/-- Check 3 reports the lowest site without exactly one release tab (R12). -/
theorem releaseCheck_iff (q : Recipe) (f : Failure) :
    checkFailure q .release = some f ↔ f.check = .release ∧ Reports q f := by
  have hbad : ∀ k x, (releaseFailure k x).isSome = true ↔ releaseCount (x.tabs.map (·.release)) ≠ 1 := fun k x => by
    rw [Option.isSome_iff_ne_none, ne_eq, releaseFailure_eq_none]
  have hgood : ∀ k x, (releaseFailure k x).isSome = false ↔ ¬ releaseCount (x.tabs.map (·.release)) ≠ 1 := fun k x => by
    rw [← hbad k x, Bool.not_eq_true]
  have hsites : checkFailure q .release = some f ↔
      ∃ k x, FirstSite q (fun x => releaseCount (x.tabs.map (·.release)) ≠ 1) k ∧ q.sites[k]? = some x
        ∧ releaseFailure k x = some f := by
    simp only [checkFailure, findSome?_eq_bind_find?, Option.bind_eq_some_iff, Prod.exists, indexedSites, find?_numbered, hbad,
      hgood, FirstSite, Nat.zero_le, true_and, Nat.sub_zero, forall_const]
    constructor
    · rintro ⟨k, x, ⟨hx, hb, hl⟩, hf⟩
      exact ⟨k, x, ⟨x, hx, hb, hl⟩, hx, hf⟩
    · rintro ⟨k, x, ⟨y, hy, hb, hl⟩, hx, hf⟩
      obtain rfl := Option.some.inj (hy.symm.trans hx)
      exact ⟨k, y, ⟨hy, hb, hl⟩, hf⟩
  rw [hsites]
  simp only [releaseFailure_eq_some]
  constructor
  · rintro ⟨k, x, hfirst, hx, hf⟩
    have hc : f.check = .release := by rcases hf with ⟨-, rfl⟩ | ⟨i, t, -, -, -, rfl⟩ <;> rfl
    refine ⟨hc, ?_⟩
    rw [Reports, hc]
    exact ⟨k, x, hfirst, hx, hf⟩
  · rintro ⟨hc, hr⟩
    rw [Reports, hc] at hr
    exact hr

/-- Check 7 reports the first fiducial outside the envelope (R12). -/
theorem fiducialCheck_iff (q : Recipe) (f : Failure) :
    checkFailure q .fiducial = some f ↔ f.check = .fiducial ∧ Reports q f := by
  have hout : ∀ p, inEnvelope p = false ↔ ¬ Inside p := fun p => by rw [← inEnvelope_iff, Bool.not_eq_true]
  have hreports : f.check = .fiducial → (Reports q f ↔ (¬ Inside q.header.f1 ∧ f = ⟨.fiducial, none, none, none, some 1⟩)
      ∨ (Inside q.header.f1 ∧ ¬ Inside q.header.f2 ∧ f = ⟨.fiducial, none, none, none, some 2⟩)) := fun hc => by
    rw [Reports, hc]
  rw [and_congr_right hreports]
  simp only [checkFailure]
  by_cases h1 : Inside q.header.f1
  · rw [if_neg (by simp [hout, h1])]
    by_cases h2 : Inside q.header.f2
    · simp [hout, h1, h2]
    · rw [if_pos ((hout _).2 h2), Option.some.injEq]
      simp only [h1, h2, not_true_eq_false, not_false_eq_true, false_and, true_and, false_or]
      exact ⟨fun h => h ▸ ⟨rfl, rfl⟩, fun h => h.2.symm⟩
  · rw [if_pos ((hout _).2 h1), Option.some.injEq]
    simp only [h1, not_false_eq_true, false_and, true_and, or_false]
    exact ⟨fun h => h ▸ ⟨rfl, rfl⟩, fun h => h.2.symm⟩

/-- A check of the whole recipe reports no index (R12). -/
theorem wholeCheck_iff (c : Check) (bad : Prop) [Decidable bad] (f : Failure) :
    (if bad then some (Failure.plain c) else none) = some f ↔ f.check = c ∧ bad ∧ f = ⟨f.check, none, none, none, none⟩ := by
  by_cases hb : bad
  · simp only [hb, if_true, Option.some.injEq, true_and, Failure.plain]
    constructor
    · rintro rfl
      exact ⟨rfl, rfl⟩
    · rintro ⟨rfl, hf⟩
      exact hf.symm
  · simp [hb]

/-- Each check finds exactly what R12 has it report. -/
theorem checkFailure_iff (q : Recipe) (c : Check) (f : Failure) :
    checkFailure q c = some f ↔ f.check = c ∧ Reports q f := by
  cases c with
  | missingSite =>
    refine ⟨fun h => (by cases h), ?_⟩
    rintro ⟨hc, hr⟩
    rw [Reports, hc] at hr
    exact hr.elim
  | tabCount =>
    exact (siteFailure_iff q .tabCount (fun x => x.tabs.isEmpty) _ (fun x => List.isEmpty_iff) f).trans
      (and_congr_right fun hc => by rw [Reports, hc])
  | release => exact releaseCheck_iff q f
  | tabTotal => exact (wholeCheck_iff .tabTotal _ f).trans (and_congr_right fun hc => by rw [Reports, hc]; rfl)
  | sequence => exact (sequenceFailure_iff q f).trans (and_congr_right fun hc => by rw [Reports, hc])
  | thickness => exact (wholeCheck_iff .thickness _ f).trans (and_congr_right fun hc => by rw [Reports, hc])
  | fiducial => exact fiducialCheck_iff q f
  | fidSpacing =>
    exact (wholeCheck_iff .fidSpacing _ f).trans (and_congr_right fun hc => by rw [Reports, hc, ← fiducialSpacing_eq]; rfl)
  | origin =>
    exact (siteFailure_iff q .origin (fun x => !inEnvelope x.origin) _ (fun x => outside_iff x.origin) f).trans
      (and_congr_right fun hc => by rw [Reports, hc])
  | outline =>
    exact (siteFailure_iff q .outline (fun x => decide (x.width = 0 ∨ x.height = 0)) _ (fun x => decide_eq_true_iff) f).trans
      (and_congr_right fun hc => by rw [Reports, hc])
  | topHeight =>
    exact (siteFailure_iff q .topHeight (fun x => decide (25000 < x.topHeight)) _ (fun x => decide_eq_true_iff) f).trans
      (and_congr_right fun hc => by rw [Reports, hc])
  | midpoint =>
    exact (tabFailure_iff q .midpoint (fun t => !inEnvelope t.mid) _ (fun t => outside_iff t.mid) f).trans
      (and_congr_right fun hc => by rw [Reports, hc])
  | width =>
    exact (tabFailure_iff q .width (fun t => decide (t.width < 500 ∨ 5000 < t.width)) _ (fun t => decide_eq_true_iff) f).trans
      (and_congr_right fun hc => by rw [Reports, hc])
  | zoneCorner =>
    exact (zoneFailure_iff q .zoneCorner (fun z => !inEnvelope z.low || !inEnvelope z.high) _ (fun z => corner_outside_iff z)
      f).trans (and_congr_right fun hc => by rw [Reports, hc])
  | zoneOrder =>
    exact (zoneFailure_iff q .zoneOrder (fun z => decide (z.high.x < z.low.x ∨ z.high.y < z.low.y)) _
      (fun z => decide_eq_true_iff) f).trans (and_congr_right fun hc => by rw [Reports, hc])

/-! ### When each check passes -/

/-- Every numbered site has a property when every site has it. -/
theorem forall_indexedSites (sites : List RecipeSite) (P : RecipeSite → Prop) :
    (∀ x ∈ indexedSites sites, P x.2) ↔ ∀ x ∈ sites, P x := by
  have hsites : (indexedSites sites).map Prod.snd = sites := by
    simp [indexedSites, Function.comp_def]
  conv_rhs => rw [← hsites]
  simp only [List.mem_map, forall_exists_index, and_imp, forall_apply_eq_imp_iff₂]

/-- The tabs scanned, without their indices. -/
theorem map_indexedTabs (sites : List RecipeSite) : (indexedTabs sites).map (·.2.2) = sites.flatMap (·.tabs) := by
  have htabs : ∀ n, (sites.zipIdx n).flatMap (fun si => si.1.tabs) = sites.flatMap (·.tabs) := by
    induction sites with
    | nil => simp
    | cons x sites ih => simp [ih]
  simpa [indexedTabs, List.map_flatMap, Function.comp_def] using htabs 0

/-- Every tab scanned has a property when every tab of every site has it. -/
theorem forall_indexedTabs (sites : List RecipeSite) (P : RecipeTab → Prop) :
    (∀ x ∈ indexedTabs sites, P x.2.2) ↔ ∀ x ∈ sites, ∀ t ∈ x.tabs, P t := by
  have h : (∀ x ∈ indexedTabs sites, P x.2.2) ↔ ∀ t ∈ (indexedTabs sites).map (·.2.2), P t := by
    simp only [List.mem_map, forall_exists_index, and_imp, forall_apply_eq_imp_iff₂]
  rw [h, map_indexedTabs]
  simp only [List.mem_flatMap, forall_exists_index, and_imp]
  exact ⟨fun h x hx t ht => h t x hx ht, fun h t x hx ht => h x hx t ht⟩

/-- Every zone scanned has a property when every zone present has it. -/
theorem forall_indexedZones (zones : Vector (Option Rect) 8) (P : Rect → Prop) :
    (∀ x ∈ indexedZones zones, P x.2) ↔ ∀ z ∈ zones.toList, ∀ r, z = some r → P r := by
  simp only [indexedZones, List.mem_filterMap, Prod.forall, Prod.exists, Option.map_eq_some_iff, Prod.mk.injEq,
    List.mem_zipIdx_iff_getElem?]
  constructor
  · rintro h z hz r rfl
    obtain ⟨i, hi⟩ := List.mem_iff_getElem?.1 hz
    exact h i r ⟨some r, i, hi, r, rfl, rfl, rfl⟩
  · rintro h _ _ ⟨z, i, hi, r, hz, rfl, rfl⟩
    exact h z (List.mem_of_getElem? hi) r hz

/-- Check 5 passes when no cut sequence comes twice (R12). -/
theorem sequenceFailure_eq_none (l : List (Nat × Nat × RecipeTab)) (seen : List Nat) :
    sequenceFailure seen l = none ↔ (l.map (·.2.2.seq)).Nodup ∧ ∀ x ∈ l, x.2.2.seq ∉ seen := by
  induction l generalizing seen with
  | nil => simp [sequenceFailure]
  | cons a l ih =>
    obtain ⟨k, i, t⟩ := a
    by_cases ht : t.seq ∈ seen
    · simp [sequenceFailure, ht]
    · simp only [sequenceFailure, ht, if_false, ih, List.map_cons, List.nodup_cons, List.mem_cons, List.mem_map, not_or,
        forall_eq_or_imp, not_false_eq_true, true_and, not_exists, not_and]
      constructor
      · rintro ⟨hn, hs⟩
        exact ⟨⟨fun x hx => (hs x hx).1, hn⟩, fun x hx => (hs x hx).2⟩
      · rintro ⟨⟨hne, hn⟩, hs⟩
        exact ⟨hn, fun x hx => ⟨hne x hx, hs x hx⟩⟩

/-- A search of the sites that stays empty. -/
theorem siteCheck_eq_none (q : Recipe) (p : RecipeSite → Bool) (report : Nat × RecipeSite → Failure) :
    ((indexedSites q.sites).find? (fun x => p x.2)).map report = none ↔ ∀ x ∈ q.sites, ¬ p x = true := by
  rw [Option.map_eq_none_iff, List.find?_eq_none, ← forall_indexedSites q.sites (fun x => ¬ p x = true)]

/-- A search of the tabs that stays empty. -/
theorem tabCheck_eq_none (q : Recipe) (p : RecipeTab → Bool) (report : Nat × Nat × RecipeTab → Failure) :
    ((indexedTabs q.sites).find? (fun x => p x.2.2)).map report = none ↔ ∀ x ∈ q.sites, ∀ t ∈ x.tabs, ¬ p t = true := by
  rw [Option.map_eq_none_iff, List.find?_eq_none, ← forall_indexedTabs q.sites (fun t => ¬ p t = true)]

/-- A search of the zones that stays empty. -/
theorem zoneCheck_eq_none (q : Recipe) (p : Rect → Bool) (report : Nat × Rect → Failure) :
    ((indexedZones q.zones).find? (fun x => p x.2)).map report = none ↔
      ∀ z ∈ q.zones.toList, ∀ r, z = some r → ¬ p r = true := by
  rw [Option.map_eq_none_iff, List.find?_eq_none, ← forall_indexedZones q.zones (fun r => ¬ p r = true)]

/-- What a check asks of a recipe (R12). -/
def CheckPasses (q : Recipe) : Check → Prop
  | .missingSite => True
  | .tabCount => ∀ x ∈ q.sites, x.tabs ≠ []
  | .release => ∀ x ∈ q.sites, releaseCount (x.tabs.map (·.release)) = 1
  | .tabTotal => (q.sites.map (fun x => x.tabs.length)).sum ≤ 256
  | .sequence => ((q.sites.flatMap (·.tabs)).map (·.seq)).Nodup
  | .thickness => 400 ≤ q.header.thickness ∧ q.header.thickness ≤ 3200
  | .fiducial => Inside q.header.f1 ∧ Inside q.header.f2
  | .fidSpacing => 400000000 ≤ (q.header.f2.x - q.header.f1.x) ^ 2 + (q.header.f2.y - q.header.f1.y) ^ 2
  | .origin => ∀ x ∈ q.sites, Inside x.origin
  | .outline => ∀ x ∈ q.sites, x.width ≠ 0 ∧ x.height ≠ 0
  | .topHeight => ∀ x ∈ q.sites, x.topHeight ≤ 25000
  | .midpoint => ∀ x ∈ q.sites, ∀ t ∈ x.tabs, Inside t.mid
  | .width => ∀ x ∈ q.sites, ∀ t ∈ x.tabs, 500 ≤ t.width ∧ t.width ≤ 5000
  | .zoneCorner => ∀ z ∈ q.zones.toList, ∀ r, z = some r → Inside r.low ∧ Inside r.high
  | .zoneOrder => ∀ z ∈ q.zones.toList, ∀ r, z = some r → r.low.x ≤ r.high.x ∧ r.low.y ≤ r.high.y

/-- Checks 2 to 15 together ask what `RecipeValid` asks. -/
theorem recipeValid_iff (q : Recipe) : RecipeValid q ↔ ∀ c, CheckPasses q c := by
  constructor
  · rintro ⟨htabs, htotal, hseq, hlow, hhigh, hf1, hf2, hspacing, hsites, hzones⟩ c
    cases c with
    | missingSite => trivial
    | tabCount => exact fun x hx => (htabs x hx).1
    | release => exact fun x hx => (htabs x hx).2
    | tabTotal => exact htotal
    | sequence => exact hseq
    | thickness => exact ⟨hlow, hhigh⟩
    | fiducial => exact ⟨hf1, hf2⟩
    | fidSpacing => exact hspacing
    | origin => exact fun x hx => (hsites x hx).1
    | outline => exact fun x hx => have ⟨_, hw, hh, _⟩ := hsites x hx; ⟨hw, hh⟩
    | topHeight => exact fun x hx => have ⟨_, _, _, ht, _⟩ := hsites x hx; ht
    | midpoint => exact fun x hx t ht => have ⟨_, _, _, _, h⟩ := hsites x hx; (h t ht).1
    | width => exact fun x hx t ht => have ⟨_, _, _, _, h⟩ := hsites x hx; (h t ht).2
    | zoneCorner => exact fun z hz r hr => have ⟨hl, hh, _⟩ := hzones z hz r hr; ⟨hl, hh⟩
    | zoneOrder => exact fun z hz r hr => have ⟨_, _, h⟩ := hzones z hz r hr; h
  · intro h
    exact ⟨fun x hx => ⟨h .tabCount x hx, h .release x hx⟩, h .tabTotal, h .sequence, (h .thickness).1, (h .thickness).2,
      (h .fiducial).1, (h .fiducial).2, h .fidSpacing,
      fun x hx => ⟨h .origin x hx, (h .outline x hx).1, (h .outline x hx).2, h .topHeight x hx,
        fun t ht => ⟨h .midpoint x hx t ht, h .width x hx t ht⟩⟩,
      fun z hz r hr => ⟨(h .zoneCorner z hz r hr).1, (h .zoneCorner z hz r hr).2, h .zoneOrder z hz r hr⟩⟩

/-- A check finds nothing exactly when the recipe meets it. -/
theorem checkFailure_eq_none (q : Recipe) (c : Check) : checkFailure q c = none ↔ CheckPasses q c := by
  cases c with
  | missingSite => simp [checkFailure, CheckPasses]
  | tabCount => exact (siteCheck_eq_none q (fun x => x.tabs.isEmpty) _).trans (by simp [CheckPasses])
  | release =>
    refine List.findSome?_eq_none_iff.trans ?_
    simp only [releaseFailure_eq_none]
    exact forall_indexedSites q.sites (fun x => releaseCount (x.tabs.map (·.release)) = 1)
  | tabTotal =>
    refine ite_eq_right_iff.trans ?_
    simp only [reduceCtorEq, imp_false, not_lt]
    rfl
  | sequence =>
    refine (sequenceFailure_eq_none _ _).trans ?_
    rw [CheckPasses, ← map_indexedTabs]
    simp [Function.comp_def]
  | thickness => simp [checkFailure, CheckPasses]
  | fiducial =>
    simp only [checkFailure, CheckPasses, ← inEnvelope_iff]
    cases inEnvelope q.header.f1 <;> cases inEnvelope q.header.f2 <;> simp
  | fidSpacing => simp [checkFailure, CheckPasses, fiducialSpacing_eq, Config.minSpacing]
  | origin => exact (siteCheck_eq_none q (fun x => !inEnvelope x.origin) _).trans (by simp [CheckPasses, ← inEnvelope_iff])
  | outline =>
    exact (siteCheck_eq_none q (fun x => decide (x.width = 0 ∨ x.height = 0)) _).trans (by simp [CheckPasses])
  | topHeight => exact (siteCheck_eq_none q (fun x => decide (25000 < x.topHeight)) _).trans (by simp [CheckPasses])
  | midpoint => exact (tabCheck_eq_none q (fun t => !inEnvelope t.mid) _).trans (by simp [CheckPasses, ← inEnvelope_iff])
  | width =>
    exact (tabCheck_eq_none q (fun t => decide (t.width < 500 ∨ 5000 < t.width)) _).trans (by simp [CheckPasses])
  | zoneCorner =>
    exact (zoneCheck_eq_none q (fun z => !inEnvelope z.low || !inEnvelope z.high) _).trans
      (by simp [CheckPasses, ← inEnvelope_iff])
  | zoneOrder =>
    exact (zoneCheck_eq_none q (fun z => decide (z.high.x < z.low.x ∨ z.high.y < z.low.y)) _).trans (by simp [CheckPasses])

/-! ### The validation -/

/-- Every check stands in the table. -/
theorem mem_all_checks (c : Check) : c ∈ Check.all := by
  cases c <;> decide

/-- The checks of R12 pass together exactly for a valid recipe. -/
theorem recipeFailure_eq_none (q : Recipe) : recipeFailure q.header q.sites q.zones = none ↔ RecipeValid q := by
  rw [recipeFailure_eq, List.findSome?_eq_none_iff, recipeValid_iff]
  exact ⟨fun h c => (checkFailure_eq_none q c).1 (h c (mem_all_checks c)), fun h c _ => (checkFailure_eq_none q c).2 (h c)⟩

/-- The codes of the checks rise down the table. -/
theorem codes_rise : Check.all.Pairwise (fun c d => c.code < d.code) := by
  decide

/-- A code names one check. -/
theorem code_injective (c d : Check) (h : c.code = d.code) : c = d := by
  have hall : ∀ c ∈ Check.all, ∀ d ∈ Check.all, c.code = d.code → c = d := by decide
  exact hall c (mem_all_checks c) d (mem_all_checks d) h

/-- A failure of the validation is what the first failing check finds. -/
theorem recipeFailure_first (q : Recipe) (f : Failure) (h : recipeFailure q.header q.sites q.zones = some f) :
    Reports q f ∧ ∀ g, Reports q g → f.check.code ≤ g.check.code := by
  rw [recipeFailure_eq, List.findSome?_eq_some_iff] at h
  obtain ⟨before, c, after, hall, hfound, hpass⟩ := h
  obtain ⟨rfl, hreports⟩ := (checkFailure_iff q c f).1 hfound
  refine ⟨hreports, fun g hg => ?_⟩
  have hgfound : checkFailure q g.check = some g := (checkFailure_iff q g.check g).2 ⟨rfl, hg⟩
  have hplace : g.check ∈ before ++ f.check :: after := hall ▸ mem_all_checks g.check
  have hrise : (before ++ f.check :: after).Pairwise (fun c d => c.code < d.code) := hall ▸ codes_rise
  rcases List.mem_append.1 hplace with hb | ha
  · rw [hpass _ hb] at hgfound
    cases hgfound
  · rcases List.mem_cons.1 ha with he | ha
    · rw [he]
    · exact ((List.pairwise_cons.1 (List.pairwise_append.1 hrise).2.1).1 _ ha).le

/-- The checks fail in table order: the report is that of the first that fails. -/
theorem recipeFailure_eq_some (q : Recipe) (f : Failure) :
    recipeFailure q.header q.sites q.zones = some f ↔ Reports q f ∧ ∀ g, Reports q g → f.check.code ≤ g.check.code := by
  refine ⟨recipeFailure_first q f, ?_⟩
  rintro ⟨hreports, hleast⟩
  have hfound : checkFailure q f.check = some f := (checkFailure_iff q f.check f).2 ⟨rfl, hreports⟩
  cases hfail : recipeFailure q.header q.sites q.zones with
  | none =>
    rw [(checkFailure_eq_none q f.check).2 ((recipeValid_iff q).1 ((recipeFailure_eq_none q).1 hfail) f.check)] at hfound
    cases hfound
  | some g =>
    obtain ⟨hg, hgleast⟩ := recipeFailure_first q g hfail
    have hsame : f.check = g.check := code_injective _ _ (le_antisymm (hleast g hg) (hgleast f hreports))
    have hgfound : checkFailure q f.check = some g := (checkFailure_iff q f.check g).2 ⟨hsame.symm, hg⟩
    exact hgfound.symm.trans hfound

/-- The first absent site of a staged recipe, as check 1 looks for it (R12). -/
def firstMissing (sites : List (Option RecipeSite)) : Option Nat := (sites.zipIdx.find? (fun si => si.1.isNone)).map Prod.snd

/-- Check 1 passes exactly when every site is present. -/
theorem firstMissing_eq_none (sites : List (Option RecipeSite)) : firstMissing sites = none ↔ ∀ x ∈ sites, x ≠ none := by
  have hsites : sites.zipIdx.map Prod.fst = sites := by simp
  conv_rhs => rw [← hsites]
  simp only [firstMissing, Option.map_eq_none_iff, List.find?_eq_none, List.mem_map, Option.isNone_iff_eq_none,
    forall_exists_index, and_imp, forall_apply_eq_imp_iff₂]

/-- Check 1 finds the lowest absent site. -/
theorem firstMissing_eq_some (sites : List (Option RecipeSite)) (k : Nat) (hk : sites[k]? = some none)
    (hlow : ∀ j, j < k → sites[j]? ≠ some none) : firstMissing sites = some k := by
  have hnumbered : (sites.zipIdx.map (fun si => (si.2, si.1))).find? (fun x => x.2.isNone) = some (k, none) := by
    refine (find?_numbered sites _ 0 k none).2 ⟨Nat.zero_le k, hk, rfl, fun j y _ hj hy => ?_⟩
    cases y with
    | none => exact absurd hy (hlow j hj)
    | some x => rfl
  rw [List.find?_map, Option.map_eq_some_iff] at hnumbered
  obtain ⟨⟨x, j⟩, hfind, hpair⟩ := hnumbered
  obtain ⟨rfl, rfl⟩ := Prod.mk.inj hpair
  exact congrArg (Option.map Prod.snd) hfind

/-- A staged recipe with an absent site fails check 1. -/
theorem validate_missing (r : StagedRecipe) (k : Nat) (hk : firstMissing r.sites = some k) :
    validate r = .error ⟨.missingSite, some k, none, none, none⟩ := by
  rw [firstMissing] at hk
  rw [validate, hk]
  rfl

/-- A staged recipe with every site present is validated as the recipe it stages. -/
theorem validate_complete (q : Recipe) :
    validate ⟨q.header, q.sites.map some, q.zones⟩ = (recipeFailure q.header q.sites q.zones).elim (.ok q) .error := by
  have hpresent : firstMissing (q.sites.map some) = none := (firstMissing_eq_none _).2 (by simp)
  have hsites : (q.sites.map some).filterMap id = q.sites := by simp [List.filterMap_map]
  rw [firstMissing] at hpresent
  simp only [validate, hpresent, hsites]
  cases recipeFailure q.header q.sites q.zones <;> rfl

/-- With every site present the validation reports what the first failing check does. -/
theorem validate_complete_eq_error (q : Recipe) (f : Failure) :
    validate ⟨q.header, q.sites.map some, q.zones⟩ = .error f ↔ recipeFailure q.header q.sites q.zones = some f := by
  rw [validate_complete]
  cases recipeFailure q.header q.sites q.zones <;> simp

/-- With every site present the validation commits the recipe exactly when it is valid. -/
theorem validate_complete_eq_ok (q q' : Recipe) :
    validate ⟨q.header, q.sites.map some, q.zones⟩ = .ok q' ↔ q = q' ∧ RecipeValid q := by
  rw [validate_complete, ← recipeFailure_eq_none]
  cases recipeFailure q.header q.sites q.zones <;> simp

/-- A list without an absent entry is the list of its entries. -/
theorem eq_map_some (sites : List (Option RecipeSite)) (h : ∀ x ∈ sites, x ≠ none) :
    sites = (sites.filterMap id).map some := by
  induction sites with
  | nil => rfl
  | cons x sites ih =>
    have hrest := ih fun y hy => h y (List.mem_cons_of_mem x hy)
    cases x with
    | none => exact absurd rfl (h none List.mem_cons_self)
    | some x => exact congrArg (some x :: ·) hrest

/-- A staged recipe is committed exactly when every site is present and the recipe it stages is valid. -/
theorem validate_eq_ok (r : StagedRecipe) (q : Recipe) :
    validate r = .ok q ↔ r.header = q.header ∧ r.zones = q.zones ∧ r.sites = q.sites.map some ∧ RecipeValid q := by
  obtain ⟨header, sites, zones⟩ := r
  constructor
  · intro hok
    cases hmissing : firstMissing sites with
    | some k => rw [validate_missing _ k hmissing] at hok; cases hok
    | none =>
      have hsites := eq_map_some sites ((firstMissing_eq_none sites).1 hmissing)
      rw [hsites] at hok
      obtain ⟨rfl, hvalid⟩ := (validate_complete_eq_ok ⟨header, sites.filterMap id, zones⟩ q).1 hok
      exact ⟨rfl, rfl, hsites, hvalid⟩
  · rintro ⟨rfl, rfl, rfl, hvalid⟩
    exact (validate_complete_eq_ok q q).2 ⟨rfl, hvalid⟩

/-- Settles O23: the validation is a search of the table of checks, each of which finds what R12 reports. -/
theorem validationAcceptsExactlyValidRecipes : Obligations.ValidationAcceptsExactlyValidRecipes := by
  refine ⟨validate_eq_ok, fun r k hk hlow => validate_missing r k (firstMissing_eq_some r.sites k hk hlow), rfl, fun q f => ?_⟩
  exact (validate_complete_eq_error q f).trans (recipeFailure_eq_some q f)

end Sys2Proof.Machine
end

section
/-! The reads (R16, R31, R80, R81, R159, R181, R190, R192): what each command answers, the bytes of a field, and the
fields of each answer. -/

namespace Sys2Proof.Machine

/-! ### What each read answers -/

/-- RECIPE-READ of a number of the store (R16). -/
theorem recipeRead_ok (s : State) (n : Fin 16) : recipeRead (BitVec.ofNat 8 n) s =
    (s, some (.ok (u8 n ++ u8 (if (s.slots[n]).isSome then 1 else 0) ++ headerFields s.slots[n] ++ u16 (s.inUse n)
      ++ stagingFields s.staging n))) := by
  rw [recipeRead, fin?_ofNat n (by decide)]

theorem recipeRead_range (s : State) (number : Byte) (h : 15 < number.toNat) :
    recipeRead number s = (s, some (.bare .range)) := by
  simp [recipeRead, fin?_eq_none.2 h]

/-- PANEL-READ of a FREE entry answers its state alone (R31). -/
theorem panelRead_free (s : State) (e : Fin 4) (h : s.panel e = none) :
    panelRead (BitVec.ofNat 8 e) s = (s, some (.ok [5])) := by
  rw [panelRead, fin?_ofNat e (by decide)]
  simp [h, freePanelCode, u8]

/-- PANEL-READ of a LIVE entry (R31). -/
theorem panelRead_live (s : State) (e : Fin 4) (p : Panel) (h : s.panel e = some p) :
    panelRead (BitVec.ofNat 8 e) s = (s, some (.ok (panelFields s e p))) := by
  rw [panelRead, fin?_ofNat e (by decide)]
  simp [h]

theorem panelRead_range (s : State) (entry : Byte) (h : 3 < entry.toNat) : panelRead entry s = (s, some (.bare .range)) := by
  simp [panelRead, fin?_eq_none.2 h]

/-- A FREE entry has no boards (R20). -/
theorem board_of_free (s : State) (h : BoardHandle) (hp : s.panel h.entry = none) : s.board h = none := by
  simp [State.board, State.boardsOf, hp]

/-- A board stands in a LIVE entry (R20). -/
theorem live_of_board (s : State) (h : BoardHandle) (b : BoardRecord) (hb : s.board h = some b) : s.panel h.entry ≠ none := by
  intro hp
  rw [board_of_free s h hp] at hb
  cases hb

/-- A tab is found in its board (R20). -/
theorem tab_of_board (s : State) (h : TabHandle) (b : BoardRecord) (hb : s.board h.board = some b) :
    s.tab h = b.tabs[h.tab]? := by
  simp [State.tab, hb]

theorem boardRead_range (s : State) (entry site : Byte) (h : 3 < entry.toNat ∨ 63 < site.toNat) :
    boardRead entry site s = (s, some (.bare .range)) := by
  rw [boardRead]
  split
  · rfl
  · next e he =>
    have hentry : ¬ 3 < entry.toNat := by have := fin?_eq_some.1 he; omega
    rw [if_pos (h.resolve_left hentry)]

theorem boardRead_noPanel (s : State) (e : Fin 4) (site : Byte) (hsite : site.toNat ≤ 63) (hp : s.panel e = none) :
    boardRead (BitVec.ofNat 8 e) site s = (s, some (.bare .noPanel)) := by
  rw [boardRead, fin?_ofNat e (by decide)]
  simp [hsite.not_gt, hp]

theorem boardRead_noRecord (s : State) (e : Fin 4) (site : Byte) (hsite : site.toNat ≤ 63) (hp : s.panel e ≠ none)
    (hb : s.board ⟨e, site.toNat⟩ = none) : boardRead (BitVec.ofNat 8 e) site s = (s, some (.bare .noRecord)) := by
  rw [boardRead, fin?_ofNat e (by decide)]
  simp [hsite.not_gt, hp, hb]

theorem boardRead_ok (s : State) (e : Fin 4) (site : Byte) (b : BoardRecord) (hsite : site.toNat ≤ 63)
    (hb : s.board ⟨e, site.toNat⟩ = some b) :
    boardRead (BitVec.ofNat 8 e) site s = (s, some (.ok (boardFields s ⟨e, site.toNat⟩ b))) := by
  rw [boardRead, fin?_ofNat e (by decide)]
  simp [hsite.not_gt, live_of_board s ⟨e, site.toNat⟩ b hb, hb]

theorem tabRead_range (s : State) (entry site tab : Byte) (h : 3 < entry.toNat ∨ 63 < site.toNat ∨ 7 < tab.toNat) :
    tabRead entry site tab s = (s, some (.bare .range)) := by
  rw [tabRead]
  split
  · rfl
  · next e he =>
    have hentry : ¬ 3 < entry.toNat := by have := fin?_eq_some.1 he; omega
    rw [if_pos (h.resolve_left hentry)]

theorem tabRead_noPanel (s : State) (e : Fin 4) (site tab : Byte) (hsite : site.toNat ≤ 63) (htab : tab.toNat ≤ 7)
    (hp : s.panel e = none) : tabRead (BitVec.ofNat 8 e) site tab s = (s, some (.bare .noPanel)) := by
  rw [tabRead, fin?_ofNat e (by decide)]
  simp [hsite.not_gt, htab.not_gt, hp]

theorem tabRead_noRecord (s : State) (e : Fin 4) (site tab : Byte) (hsite : site.toNat ≤ 63) (htab : tab.toNat ≤ 7)
    (hp : s.panel e ≠ none) (hx : s.tab ⟨e, site.toNat, tab.toNat⟩ = none) :
    tabRead (BitVec.ofNat 8 e) site tab s = (s, some (.bare .noRecord)) := by
  rw [tabRead, fin?_ofNat e (by decide)]
  simp [hsite.not_gt, htab.not_gt, hp, hx]

theorem tabRead_ok (s : State) (e : Fin 4) (site tab : Byte) (b : BoardRecord) (x : TabRecord) (hsite : site.toNat ≤ 63)
    (htab : tab.toNat ≤ 7) (hb : s.board ⟨e, site.toNat⟩ = some b) (hx : b.tabs[tab.toNat]? = some x) :
    tabRead (BitVec.ofNat 8 e) site tab s = (s, some (.ok (tabFields b x))) := by
  have htabAt : s.tab ⟨e, site.toNat, tab.toNat⟩ = some x := (tab_of_board s ⟨e, site.toNat, tab.toNat⟩ b hb).trans hx
  rw [tabRead, fin?_ofNat e (by decide)]
  simp [hsite.not_gt, htab.not_gt, live_of_board s ⟨e, site.toNat⟩ b hb, hb, htabAt]

/-- The codes of the twelve locations (R194). -/
theorem locationOf_places (p : Fin 4) : locationOf (BitVec.ofNat 8 p) = some (.currentOf p)
    ∧ locationOf (BitVec.ofNat 8 (0x10 + p)) = some (.nextOf p)
    ∧ locationOf (BitVec.ofNat 8 (0x20 + p)) = some (.outgoingAt p) := by
  revert p
  decide

/-- Every other code names no location (R159). -/
theorem locationOf_none (code : Byte) (h : ∀ p : Fin 4, code.toNat ≠ p ∧ code.toNat ≠ 0x10 + p ∧ code.toNat ≠ 0x20 + p) :
    locationOf code = none := by
  rw [locationOf]
  split
  · next b hb => exact absurd (fin?_eq_some.1 hb).symm (h b).1
  · next b _ hb =>
    have hplace := fin?_eq_some.1 hb
    have hcode := (h b).2.1
    exact if_neg (by omega)
  · next p _ _ hp =>
    have hplace := fin?_eq_some.1 hp
    have hcode := (h p).2.2
    exact if_neg (by omega)
  · rfl

theorem magRead_noLocation (s : State) (code first count : Byte) (h : locationOf code = none) :
    magRead code first count s = (s, some (.bare .range)) := by
  simp [magRead, h]

theorem magRead_noMagazine (s : State) (code first count : Byte) (l : Location) (h : locationOf code = some l)
    (hm : s.magazineAt l = none) : magRead code first count s = (s, some (.bare .noMagazine)) := by
  simp [magRead, h, hm]

/-- A count byte is zero when its number is. -/
theorem byte_eq_zero (b : Byte) : b = 0 ↔ b.toNat = 0 :=
  ⟨fun h => h ▸ rfl, fun h => BitVec.eq_of_toNat_eq h⟩

theorem magRead_range (s : State) (code first count : Byte) (l : Location) (m : Magazine) (h : locationOf code = some l)
    (hm : s.magazineAt l = some m) (hr : m.slots.length ≤ first.toNat ∨ count.toNat = 0 ∨ 16 < count.toNat) :
    magRead code first count s = (s, some (.bare .range)) := by
  simp only [magRead, h, hm, Magazine.slotCount, byte_eq_zero, hr, if_true]

theorem magRead_ok (s : State) (code first count : Byte) (l : Location) (m : Magazine) (h : locationOf code = some l)
    (hm : s.magazineAt l = some m) (hfirst : first.toNat < m.slots.length) (hlow : 1 ≤ count.toNat) (hhigh : count.toNat ≤ 16) :
    magRead code first count s = (s, some (.ok (magFields s l m first.toNat count.toNat))) := by
  have hok : ¬ (m.slots.length ≤ first.toNat ∨ count.toNat = 0 ∨ 16 < count.toNat) := by omega
  simp only [magRead, h, hm, Magazine.slotCount, byte_eq_zero, hok, if_false]

/-- CONFIG-READ of a setting answers the item and its value (R190). -/
theorem configRead_setting (s : State) (i : Fin 14) : configRead (BitVec.ofNat 8 i) s =
    (s, some (.ok (BitVec.ofNat 8 i :: u32 (s.settings.read i)))) := by
  simp only [configRead, fin?_ofNat i (by decide), configAnswer, u8_toNat]
  rfl

/-- Item 14 is the class enables (R190). -/
theorem configRead_enables (s : State) : configRead 14 s = (s, some (.ok (14 :: u32 s.fault.enables.toNat))) := rfl

theorem configRead_range (s : State) (item : Byte) (h : 14 < item.toNat) : configRead item s = (s, some (.bare .range)) := by
  have hitem : item ≠ 14 := fun he => absurd h (by subst he; decide)
  simp only [configRead, fin?_eq_none.2 h.le, if_neg hitem]

/-! ### The bytes of a field (R194) -/

/-- A signed field is the unsigned field of its residue. -/
theorem s24_eq (i : Int) : s24 i = u24 (i % 16777216).toNat := by
  rw [s24, BitVec.toNat_ofInt]
  rfl

theorem s32_eq (i : Int) : s32 i = u32 (i % 4294967296).toNat := by
  rw [s32, BitVec.toNat_ofInt]
  rfl

/-- The encoding of a wider field takes in a map of what it may hold. -/
theorem optWide_map {α β : Type} (width : Nat) (enc : β → List Byte) (g : α → β) (x : Option α) :
    optWide width enc (x.map g) = optWide width (fun a => enc (g a)) x := by
  cases x <;> rfl

/-- The form of a wider field determines it: a presence byte, then the bytes, 0 when absent. -/
theorem optWide_unique (wide : Nat → Option (List Byte) → List Byte)
    (hnone : ∀ width, wide width none = List.replicate (width + 1) 0)
    (hsome : ∀ width bytes, wide width (some bytes) = 1 :: bytes) : wide = fun width => optWide width id := by
  funext width x
  cases x with
  | none => exact hnone width
  | some bytes => exact hsome width bytes

/-! ### The fields of RECIPE-READ (R16) -/

/-- The staging mark of the number the staging is OPEN on. -/
theorem stagingFields_opened (n : Fin 16) (r : StagedRecipe) : stagingFields (.opened n r) n =
    [1] ++ optWide 2 id (some (u16 (r.sites.filter Option.isSome).length))
      ++ optWide 2 id (some (u16 (r.zones.toList.filter Option.isSome).length)) := by
  simp [stagingFields, flag, optWide, StagedRecipe.sitesReceived, zoneCount]

/-- The staging mark of every other number. -/
theorem stagingFields_other (st : Staging) (n : Fin 16) (h : ∀ r, st ≠ .opened n r) :
    stagingFields st n = [0] ++ optWide 2 id none ++ optWide 2 id none := by
  cases st with
  | closed => rfl
  | validating m r => rfl
  | opened m r =>
    have hm : m ≠ n := fun he => h r (by rw [he])
    simp [stagingFields, hm, flag, optWide]

/-- The in-use count as a count of the entries admitted with the number (R16). -/
theorem inUse_eq (s : State) (n : Fin 16) :
    s.inUse n = ((List.finRange 4).filter (fun e => decide ((s.panel e).map (·.recipe) = some n))).length := by
  have hentries : entries = List.finRange 4 := by decide
  rw [State.inUse, hentries]
  congr 2
  funext e
  cases s.panel e <;> simp

/-! ### The fields of PANEL-READ (R31) -/

/-- The live entries on a fixture. -/
theorem mem_onFixture (s : State) (f : Fin 2) (x : Fin 4) : x ∈ s.onFixture f ↔ ∃ q, s.panel x = some q ∧ q.fixture = f := by
  have hmem : ∀ y : Fin 4, y ∈ entries := by decide
  simp only [State.onFixture, List.mem_filter, hmem, true_and]
  cases s.panel x <;> simp

/-- The other entry on a fixture, by what it has to be. -/
theorem otherOnFixture_eq (s : State) (e : Fin 4) (f : Fin 2) (other : Option (Fin 4))
    (h : ∀ x, other = some x ↔ x ≠ e ∧ ∃ q, s.panel x = some q ∧ q.fixture = f) : s.otherOnFixture e f = other := by
  simp only [← mem_onFixture] at h
  cases hfind : s.otherOnFixture e f with
  | some x =>
    rw [State.otherOnFixture] at hfind
    have hne : x ≠ e := by simpa using List.find?_some hfind
    exact ((h x).2 ⟨hne, List.mem_of_find?_eq_some hfind⟩).symm
  | none =>
    cases other with
    | none => rfl
    | some y =>
      obtain ⟨hne, hy⟩ := (h y).1 rfl
      exact absurd (decide_eq_true hne) (List.find?_eq_none.1 hfind y hy)

/-- The tabs of an entry without their handles. -/
theorem map_tabsOf (s : State) (e : Fin 4) (p : Panel) (h : s.panel e = some p) :
    (s.tabsOf e).map Prod.snd = p.boards.flatMap (·.tabs) := by
  have htabs : ∀ (boards : List BoardRecord) n,
      (boards.zipIdx n).flatMap (fun bi => (tabsWithHandles ⟨e, bi.2⟩ bi.1).map Prod.snd) = boards.flatMap (·.tabs) := by
    intro boards
    induction boards with
    | nil => intro n; rfl
    | cons b boards ih =>
      intro n
      rw [List.zipIdx_cons, List.flatMap_cons, List.flatMap_cons, ih (n + 1)]
      simp [tabsWithHandles, Function.comp_def]
  simpa [State.tabsOf, State.boardsOf, h, List.map_flatMap] using htabs p.boards 0

/-- A count of the tabs of an entry, over their records alone. -/
theorem count_tabsOf (s : State) (e : Fin 4) (p : Panel) (h : s.panel e = some p) (test : TabRecord → Bool) :
    ((s.tabsOf e).filter (fun ht => test ht.2)).length = ((p.boards.flatMap (·.tabs)).filter test).length := by
  rw [← map_tabsOf s e p h, List.filter_map, List.length_map]
  rfl

/-- The QUEUED mark as a byte. -/
theorem u8_mark (P : Prop) [Decidable P] : u8 (if P then 1 else 0) = if P then [1] else [0] := by
  by_cases hP : P <;> simp [hP, u8]

theorem panelFields_eq (s : State) (e : Fin 4) (p : Panel) (other : Option (Fin 4)) (hp : s.panel e = some p)
    (hother : ∀ x, other = some x ↔ x ≠ e ∧ ∃ q, s.panel x = some q ∧ q.fixture = p.fixture) :
    panelFields s e p = u32 p.id.toNat ++ u8 p.recipe ++ u8 p.fixture ++ u8 p.state.code
      ++ (if p.state = .queued then [1] else [0]) ++ opt8 (other.map Fin.val)
      ++ optWide 4 id (p.correction.map (fun c => s32 c.c)) ++ optWide 4 id (p.correction.map (fun c => s32 c.s))
      ++ optWide 6 id (p.correction.map (fun c => pointBytes c.f1m)) ++ u8 p.boards.length
      ++ u16 (p.boards.flatMap (·.tabs)).length
      ++ BoardState.all.flatMap (fun st => u16 (p.boards.filter (fun b => decide (b.state = st))).length)
      ++ TabState.all.flatMap
        (fun st => u16 ((p.boards.flatMap (·.tabs)).filter (fun x => decide (x.state = st))).length)
      ++ flag (s.clampLevel p.fixture) := by
  have hlength : (s.tabsOf e).length = (p.boards.flatMap (·.tabs)).length := by rw [← map_tabsOf s e p hp, List.length_map]
  have hcount := fun st : TabState => count_tabsOf s e p hp (fun x => decide (x.state = st))
  simp only [panelFields, otherOnFixture_eq s e p.fixture other hother, u8_mark, optWide_map, id_eq, hcount, hlength]

/-! ### The fields of BOARD-READ and TAB-READ (R80, R81) -/

theorem holds_iff (v : VerdictHold) (h : BoardHandle) : v.holds h = true ↔ ∃ t, v = .holding h t := by
  cases v <;> simp [VerdictHold.holds]

theorem eligible_iff (b : BoardRecord) (x : TabRecord) : eligible b x = true ↔
    x.state = .intact ∧ ((x.release = false ∧ b.state = .cutting) ∨ (x.release = true ∧ b.state = .held)) :=
  decide_eq_true_iff

theorem boardFields_eq (s : State) (h : BoardHandle) (b : BoardRecord) (mark : Bool)
    (hmark : mark = true ↔ ∃ t, s.hold = .holding h t) :
    boardFields s h b = u8 b.site ++ u8 b.variant ++ pointBytes b.origin ++ u24 b.width ++ u24 b.height ++ u24 b.topHeight
      ++ optWide 6 id (b.pickPoint.map pointBytes) ++ u8 b.verdict.code ++ u8 b.remaining ++ u8 b.state.code
      ++ opt8 (b.reservation.map (fun r => r.bay.val)) ++ opt8 (b.reservation.map (·.slot)) ++ flag b.notedNoDest
      ++ flag b.notedUnfit ++ flag mark ++ b.tabs.flatMap (fun x => u8 x.state.code) := by
  have hheld : s.hold.holds h = mark := Bool.eq_iff_iff.2 ((holds_iff s.hold h).trans hmark.symm)
  simp only [boardFields, optReservation, hheld, optWide_map, id_eq, List.append_assoc]

theorem tabFields_eq (b : BoardRecord) (x : TabRecord) (mark : Bool)
    (hmark : mark = true ↔ x.state = .intact
      ∧ ((x.release = false ∧ b.state = .cutting) ∨ (x.release = true ∧ b.state = .held))) :
    tabFields b x = u8 x.ownerSite ++ u8 x.index ++ pointBytes x.nominal ++ u8 x.orient.code ++ u24 x.width ++ u8 x.seq
      ++ flag x.release ++ optWide 6 id (x.corrected.map pointBytes) ++ u8 x.state.code
      ++ opt8 (x.lastSpindle.map spindleCode)
      ++ optWide 12 id (x.corrected.map (fun m => rectBytes (segmentBox x.orient x.width m))) ++ flag mark := by
  have heligible : eligible b x = mark := Bool.eq_iff_iff.2 ((eligible_iff b x).trans hmark.symm)
  simp only [tabFields, heligible, optWide_map, id_eq]

/-! ### The fields of FAULT-READ (R181) -/

/-- A context record that is not empty. -/
theorem recordFields_some (c : Context) : recordFields (some c) = [0] ++ u8 c.cls.code ++ u8 c.cause.code
    ++ opt8 (c.station.map (fun l => l.idx.val)) ++ opt8 (c.bay.map Fin.val) ++ opt8 (c.entry.map Fin.val)
    ++ optWide 4 id (c.panelId.map (fun w => u32 w.toNat)) ++ opt8 c.site ++ opt8 c.tab ++ flag c.recoverable := by
  simp only [recordFields, Context.fields, optWide_map, id_eq, List.append_assoc]
  rfl

/-! ### The fields of MAG-READ (R159) -/

/-- The bay's part while no placement is being confirmed. -/
theorem readFields_unconfirmed (b : Bay) (h : b.confirm = none) : b.readFields =
    u8 b.state.code ++ flag b.go ++ opt8 b.target ++ opt8 (b.action.map BayAction.code)
      ++ ([0, 0xFF] ++ optWide 2 id none) := by
  simp [Bay.readFields, h, u8, opt8, optWide]

/-- The bay's part while a placement is being confirmed. -/
theorem readFields_confirming (b : Bay) (w : ConfirmWindow) (h : b.confirm = some w) : b.readFields =
    u8 b.state.code ++ flag b.go ++ opt8 b.target ++ opt8 (b.action.map BayAction.code)
      ++ ([1] ++ u8 w.slot ++ optWide 2 id (some (u16 w.remaining))) := by
  simp [Bay.readFields, h, u8, opt8, optWide]

/-! ### The reads together -/

/-- Settles O17: each read by its case, then the bytes of a field, then the fields of each answer. -/
theorem readsAnswerAndAlterNothing : Obligations.ReadsAnswerAndAlterNothing := by
  refine ⟨fun s hopen => ⟨?recipes, ?panels, ⟨?ranges, ?records⟩, ⟨locationOf_places, ?magazines⟩, ?settings, ?notices,
    ?faults⟩, ?bytes, fun wide hnone hsome => ?fields⟩
  case recipes =>
    exact ⟨fun n => exec_answered hopen (.inr rfl) rfl (recipeRead_ok { s with ovr := false } n),
      fun number h => exec_answered hopen (.inr rfl) rfl (recipeRead_range _ number h)⟩
  case panels =>
    refine ⟨fun e => ?_, fun entry h => exec_answered hopen (.inr rfl) rfl (panelRead_range _ entry h)⟩
    cases hp : s.panel e with
    | none => exact exec_answered hopen (.inr rfl) rfl (panelRead_free { s with ovr := false } e hp)
    | some p => exact exec_answered hopen (.inr rfl) rfl (panelRead_live { s with ovr := false } e p hp)
  case ranges =>
    exact fun entry site tab => ⟨fun h => exec_answered hopen (.inr rfl) rfl (boardRead_range _ entry site h),
      fun h => exec_answered hopen (.inr rfl) rfl (tabRead_range _ entry site tab h)⟩
  case records =>
    intro e site tab hsite
    refine ⟨fun hp => ?_, fun hp hb => ?_, fun b hb => ?_, fun htab => ⟨fun hp => ?_, fun hp hx => ?_, fun b x hb hx => ?_⟩⟩
    · exact exec_answered hopen (.inr rfl) rfl (boardRead_noPanel { s with ovr := false } e site hsite hp)
    · exact exec_answered hopen (.inr rfl) rfl (boardRead_noRecord { s with ovr := false } e site hsite hp hb)
    · exact exec_answered hopen (.inr rfl) rfl (boardRead_ok { s with ovr := false } e site b hsite hb)
    · exact exec_answered hopen (.inr rfl) rfl (tabRead_noPanel { s with ovr := false } e site tab hsite htab hp)
    · exact exec_answered hopen (.inr rfl) rfl (tabRead_noRecord { s with ovr := false } e site tab hsite htab hp hx)
    · exact exec_answered hopen (.inr rfl) rfl (tabRead_ok { s with ovr := false } e site tab b x hsite htab hb hx)
  case magazines =>
    intro code first count
    refine ⟨fun h => ?_, fun l hl => ⟨fun hm => ?_, fun m hm => ⟨fun hr => ?_, fun hfirst hlow hhigh => ?_⟩⟩⟩
    · exact exec_answered hopen (.inr rfl) rfl (magRead_noLocation _ code first count (locationOf_none code h))
    · exact exec_answered hopen (.inr rfl) rfl (magRead_noMagazine { s with ovr := false } code first count l hl hm)
    · exact exec_answered hopen (.inr rfl) rfl (magRead_range { s with ovr := false } code first count l m hl hm hr)
    · exact exec_answered hopen (.inr rfl) rfl
        (magRead_ok { s with ovr := false } code first count l m hl hm hfirst hlow hhigh)
  case settings =>
    exact ⟨fun i => exec_answered hopen (.inr rfl) rfl (configRead_setting { s with ovr := false } i),
      exec_answered hopen (.inr rfl) rfl (configRead_enables { s with ovr := false }),
      fun item h => exec_answered hopen (.inr rfl) rfl (configRead_range _ item h)⟩
  case notices => exact exec_answered hopen (.inr rfl) rfl rfl
  case faults => exact exec_answered hopen (.inr rfl) rfl rfl
  case bytes => exact fun n i b p z => ⟨rfl, rfl, rfl, rfl, s24_eq i, s32_eq i, rfl, rfl, rfl, rfl, rfl⟩
  case fields =>
    obtain rfl := optWide_unique wide hnone hsome
    refine ⟨⟨rfl, fun r => rfl, stagingFields_opened, stagingFields_other, inUse_eq⟩, panelFields_eq, boardFields_eq,
      fun b x mark hmark => ?_, ?_, fun m => rfl, rfl, recordFields_some⟩
    · rw [tabFields_eq b x mark hmark]
      rcases x.lastSpindle with _ | _ | _ <;> rfl
    · intro s l m first count placed slot bay
      have hslot : Slot.fields = slot := by
        funext x
        cases x <;> rfl
      have hbay : Bay.readFields = bay := by
        funext b
        cases hconfirm : b.confirm with
        | none =>
          simp only [readFields_unconfirmed b hconfirm, bay, hconfirm]
          rcases b.action with _ | _ | _ <;> rfl
        | some w =>
          simp only [readFields_confirming b w hconfirm, bay, hconfirm]
          rcases b.action with _ | _ | _ <;> rfl
      refine ⟨fun b => ⟨rfl, rfl, rfl⟩, ?_⟩
      rw [← hslot, ← hbay]
      cases l <;> rfl

end Sys2Proof.Machine
end

section
/-! The candidate list of NEXT-TAB (R101, R102): which tabs stand in it, and in which order. -/

namespace Sys2Proof.Machine

/-! ### The boards and tabs walked -/

theorem mem_entries (e : Fin 4) : e ∈ entries := by
  fin_cases e <;> simp [entries]

theorem mem_allBoards (s : State) (h : BoardHandle) (b : BoardRecord) : (h, b) ∈ s.allBoards ↔ s.board h = some b := by
  simp only [State.allBoards, List.mem_flatMap, List.mem_map, Prod.exists, Prod.mk.injEq]
  constructor
  · rintro ⟨e, -, b', i, hb, rfl, rfl⟩
    exact List.mem_zipIdx_iff_getElem?.1 hb
  · intro hb
    exact ⟨h.entry, mem_entries _, b, h.site, List.mem_zipIdx_iff_getElem?.2 hb, rfl, rfl⟩

theorem mem_boardCandidates (g : BoardHandle) (b : BoardRecord) (test : TabRecord → Bool) (h : TabHandle) (x : TabRecord)
    (m : Point) : (⟨h, x, m⟩ : Candidate) ∈ boardCandidates g b test ↔
      h.board = g ∧ b.tabs[h.tab]? = some x ∧ test x = true ∧ x.corrected = some m := by
  simp only [boardCandidates, tabsWithHandles, candidateOf, List.mem_filterMap, List.mem_filter, List.mem_map, Prod.exists,
    Option.map_eq_some_iff, Prod.mk.injEq, Candidate.mk.injEq]
  constructor
  · rintro ⟨h', x', ⟨⟨y, i, hy, rfl, rfl⟩, ht⟩, n, hn, rfl, rfl, rfl⟩
    exact ⟨rfl, List.mem_zipIdx_iff_getElem?.1 hy, ht, hn⟩
  · rintro ⟨rfl, hx, ht, hm⟩
    exact ⟨h, x, ⟨⟨x, h.tab, List.mem_zipIdx_iff_getElem?.2 hx, rfl, rfl⟩, ht⟩, m, hm, rfl, rfl, rfl⟩

/-! ### The order of the cut sequence -/

/-- The model's insertion is the library's, so that its lemmas about sorting apply. -/
theorem insertBySeq_eq (c : Candidate) (l : List Candidate) :
    insertBySeq c l = l.orderedInsert (fun a b : Candidate => a.tab.seq ≤ b.tab.seq) c := by
  induction l with
  | nil => rfl
  | cons d rest ih => simp only [insertBySeq, List.orderedInsert, ih]

theorem sortBySeq_eq (l : List Candidate) :
    sortBySeq l = l.insertionSort (fun a b : Candidate => a.tab.seq ≤ b.tab.seq) := by
  induction l with
  | nil => rfl
  | cons c rest ih =>
    rw [List.insertionSort_cons, ← ih, ← insertBySeq_eq]
    rfl

theorem mem_sortBySeq (c : Candidate) (l : List Candidate) : c ∈ sortBySeq l ↔ c ∈ l := by
  rw [sortBySeq_eq, List.mem_insertionSort]

theorem pairwise_sortBySeq (l : List Candidate) : (sortBySeq l).Pairwise (fun c d => c.tab.seq ≤ d.tab.seq) := by
  have htotal : Std.Total (fun c d : Candidate => c.tab.seq ≤ d.tab.seq) := ⟨fun _ _ => Nat.le_total _ _⟩
  have htrans : IsTrans Candidate (fun c d => c.tab.seq ≤ d.tab.seq) := ⟨fun _ _ _ => Nat.le_trans⟩
  rw [sortBySeq_eq]
  exact List.pairwise_insertionSort _ l

/-! ### The two groups of the list -/

theorem workable_iff (s : State) (p : Panel) : s.workable p = true ↔ p.state = .aligned ∧ s.clampLevel p.fixture = true := by
  simp [State.workable]

theorem entryWorkable_iff (s : State) (e : Fin 4) : s.entryWorkable e = true ↔
    ∃ p, s.panel e = some p ∧ p.state = .aligned ∧ s.clampLevel p.fixture = true := by
  unfold State.entryWorkable
  cases hp : s.panel e <;> simp [workable_iff]

theorem mem_workableOn (s : State) (f : Fin 2) (e : Fin 4) : e ∈ s.workableOn f ↔
    ∃ p, s.panel e = some p ∧ p.fixture = f ∧ p.state = .aligned ∧ s.clampLevel p.fixture = true := by
  rw [State.workableOn, List.mem_filter]
  cases hp : s.panel e <;> simp [mem_entries, workable_iff]

theorem mem_releaseCandidates (s : State) (h : TabHandle) (x : TabRecord) (m : Point) :
    (⟨h, x, m⟩ : Candidate) ∈ s.releaseCandidates ↔ s.entryWorkable h.entry = true ∧ ∃ b, s.board h.board = some b
      ∧ b.state = .held ∧ b.tabs[h.tab]? = some x ∧ x.release = true ∧ x.state = .intact ∧ x.corrected = some m := by
  simp only [State.releaseCandidates, List.mem_flatMap, Prod.exists, mem_allBoards, List.mem_ite_nil_right,
    mem_boardCandidates, decide_eq_true_eq]
  constructor
  · rintro ⟨_, b, hb, ⟨hheld, hwork⟩, rfl, hx, ⟨hrel, hint⟩, hm⟩
    exact ⟨hwork, b, hb, hheld, hx, hrel, hint, hm⟩
  · rintro ⟨hwork, b, hb, hheld, hx, hrel, hint, hm⟩
    exact ⟨h.board, b, hb, ⟨hheld, hwork⟩, rfl, hx, ⟨hrel, hint⟩, hm⟩

theorem mem_cuttingTabs (s : State) (e : Fin 4) (h : TabHandle) (x : TabRecord) (m : Point) :
    (⟨h, x, m⟩ : Candidate) ∈ s.cuttingTabs e ↔ h.entry = e ∧ ∃ b, s.board h.board = some b
      ∧ b.state = .cutting ∧ b.tabs[h.tab]? = some x ∧ x.release = false ∧ x.state = .intact ∧ x.corrected = some m := by
  simp only [State.cuttingTabs, List.mem_flatMap, Prod.exists, List.mem_zipIdx_iff_getElem?, List.mem_ite_nil_right,
    mem_boardCandidates, decide_eq_true_eq]
  constructor
  · rintro ⟨b, i, hb, hcut, hi, hx, ⟨hrel, hint⟩, hm⟩
    obtain ⟨rfl, rfl⟩ := BoardHandle.mk.inj hi
    exact ⟨rfl, b, hb, hcut, hx, hrel, hint, hm⟩
  · rintro ⟨rfl, b, hb, hcut, hx, hrel, hint, hm⟩
    exact ⟨b, h.site, hb, hcut, rfl, hx, ⟨hrel, hint⟩, hm⟩

/-- The candidates of one fixture, in the order of their cut sequence (R101). -/
def State.fixtureCandidates (s : State) (f : Fin 2) : List Candidate := sortBySeq ((s.workableOn f).flatMap s.cuttingTabs)

theorem otherCandidates_eq (s : State) : s.otherCandidates = s.fixtureCandidates 0 ++ s.fixtureCandidates 1 := by
  simp [State.otherCandidates, State.fixtureCandidates]

theorem mem_fixtureCandidates (s : State) (f : Fin 2) (h : TabHandle) (x : TabRecord) (m : Point) :
    (⟨h, x, m⟩ : Candidate) ∈ s.fixtureCandidates f ↔ h.entry ∈ s.workableOn f ∧ ∃ b, s.board h.board = some b
      ∧ b.state = .cutting ∧ b.tabs[h.tab]? = some x ∧ x.release = false ∧ x.state = .intact ∧ x.corrected = some m := by
  simp only [State.fixtureCandidates, mem_sortBySeq, List.mem_flatMap, mem_cuttingTabs]
  constructor
  · rintro ⟨e, he, rfl, hb⟩
    exact ⟨he, hb⟩
  · rintro ⟨he, hb⟩
    exact ⟨h.entry, he, rfl, hb⟩

theorem entryWorkable_iff_mem (s : State) (e : Fin 4) :
    s.entryWorkable e = true ↔ e ∈ s.workableOn 0 ∨ e ∈ s.workableOn 1 := by
  simp only [entryWorkable_iff, mem_workableOn, ← exists_or]
  refine exists_congr fun p => ?_
  have hf : p.fixture = 0 ∨ p.fixture = 1 := by omega
  tauto

theorem mem_otherCandidates (s : State) (h : TabHandle) (x : TabRecord) (m : Point) :
    (⟨h, x, m⟩ : Candidate) ∈ s.otherCandidates ↔ s.entryWorkable h.entry = true ∧ ∃ b, s.board h.board = some b
      ∧ b.state = .cutting ∧ b.tabs[h.tab]? = some x ∧ x.release = false ∧ x.state = .intact ∧ x.corrected = some m := by
  rw [otherCandidates_eq, List.mem_append, mem_fixtureCandidates, mem_fixtureCandidates, ← or_and_right, entryWorkable_iff_mem]

theorem tab_eq_some (s : State) (h : TabHandle) (x : TabRecord) :
    s.tab h = some x ↔ ∃ b, s.board h.board = some b ∧ b.tabs[h.tab]? = some x := by
  unfold State.tab
  cases s.board h.board <;> simp

/-- The whole list: the tabs eligible on a workable panel, with the midpoint of each (R32, R66, R101). -/
theorem mem_candidates (s : State) (h : TabHandle) (x : TabRecord) (m : Point) :
    (⟨h, x, m⟩ : Candidate) ∈ s.candidates ↔
      ∃ p b, s.panel h.entry = some p ∧ p.state = .aligned ∧ s.clampLevel p.fixture = true ∧ s.board h.board = some b
        ∧ s.tab h = some x ∧ x.corrected = some m ∧ x.state = .intact
        ∧ ((x.release = false ∧ b.state = .cutting) ∨ (x.release = true ∧ b.state = .held)) := by
  rw [State.candidates, List.mem_append, mem_releaseCandidates, mem_otherCandidates, entryWorkable_iff]
  constructor
  · rintro (⟨⟨p, hp, hal, hcl⟩, b, hb, hst, hx, hrel, hint, hm⟩ | ⟨⟨p, hp, hal, hcl⟩, b, hb, hst, hx, hrel, hint, hm⟩)
    · exact ⟨p, b, hp, hal, hcl, hb, (tab_of_board s h b hb).trans hx, hm, hint, .inr ⟨hrel, hst⟩⟩
    · exact ⟨p, b, hp, hal, hcl, hb, (tab_of_board s h b hb).trans hx, hm, hint, .inl ⟨hrel, hst⟩⟩
  · rintro ⟨p, b, hp, hal, hcl, hb, hx, hm, hint, hkind⟩
    have hx' := (tab_of_board s h b hb).symm.trans hx
    rcases hkind with ⟨hrel, hst⟩ | ⟨hrel, hst⟩
    · exact .inr ⟨⟨p, hp, hal, hcl⟩, b, hb, hst, hx', hrel, hint, hm⟩
    · exact .inl ⟨⟨p, hp, hal, hcl⟩, b, hb, hst, hx', hrel, hint, hm⟩

theorem fixture_of_mem (s : State) (f : Fin 2) (c : Candidate) (hc : c ∈ s.fixtureCandidates f) (p : Panel)
    (hp : s.panel c.handle.entry = some p) : p.fixture = f := by
  obtain ⟨q, hq, hf, -⟩ := (mem_workableOn s f _).1 ((mem_fixtureCandidates s f c.handle c.tab c.mid).1 hc).1
  exact Option.some.inj (hp.symm.trans hq) ▸ hf

/-- Within a fixture the cut sequence decides, and fixture 0 comes before fixture 1 (R101). -/
theorem pairwise_otherCandidates (s : State) : s.otherCandidates.Pairwise (fun c d => ∀ p q,
    s.panel c.handle.entry = some p → s.panel d.handle.entry = some q →
      p.fixture < q.fixture ∨ (p.fixture = q.fixture ∧ c.tab.seq ≤ d.tab.seq)) := by
  have within : ∀ f, (s.fixtureCandidates f).Pairwise (fun c d => ∀ p q, s.panel c.handle.entry = some p →
      s.panel d.handle.entry = some q → p.fixture < q.fixture ∨ (p.fixture = q.fixture ∧ c.tab.seq ≤ d.tab.seq)) := by
    intro f
    refine (pairwise_sortBySeq _).imp_of_mem fun {c d} hc hd hseq p q hp hq => .inr ⟨?_, hseq⟩
    rw [fixture_of_mem s f c hc p hp, fixture_of_mem s f d hd q hq]
  rw [otherCandidates_eq, List.pairwise_append]
  refine ⟨within 0, within 1, fun c hc d hd p q hp hq => .inl ?_⟩
  rw [fixture_of_mem s 0 c hc p hp, fixture_of_mem s 1 d hd q hq]
  decide

/-- Settles O36: membership by the two groups of R101, whose second is sorted fixture by fixture. -/
theorem candidatesAreTheEligibleTabs : Obligations.CandidatesAreTheEligibleTabs := by
  refine fun s => ⟨mem_candidates s, s.releaseCandidates, s.otherCandidates, rfl, fun c hc => ?_, fun c hc => ?_,
    pairwise_otherCandidates s⟩
  · obtain ⟨-, b, -, -, -, hrel, -⟩ := (mem_releaseCandidates s c.handle c.tab c.mid).1 hc
    exact hrel
  · obtain ⟨-, b, -, -, -, hrel, -⟩ := (mem_otherCandidates s c.handle c.tab c.mid).1 hc
    exact hrel

end Sys2Proof.Machine
end

section
/-! A row and its frame: what a host command's payload and a station request's fields carry to the owning block is what the row
hands it. A fact proved for every payload then holds of every row. -/

namespace Sys2Proof.Machine

/-! ### Fields read back -/

/-- A byte counted from a place of a payload. -/
theorem byteAt_add (p : List Byte) (i k : Nat) : byteAt p (i + k) = byteAt (p.drop i) k := by
  simp [byteAt, List.getD_eq_getElem?_getD]

theorem wordAt_of_drop {p rest : List Byte} {w : Word} {i : Nat} (h : p.drop i = wordBytes w ++ rest) : wordAt p i = w := by
  have hw := w.isLt
  have hbyte := byteAt_add p i
  rw [wordAt, show byteAt p i = byteAt (p.drop i) 0 from hbyte 0, hbyte, hbyte, hbyte, h]
  apply BitVec.eq_of_toNat_eq
  simp only [wordBytes, u32, byteAt, List.cons_append, List.getD_cons_zero, List.getD_cons_succ, BitVec.toNat_ofNat]
  omega

theorem halfAt_of_drop {p rest : List Byte} {w : Half} {i : Nat} (h : p.drop i = halfBytes w ++ rest) :
    BitVec.ofNat 16 (halfAt p i) = w := by
  have hw := w.isLt
  have hbyte := byteAt_add p i
  rw [halfAt, show byteAt p i = byteAt (p.drop i) 0 from hbyte 0, hbyte, h]
  apply BitVec.eq_of_toNat_eq
  simp only [halfBytes, u16, byteAt, List.cons_append, List.getD_cons_zero, List.getD_cons_succ, BitVec.toNat_ofNat]
  omega

theorem coordAt_of_drop {p rest : List Byte} {c : Coord} {i : Nat} (h : p.drop i = coordBytes c ++ rest) : coordAt p i = c := by
  have hc := c.isLt
  have hbyte := byteAt_add p i
  rw [coordAt, show byteAt p i = byteAt (p.drop i) 0 from hbyte 0, hbyte, hbyte, h]
  apply BitVec.eq_of_toNat_eq
  simp only [coordBytes, u24, byteAt, List.cons_append, List.getD_cons_zero, List.getD_cons_succ, BitVec.toNat_ofNat]
  omega

/-! ### The rows -/

/-- A host command's payload, at its owning block, is the command of its row. -/
theorem exec_host_frame {c : Instr} {name : CommandName} (h : hostCommand c = some name) (s : State) :
    exec c s = .next (s.takeCommandOr name (commandBlock name (hostPayload c))) := by
  have with_word : ∀ (name : CommandName) (f : Word → Command) (w : Word) (p rest : List Byte) (i : Nat),
      p.drop i = wordBytes w ++ rest →
      Host.Outcome.next (ρ := Refusal) (φ := Fault) (s.takeCommand name (f w)) = .next (s.takeCommand name (f (wordAt p i))) :=
    fun _ _ _ _ _ _ hp => by rw [wordAt_of_drop hp]
  cases c
  case panelAdmit id recipe fixture =>
    cases h
    exact with_word _ (fun w => panelAdmit w recipe fixture) id _ _ 0 rfl
  case bitChange sp limit total =>
    cases h
    exact (with_word _ (fun w => bitChange sp w total) limit _ _ 1 rfl).trans
      (with_word _ (fun w => bitChange sp _ w) total _ [] 5 rfl)
  case zoneSet zone lowX lowY highX highY mode enable =>
    cases h
    have hp : commandOn .zoneSet (hostPayload (.zoneSet zone lowX lowY highX highY mode enable)) =
        zoneSet zone (coordPoint lowX lowY) (coordPoint highX highY) mode enable := by
      simp only [commandOn]
      rw [coordAt_of_drop (c := lowX) rfl, coordAt_of_drop (c := lowY) rfl, coordAt_of_drop (c := highX) rfl,
        coordAt_of_drop (c := highY) rfl]
      rfl
    exact congrArg (fun command => Host.Outcome.next (s.takeCommand .zoneSet command)) hp.symm
  case magStage bay id slots pitch clearance =>
    cases h
    have hp : commandOn .magStage (hostPayload (.magStage bay id slots pitch clearance)) =
        magStage bay id slots pitch clearance := by
      simp only [commandOn]
      rw [wordAt_of_drop (w := id) rfl, halfAt_of_drop (w := pitch) rfl, halfAt_of_drop (w := clearance) (rest := []) rfl]
      rfl
    exact congrArg (fun command => Host.Outcome.next (s.takeCommand .magStage command)) hp.symm
  case magRelease id =>
    cases h
    exact with_word _ magRelease id _ [] 0 rfl
  case configSet item value =>
    cases h
    exact with_word _ (configSet item) value _ [] 1 rfl
  case noticeWriteSet mask =>
    cases h
    exact with_word _ (noticeWrite 0) mask _ [] 1 rfl
  case noticeWriteClear mask =>
    cases h
    exact with_word _ (noticeWrite 1) mask _ [] 1 rfl
  case noticeWriteEnable mask =>
    cases h
    exact with_word _ (noticeWrite 2) mask _ [] 1 rfl
  case noticeWriteDisable mask =>
    cases h
    exact with_word _ (noticeWrite 3) mask _ [] 1 rfl
  case noticeWriteGroupEnable mask =>
    cases h
    exact with_word _ (noticeWrite 4) mask _ [] 1 rfl
  case noticeWriteGroupDisable mask =>
    cases h
    exact with_word _ (noticeWrite 5) mask _ [] 1 rfl
  all_goals cases h <;> rfl

/-- A station request's fields, at their owning block, are the request of its row. -/
theorem exec_station_frame {c : Instr} {l : LineId} {name : RequestName} {f : List Byte} (h : stationRequest c = some (l, name, f))
    (s : State) : exec c s = .next (s.takeRequest l name (requestBlock l name f)) := by
  cases c
  case fiducial entry x1 y1 x2 y2 =>
    cases h
    have hp : requestBlock .vision .fiducial ([entry] ++ coordBytes x1 ++ coordBytes y1 ++ coordBytes x2 ++ coordBytes y2) =
        fiducial entry (coordPoint x1 y1) (coordPoint x2 y2) := by
      simp only [requestBlock]
      rw [coordAt_of_drop (c := x1) rfl, coordAt_of_drop (c := y1) rfl, coordAt_of_drop (c := x2) rfl,
        coordAt_of_drop (c := y2) (rest := []) rfl]
      rfl
    exact congrArg (fun request => Host.Outcome.next (s.takeRequest .vision .fiducial request)) hp.symm
  case nextTab sp => cases sp <;> cases h <;> rfl
  case tabDone sp entry site tab => cases sp <;> cases h <;> rfl
  case tabFault sp entry site tab reason => cases sp <;> cases h <;> rfl
  case progress l => cases l <;> cases h <;> rfl
  all_goals cases h <;> rfl

end Sys2Proof.Machine
end

section
/-! The tabs given out: which tabs of a Panel Table are ASSIGNED, what each operation on its records does to them, and that no host
command adds one. -/

namespace Sys2Proof.Machine

/-! ### The tabs given out -/

/-- The tab at a place of a panel is ASSIGNED. -/
def Panel.Working (p : Panel) (site tab : Nat) : Prop :=
  ∃ b x, p.boards[site]? = some b ∧ b.tabs[tab]? = some x ∧ x.state = .assigned

/-- The tab a handle names in a Panel Table is ASSIGNED. -/
def workIn (v : Vector (Option Panel) 4) (h : TabHandle) : Prop := ∃ p, v[h.entry] = some p ∧ p.Working h.site h.tab

/-- Every tab that is ASSIGNED in the second state was so in the first. -/
def NoNewWork (s t : State) : Prop := ∀ h, workIn t.panels h → workIn s.panels h

theorem workIn_iff_board (s : State) (h : TabHandle) : workIn s.panels h ↔
    ∃ b x, s.board h.board = some b ∧ b.tabs[h.tab]? = some x ∧ x.state = .assigned := by
  have hboard : s.board h.board = (s.panel h.entry).bind (fun p => p.boards[h.site]?) := by
    simp only [State.board, State.boardsOf, TabHandle.board]
    cases s.panel h.entry <;> rfl
  rw [hboard]
  change (∃ p, s.panel h.entry = some p ∧ _) ↔ _
  cases s.panel h.entry <;> simp [Panel.Working]

theorem workIn_iff_tab (s : State) (h : TabHandle) : workIn s.panels h ↔ ∃ x, s.tab h = some x ∧ x.state = .assigned := by
  rw [workIn_iff_board, State.tab]
  cases s.board h.board <;> simp

theorem NoNewWork.refl (s : State) : NoNewWork s s := fun _ => id

theorem NoNewWork.trans {s t u : State} (h : NoNewWork s t) (k : NoNewWork t u) : NoNewWork s u := fun g hg => h g (k g hg)

theorem NoNewWork.of_workIn {s t : State} (h : workIn t.panels = workIn s.panels) : NoNewWork s t :=
  fun g hg => congrFun h g ▸ hg

theorem NoNewWork.of_panels {s t : State} (h : t.panels = s.panels) : NoNewWork s t := .of_workIn (congrArg workIn h)

/-- A panel written to an entry gives out no tab that the entry's panel had not given out. -/
theorem NoNewWork.setPanel (s : State) (e : Fin 4) (q : Option Panel)
    (h : ∀ p' site tab, q = some p' → p'.Working site tab → ∃ p, s.panel e = some p ∧ p.Working site tab) :
    NoNewWork s (s.setPanel e q) := by
  rintro g ⟨p', hp', hwork⟩
  change (s.setPanel e q).panel g.entry = some p' at hp'
  by_cases he : e = g.entry
  · subst he
    rw [panel_setPanel] at hp'
    exact h p' _ _ hp' hwork
  · rw [panel_setPanel_ne s e _ q he] at hp'
    exact ⟨p', hp', hwork⟩

/-! ### What the operations on the records do to the tabs given out -/

theorem workIn_modifyBoard (s : State) (h : BoardHandle) (f : BoardRecord → BoardRecord)
    (hf : ∀ (b : BoardRecord) (i : Nat), (∃ x, (f b).tabs[i]? = some x ∧ x.state = .assigned) ↔
      ∃ x, b.tabs[i]? = some x ∧ x.state = .assigned) :
    workIn (s.modifyBoard h f).panels = workIn s.panels := by
  funext g
  rw [eq_iff_iff, workIn_iff_board, workIn_iff_board]
  by_cases hg : h = g.board
  · rw [← hg, board_modifyBoard]
    cases s.board h with
    | none => simp
    | some b => simpa using hf b g.tab
  · rw [board_modifyBoard_ne s h g.board f hg]

/-- A change of a board's own fields. -/
@[simp] theorem workIn_modifyBoard_tabs (s : State) (h : BoardHandle) (f : BoardRecord → BoardRecord)
    (hf : ∀ b, (f b).tabs = b.tabs) : workIn (s.modifyBoard h f).panels = workIn s.panels :=
  workIn_modifyBoard s h f fun b i => by rw [hf b]

@[simp] theorem tabs_toCut (b : BoardRecord) (v : Verdict) : (b.toCut v).tabs = b.tabs := rfl

@[simp] theorem tabs_afterRelease (b : BoardRecord) : b.afterRelease.tabs = b.tabs := rfl

@[simp] theorem tabs_afterNonRelease (b : BoardRecord) : b.afterNonRelease.tabs = b.tabs := rfl

/-- A panel written in place of one with the same boards. -/
theorem workIn_setPanel_boards (s : State) (e : Fin 4) (p q : Panel) (hp : s.panel e = some p) (hq : q.boards = p.boards) :
    workIn (s.setPanel e (some q)).panels = workIn s.panels := by
  funext g
  change (∃ p', (s.setPanel e (some q)).panel g.entry = some p' ∧ _) = ∃ p', s.panel g.entry = some p' ∧ _
  by_cases he : e = g.entry
  · subst he
    simp [hp, Panel.Working, hq]
  · rw [panel_setPanel_ne s e _ _ he]

@[simp] theorem workIn_clearingTest (s : State) (e : Fin 4) : workIn (s.clearingTest e).panels = workIn s.panels := by
  unfold State.clearingTest
  split
  · next p hp =>
    split
    · simpa only [raise_fields] using workIn_setPanel_boards s e p { p with state := .cleared } hp rfl
    · rfl
  · rfl

@[simp] theorem workIn_setBoardState (s : State) (h : BoardHandle) (b : BoardState) :
    workIn (s.setBoardState h b).panels = workIn s.panels := by
  simp [State.setBoardState]

@[simp] theorem workIn_setBoardTerminal (s : State) (h : BoardHandle) (b : BoardState) :
    workIn (s.setBoardTerminal h b).panels = workIn s.panels := by
  simp [State.setBoardTerminal]

@[simp] theorem workIn_cancelReservation (s : State) (h : BoardHandle) :
    workIn (s.cancelReservation h).panels = workIn s.panels := by
  unfold State.cancelReservation
  repeat' split
  all_goals simp

@[simp] theorem workIn_occupySlot (s : State) (h : BoardHandle) :
    workIn (s.occupySlot h).panels = workIn s.panels := by
  unfold State.occupySlot
  repeat' split
  all_goals simp

@[simp] theorem workIn_writeVerdict (s : State) (h : BoardHandle) (v : Verdict) :
    workIn (s.writeVerdict h v).panels = workIn s.panels := by
  simp [State.writeVerdict]

/-- SKIPPED takes the place of INTACT alone (R61). -/
@[simp] theorem skip_assigned (x : TabRecord) : x.skip.state = .assigned ↔ x.state = .assigned := by
  unfold TabRecord.skip
  split <;> simp_all

@[simp] theorem workIn_applyVerdict (s : State) (h : BoardHandle) (v : Verdict) :
    workIn (s.applyVerdict h v).panels = workIn s.panels := by
  unfold State.applyVerdict
  split
  · split
    · exact workIn_modifyBoard_tabs s h _ fun _ => rfl
    · rw [workIn_clearingTest]
      exact workIn_modifyBoard s h _ fun b i => by simp [BoardRecord.leaveInFrame]
  · exact workIn_modifyBoard_tabs s h _ fun _ => rfl

@[simp] theorem workIn_settleVerdict (s : State) (h : BoardHandle) (v : Verdict) :
    workIn (s.settleVerdict h v).panels = workIn s.panels := by
  unfold State.settleVerdict
  repeat' split
  all_goals simp

@[simp] theorem workIn_abandonPick (s : State) (h : BoardHandle) :
    workIn (s.abandonPick h).panels = workIn s.panels := by
  simp [State.abandonPick]

@[simp] theorem workIn_loseBoard (s : State) (h : BoardHandle) :
    workIn (s.loseBoard h).panels = workIn s.panels := by
  simp [State.loseBoard]

@[simp] theorem workIn_noteNoDest (s : State) (h : BoardHandle) :
    workIn (s.noteNoDest h).panels = workIn s.panels := by
  unfold State.noteNoDest
  repeat' split
  all_goals simp

@[simp] theorem workIn_noteUnfit (s : State) (h : BoardHandle) :
    workIn (s.noteUnfit h).panels = workIn s.panels := by
  unfold State.noteUnfit
  repeat' split
  all_goals simp

/-- The tab a handle names, after a tab is changed. -/
theorem tab_modifyTab_ne (s : State) (h g : TabHandle) (f : TabRecord → TabRecord) (hne : h ≠ g) :
    (s.modifyTab h f).tab g = s.tab g := by
  unfold State.tab State.modifyTab
  by_cases hb : h.board = g.board
  · have ht : h.tab ≠ g.tab := fun ht => hne (by cases h; cases g; simp_all [TabHandle.board])
    rw [← hb, board_modifyBoard]
    cases s.board h.board with
    | none => rfl
    | some b => simp [ht]
  · rw [board_modifyBoard_ne s _ _ _ hb]

/-- A tab that is written with another state is given out no more. -/
@[simp] theorem workIn_setTabState (s : State) (h : TabHandle) (st : TabState) (hst : st ≠ .assigned) :
    workIn (s.setTabState h st).panels = fun g => workIn s.panels g ∧ h ≠ g := by
  funext g
  rw [eq_iff_iff, workIn_iff_tab, workIn_iff_tab, State.setTabState]
  by_cases hg : h = g
  · subst hg
    simp [hst]
  · simp [tab_modifyTab_ne s h g _ hg, hg]

@[simp] theorem workIn_cutTab (s : State) (h : TabHandle) :
    workIn (s.cutTab h).panels = fun g => workIn s.panels g ∧ h ≠ g := by
  unfold State.cutTab
  split
  · rw [workIn_modifyBoard_tabs]
    · simp
    · intro b
      split <;> simp
  · next ht =>
    funext g
    rw [eq_iff_iff, workIn_iff_tab]
    refine ⟨fun hg => ⟨hg, ?_⟩, And.left⟩
    rintro rfl
    simp [ht] at hg

/-- A visit blocks an INTACT tab or leaves its state (R48). -/
theorem visitedTab_assigned (v : RunValues) (f1n : Point) (x : TabRecord) :
    (visitedTab v f1n x).state = .assigned ↔ x.state = .assigned := by
  by_cases hf : tabFails v x (correctPoint v.c v.s v.f1m f1n x.nominal) = true
  · have hx : x.state = .intact := by
      simp only [tabFails, Bool.and_eq_true, decide_eq_true_eq] at hf
      exact hf.1
    simp [visitedTab, hf, hx]
  · simp [visitedTab, hf]

theorem workIn_modifyTab (s : State) (h : TabHandle) (f : TabRecord → TabRecord)
    (hf : ∀ x, (f x).state = .assigned ↔ x.state = .assigned) :
    workIn (s.modifyTab h f).panels = workIn s.panels := by
  funext g
  rw [eq_iff_iff, workIn_iff_tab, workIn_iff_tab]
  by_cases hg : h = g
  · subst hg
    simp [hf]
  · rw [tab_modifyTab_ne s h g f hg]

/-! ### Commands at their owning blocks -/

theorem admitInto_noNewWork (s : State) (e : Fin 4) (id : Word) (n : Fin 16) (f : Fin 2) (r : Recipe) :
    NoNewWork s (admitInto s e id n f r).1 := by
  refine NoNewWork.setPanel s e _ fun p site tab hp hwork => absurd hwork ?_
  obtain rfl := Option.some.inj hp
  rintro ⟨b, x, hb, hx, hst⟩
  simp only [newBoards, List.getElem?_map, Option.map_eq_some_iff] at hb
  obtain ⟨si, -, rfl⟩ := hb
  simp only [newBoard, List.getElem?_map, Option.map_eq_some_iff] at hx
  obtain ⟨ti, -, rfl⟩ := hx
  cases hst

theorem panelAdmit_noNewWork (id : Word) (recipe fixture : Byte) (s : State) : NoNewWork s (panelAdmit id recipe fixture s).1 := by
  unfold panelAdmit
  split
  · exact .refl s
  · exact .refl s
  split
  · exact .refl s
  split
  · exact .refl s
  split
  · exact .refl s
  split
  · exact .refl s
  next e _ => exact admitInto_noNewWork s e id _ _ _

theorem advanceQueue_noNewWork (s : State) (f : Fin 2) : NoNewWork s (s.advanceQueue f) := by
  unfold State.advanceQueue
  split
  · exact .refl s
  split
  · exact .refl s
  split
  · next p hp => exact .of_workIn (workIn_setPanel_boards s _ p _ hp rfl)
  · exact .refl s

theorem retire_noNewWork (s : State) (e : Fin 4) (f : Fin 2) : NoNewWork s (retire s e f) :=
  (NoNewWork.setPanel s e none fun _ _ _ h => nomatch h).trans (advanceQueue_noNewWork _ f)

theorem panelRetire_noNewWork (entry force : Byte) (s : State) : NoNewWork s (panelRetire entry force s).1 := by
  unfold panelRetire
  repeat' split
  case h_2 => exact retire_noNewWork s _ _
  all_goals exact .refl s

/-- After a warm restart no tab of a panel is ASSIGNED (R82). -/
theorem not_working_warm (p : Panel) (site tab : Nat) : ¬ p.warm.Working site tab := by
  have hwarm : ∀ x : TabRecord, x.warm.state ≠ .assigned := by
    intro x
    unfold TabRecord.warm
    split
    · simp
    · assumption
  have habandon : ∀ (left : Bool) (x : TabRecord), (x.warm.abandon left).state ≠ .assigned := by
    intro left x
    simp only [TabRecord.abandon]
    split
    · split <;> simp
    · exact hwarm x
  rintro ⟨b, x, hb, hx, hst⟩
  unfold Panel.warm at hb
  split at hb
  · simp only [List.getElem?_map, Option.map_eq_some_iff] at hb
    obtain ⟨b, -, rfl⟩ := hb
    simp only [BoardRecord.abandon, BoardRecord.warm, List.getElem?_map, Option.map_eq_some_iff] at hx
    obtain ⟨_, ⟨y, -, rfl⟩, rfl⟩ := hx
    exact habandon _ y hst
  · simp only [List.getElem?_map, Option.map_eq_some_iff] at hb
    obtain ⟨b, -, rfl⟩ := hb
    simp only [BoardRecord.warm, List.getElem?_map, Option.map_eq_some_iff] at hx
    obtain ⟨y, -, rfl⟩ := hx
    exact hwarm y hst

theorem warmRestart_noNewWork (s : State) : NoNewWork s (warmRestart s) := by
  rintro h ⟨q, hq, hwork⟩
  change (mapVec (Option.map Panel.warm) s.warmBays.panels)[h.entry] = some q at hq
  rw [mapVec_get, Option.map_eq_some_iff] at hq
  obtain ⟨p, -, rfl⟩ := hq
  exact absurd hwork (not_working_warm p _ _)

/-- After a cold restart no panel is LIVE (R36). -/
theorem not_workIn_cold (h : TabHandle) : ¬ workIn State.reset.panels h := by
  rintro ⟨p, hp, -⟩
  simp [State.reset] at hp

theorem coldValues_noNewWork (s : State) : NoNewWork s (coldValues s) := fun h hwork => absurd hwork (not_workIn_cold h)

theorem restart_noNewWork (form : Byte) (s : State) : NoNewWork s (restart form s).1 := by
  unfold restart restartWarm
  repeat' split
  case isTrue.isFalse => exact warmRestart_noNewWork s
  case isFalse.isTrue => exact coldValues_noNewWork s
  all_goals exact .refl s

/-- The commands that write records of panels, boards or tabs. -/
def CommandName.writesRecords : CommandName → Bool
  | .panelAdmit | .panelRetire | .decide | .tabResolve | .boardResolve | .restart => true
  | _ => false

theorem configSet_panels (item : Byte) (value : Word) (s : State) : (configSet item value s).1.panels = s.panels := by
  simp only [configSet]
  repeat' split
  all_goals rfl

/-- Every other command leaves the Panel Table as it is. -/
theorem commandOn_panels (name : CommandName) (p : List Byte) (s : State) (h : name.writesRecords = false) :
    (commandOn name p s).1.panels = s.panels := by
  cases name
  case configSet => exact configSet_panels _ _ s
  case panelAdmit | panelRetire | decide | tabResolve | boardResolve | restart => cases h
  all_goals
    simp only [commandOn, recipeBegin, recipeSite, recipeZone, recipeEnd, recipeDrop, recipeRead, panelRead, boardRead, tabRead,
      bitChange, stationClear, clearSpindle, clearGripper, zoneSet, magStage, magGo, magUnstage, magRead, magRelease, bayRoute,
      bayExchange, bayClear, clearBay, pauseCommand, resumeCommand, configRead, noticeRead, noticeWrite, noticeAct, faultRead,
      faultAck]
    repeat' split
    all_goals simp

theorem decideVerdict_noNewWork (entry site verdict : Byte) (s : State) : NoNewWork s (decideVerdict entry site verdict s).1 := by
  simp only [decideVerdict]
  repeat' split
  all_goals simp [NoNewWork]

theorem tabResolve_noNewWork (entry site tab outcome : Byte) (s : State) :
    NoNewWork s (tabResolve entry site tab outcome s).1 := by
  simp only [tabResolve]
  repeat' split
  all_goals simp +contextual [NoNewWork]

theorem boardResolve_noNewWork (entry site outcome : Byte) (s : State) : NoNewWork s (boardResolve entry site outcome s).1 := by
  simp only [boardResolve]
  repeat' split
  all_goals simp [NoNewWork]

/-- No host command gives out a tab. -/
theorem commandOn_noNewWork (name : CommandName) (p : List Byte) (s : State) : NoNewWork s (commandOn name p s).1 := by
  by_cases hw : name.writesRecords = true
  · cases name
    case panelAdmit => exact panelAdmit_noNewWork _ _ _ s
    case panelRetire => exact panelRetire_noNewWork _ _ s
    case decide => exact decideVerdict_noNewWork _ _ _ s
    case tabResolve => exact tabResolve_noNewWork _ _ _ _ s
    case boardResolve => exact boardResolve_noNewWork _ _ _ s
    case restart => exact restart_noNewWork _ s
    all_goals cases hw
  · exact .of_panels (commandOn_panels name p s (by simpa using hw))

end Sys2Proof.Machine
end

section
/-! A tab becomes ASSIGNED by NEXT-TAB alone, and only one that may be given out (R32, R66, R100 to R104, R171): every request,
event and arrival, and with them every step. -/

namespace Sys2Proof.Machine

/-! ### When a tab may be given out (R32, R66, R171) -/

/-- A tab may be given to a spindle: it is eligible, its panel workable, no pause cause stands and the part is in NORMAL. -/
def State.MayAssign (s : State) (h : TabHandle) : Prop :=
  ∃ x b p, s.tab h = some x ∧ s.board h.board = some b ∧ s.panel h.entry = some p ∧ x.state = .intact
    ∧ ((x.release = false ∧ b.state = .cutting) ∨ (x.release = true ∧ b.state = .held))
    ∧ p.state = .aligned ∧ s.clampLevel p.fixture = true ∧ s.causes = ⟨false, false, false⟩ ∧ s.fault.locked = false

/-- Every tab that is ASSIGNED in the second state was so in the first or could be given out there. -/
def LawfulWork (s t : State) : Prop := ∀ h, workIn t.panels h → workIn s.panels h ∨ s.MayAssign h

theorem NoNewWork.lawful {s t : State} (h : NoNewWork s t) : LawfulWork s t := fun g hg => .inl (h g hg)

/-- What gives out no tab may follow. -/
theorem LawfulWork.then_noNewWork {s t u : State} (h : LawfulWork s t) (k : NoNewWork t u) : LawfulWork s u :=
  fun g hg => h g (k g hg)

/-- What decides about a tab is the Panel Table, the inputs, the pause causes and the Fault Unit. -/
def SameGrounds (s t : State) : Prop :=
  t.panels = s.panels ∧ t.filters = s.filters ∧ t.causes = s.causes ∧ t.fault = s.fault

theorem SameGrounds.mayAssign {s t : State} (h : SameGrounds s t) {g : TabHandle} (ha : t.MayAssign g) : s.MayAssign g := by
  obtain ⟨hpanels, hfilters, hcauses, hfault⟩ := h
  have hpanel : ∀ e, t.panel e = s.panel e := fun e => by rw [State.panel, State.panel, hpanels]
  have hboard : ∀ b, t.board b = s.board b := fun b => by rw [State.board, State.board, State.boardsOf, State.boardsOf, hpanel]
  have htab : t.tab g = s.tab g := by rw [State.tab, State.tab, hboard]
  have hclamp : ∀ f, t.clampLevel f = s.clampLevel f := fun f => by rw [State.clampLevel, State.clampLevel, hfilters]
  simpa only [State.MayAssign, hpanel, hboard, htab, hclamp, hcauses, hfault] using ha

theorem LawfulWork.of_sameGrounds {s t u : State} (hst : SameGrounds s t) (h : LawfulWork t u) : LawfulWork s u :=
  fun g hg => (h g hg).imp (fun hw => hst.1 ▸ hw) hst.mayAssign

/-! ### NEXT-TAB (R100 to R104) -/

/-- A candidate of the list may be given out (R32, R66, R101). -/
theorem mayAssign_of_candidate {s : State} {c : Candidate} (hc : c ∈ s.candidates) (hcauses : s.causes = ⟨false, false, false⟩)
    (hnormal : s.fault.locked = false) : s.MayAssign c.handle := by
  obtain ⟨p, b, hp, hal, hcl, hb, hx, -, hint, hkind⟩ := (mem_candidates s c.handle c.tab c.mid).1 hc
  exact ⟨c.tab, b, p, hx, hb, hp, hint, hkind, hal, hcl, hcauses, hnormal⟩

/-- The Panel Table after an assignment (R104). -/
theorem assign_panels (s : State) (sp : Spindle) (c : Candidate) : (assign s sp c).1.panels =
    (s.modifyTab c.handle (fun x => { x with state := .assigned, lastSpindle := some sp })).panels := by
  simp only [assign]
  split <;> simp

/-- The tab assigned is the candidate's, and no other. -/
theorem assign_lawful (s : State) (sp : Spindle) (c : Candidate) (hmay : s.MayAssign c.handle) :
    LawfulWork s (assign s sp c).1 := by
  intro g hg
  by_cases he : c.handle = g
  · exact .inr (he ▸ hmay)
  · rw [assign_panels, workIn_iff_tab, tab_modifyTab_ne s _ g _ he, ← workIn_iff_tab] at hg
    exact .inl hg

theorem wear_noNewWork (s : State) (sp : Spindle) : NoNewWork s (s.wear sp) := by
  unfold State.wear
  split <;> simp [NoNewWork]

theorem offerTab_lawful (sp : Spindle) (s : State) (hcauses : s.causes = ⟨false, false, false⟩)
    (hnormal : s.fault.locked = false) : LawfulWork s (offerTab sp s).1 := by
  unfold offerTab
  split
  · next c hc => exact assign_lawful s sp c (mayAssign_of_candidate (List.mem_of_find?_eq_some hc) hcauses hnormal)
  · split <;> exact (NoNewWork.refl s).lawful

theorem causes_of_any_eq_false {c : PauseCauses} (h : c.any = false) : c = ⟨false, false, false⟩ := by
  obtain ⟨host, guardOpen, restart⟩ := c
  simp only [PauseCauses.any, Bool.or_eq_false_iff] at h
  obtain ⟨⟨rfl, rfl⟩, rfl⟩ := h
  rfl

/-- NEXT-TAB offers a tab only with no pause cause (R100, R171). -/
theorem nextTab_lawful (sp : Spindle) (s : State) (hnormal : s.fault.locked = false) : LawfulWork s (nextTab sp s).1 := by
  have hnone := (NoNewWork.refl s).lawful
  unfold nextTab
  split
  · exact hnone
  next hcauses =>
    split
    · exact hnone
    split
    · exact hnone
    split
    · exact hnone
    split
    · exact (wear_noNewWork s sp).lawful
    · exact offerTab_lawful sp s (causes_of_any_eq_false (by simpa using hcauses)) hnormal

/-! ### The other requests -/

/-- The requests that write no record of a board or tab. -/
def RequestName.leavesRecords : RequestName → Bool
  | .progress | .placeCheck | .bayPoll | .bayDone => true
  | _ => false

theorem pollBay_panels (s : State) (b : Fin 4) : (pollBay s b).1.panels = s.panels := by
  simp only [pollBay, State.giveAction]
  repeat' split
  all_goals simp

theorem pollAll_panels (s : State) (bays : List (Fin 4)) : (pollAll s bays).1.panels = s.panels := by
  induction bays generalizing s with
  | nil => rfl
  | cons b rest ih => exact (ih _).trans (pollBay_panels s b)

theorem bayDone_panels (bay action ok : Byte) (s : State) : (bayDone bay action ok s).1.panels = s.panels := by
  simp only [bayDone, apply_ite (fun r : Request => (r s).1.panels), bayDoneIndex, doneIndex, bayDoneExchange, doneExchange,
    bayDoneOther]
  repeat' split
  all_goals simp

theorem requestBlock_panels (l : LineId) (name : RequestName) (f : List Byte) (s : State) (h : name.leavesRecords = true) :
    (requestBlock l name f s).1.panels = s.panels := by
  cases name
  case progress => cases l <;> rfl
  case placeCheck =>
    simp only [requestBlock, placeCheck]
    repeat' split
    all_goals rfl
  case bayPoll => exact pollAll_panels s bayNumbers
  case bayDone => exact bayDone_panels _ _ _ s
  all_goals cases h

theorem siteMark_noNewWork (entry site verdict : Byte) (s : State) : NoNewWork s (siteMark entry site verdict s).1 := by
  simp only [siteMark, State.beginHold]
  repeat' split
  all_goals simp [NoNewWork]

/-- An accepted FIDUCIAL changes its panel's state alone (R43). -/
theorem workIn_acceptFiducial (s : State) (e : Fin 4) (p : Panel) (r : Recipe) (c sn : Int) (f1m : Point)
    (hp : s.panel e = some p) : workIn (acceptFiducial s e p r c sn f1m).panels = workIn s.panels :=
  workIn_setPanel_boards s e p { p with state := .correcting } hp rfl

theorem checkFiducial_noNewWork (s : State) (e : Fin 4) (p : Panel) (r : Recipe) (f1m f2m : Point)
    (hp : s.panel e = some p) : NoNewWork s (checkFiducial s e p r f1m f2m).1 := by
  simp only [checkFiducial, rejectRange]
  repeat' split
  case isFalse.isFalse.isFalse.isFalse => exact .of_workIn (workIn_acceptFiducial s e p r _ _ f1m hp)
  all_goals simp [NoNewWork]

theorem fiducial_noNewWork (entry : Byte) (f1m f2m : Point) (s : State) : NoNewWork s (fiducial entry f1m f2m s).1 := by
  unfold fiducial
  split
  · exact .refl s
  next e he =>
    split
    · exact .refl s
    next p hp =>
      split
      · exact .refl s
      split
      · exact .refl s
      split
      · exact .refl s
      split
      · exact .refl s
      · exact checkFiducial_noNewWork s e p _ f1m f2m hp

theorem tabDone_noNewWork (sp : Spindle) (entry site tab : Byte) (s : State) :
    NoNewWork s (tabDone sp entry site tab s).1 := by
  simp only [tabDone, finishTab]
  repeat' split
  all_goals simp +contextual [NoNewWork]

theorem tabFault_noNewWork (sp : Spindle) (entry site tab reason : Byte) (s : State) :
    NoNewWork s (tabFault sp entry site tab reason s).1 := by
  simp only [tabFault, failTab, State.loseTab]
  repeat' split
  all_goals simp +contextual [NoNewWork]

theorem holdOn_noNewWork (entry site : Byte) (s : State) : NoNewWork s (holdOn entry site s).1 := by
  simp only [holdOn]
  repeat' split
  all_goals simp [NoNewWork]

theorem placed_noNewWork (entry site bay slot : Byte) (s : State) : NoNewWork s (placed entry site bay slot s).1 := by
  simp only [placed, placeBoard]
  repeat' split
  all_goals simp [NoNewWork]

theorem dropped_noNewWork (entry site : Byte) (s : State) : NoNewWork s (dropped entry site s).1 := by
  simp only [dropped, dropBoard]
  repeat' split
  all_goals simp [NoNewWork]

theorem setAside_noNewWork (s : State) (cands : List BoardHandle) : NoNewWork s (setAside s cands) := by
  induction cands generalizing s with
  | nil => exact .refl s
  | cons h rest ih =>
    refine NoNewWork.trans ?_ (ih _)
    split <;> simp [NoNewWork]

theorem walkBay_noNewWork (b : Fin 4) (m : Magazine) (s : State) (cands : List BoardHandle) :
    NoNewWork s (walkBay b m s cands).1 := by
  induction cands generalizing s with
  | nil => exact .refl s
  | cons h rest ih =>
    simp only [walkBay]
    split
    · exact ih s
    split
    · exact NoNewWork.trans (by simp [NoNewWork]) (ih _)
    split <;> simp [NoNewWork, State.fillUp]

theorem walkBays_noNewWork (cands : List BoardHandle) (s : State) (bays : List (Fin 4)) :
    NoNewWork s (walkBays cands s bays).1 := by
  induction bays generalizing s with
  | nil => exact .refl s
  | cons b rest ih =>
    simp only [walkBays]
    split
    · exact ih s
    next m hm =>
      have hwalk := walkBay_noNewWork b m s (cands.filter (fun h => decide (s.destinationOf h = some b)))
      split
      · next t c ht => rw [ht] at hwalk; exact hwalk
      · next t ht => rw [ht] at hwalk; exact hwalk.trans (ih t)

theorem offerPick_noNewWork (s : State) : NoNewWork s (offerPick s).1 := by
  have hwalk := (setAside_noNewWork s s.pickCandidates).trans
    (walkBays_noNewWork s.pickCandidates _ (setAside s s.pickCandidates).bayOrder)
  simp only [offerPick]
  split
  · next t c ht =>
    rw [ht] at hwalk
    split
    · exact hwalk.trans (by simp [givePick, NoNewWork])
    · exact hwalk
  · next t ht => rw [ht] at hwalk; exact hwalk

theorem nextPick_noNewWork (s : State) : NoNewWork s (nextPick s).1 := by
  unfold nextPick
  split
  · exact .refl s
  split
  · exact .refl s
  split
  · exact .refl s
  split
  · exact .refl s
  · exact offerPick_noNewWork s

theorem onSpindle_lawful (l : LineId) (r : Spindle → Request) (s : State) (hr : ∀ sp, LawfulWork s (r sp s).1) :
    LawfulWork s (onSpindle l r s).1 := by
  cases l
  case spindleA => exact hr .a
  case spindleB => exact hr .b
  all_goals exact (NoNewWork.refl s).lawful

/-- Every request code with its fields, at its owning block. -/
theorem requestBlock_lawful (l : LineId) (name : RequestName) (f : List Byte) (s : State) (hnormal : s.fault.locked = false) :
    LawfulWork s (requestBlock l name f s).1 := by
  by_cases hw : name.leavesRecords = true
  · exact (NoNewWork.of_panels (requestBlock_panels l name f s hw)).lawful
  cases name
  case nextTab => exact onSpindle_lawful l _ s fun sp => nextTab_lawful sp s hnormal
  case tabDone => exact onSpindle_lawful l _ s fun sp => (tabDone_noNewWork sp _ _ _ s).lawful
  case tabFault => exact onSpindle_lawful l _ s fun sp => (tabFault_noNewWork sp _ _ _ _ s).lawful
  case nextPick => exact (nextPick_noNewWork s).lawful
  case holdOn => exact (holdOn_noNewWork _ _ s).lawful
  case placed => exact (placed_noNewWork _ _ _ _ s).lawful
  case dropped => exact (dropped_noNewWork _ _ s).lawful
  case fiducial => exact (fiducial_noNewWork _ _ _ s).lawful
  case siteMark => exact (siteMark_noNewWork _ _ _ s).lawful
  all_goals exact absurd rfl hw

/-! ### Events inside the part -/

theorem endValidation_panels (s : State) : (endValidation s).panels = s.panels := by
  unfold endValidation
  repeat' split
  all_goals rfl

theorem visitZone_panels (e : Fin 4) (s : State) : (visitZone e s).panels = s.panels := by
  unfold visitZone
  repeat' split
  all_goals rfl

theorem visitPickPoint_noNewWork (e : Fin 4) (s : State) : NoNewWork s (visitPickPoint e s) := by
  unfold visitPickPoint
  repeat' split
  all_goals simp [NoNewWork]

theorem visitTab_noNewWork (e : Fin 4) (s : State) : NoNewWork s (visitTab e s) := by
  simp only [visitTab]
  split
  · split
    · exact .of_workIn (workIn_modifyTab s _ _ (visitedTab_assigned _ _))
    all_goals exact .refl s
  · exact .refl s

theorem strandBoard_tabs (b : BoardRecord) : (strandBoard b).tabs = b.tabs := by
  unfold strandBoard
  split <;> rfl

/-- The end of a run changes the states of boards and of its panel (R49). -/
theorem endRun_noNewWork (e : Fin 4) (s : State) : NoNewWork s (endRun e s) := by
  unfold endRun
  split
  · next v p r ha =>
    split
    · have hset : NoNewWork s (s.setPanel e (some (p.aligned v))) := by
        refine NoNewWork.setPanel s e _ fun p' site tab hp' hwork => ⟨p, (activeRun_spec ha).2.1, ?_⟩
        obtain rfl := Option.some.inj hp'
        obtain ⟨b, x, hb, hx, hst⟩ := hwork
        simp only [Panel.aligned, List.getElem?_map, Option.map_eq_some_iff] at hb
        obtain ⟨b, hb, rfl⟩ := hb
        exact ⟨b, x, hb, strandBoard_tabs b ▸ hx, hst⟩
      refine hset.trans (.of_workIn ?_)
      simp only [workIn_clearingTest]
      split <;> simp [Panel.aligned]
    · exact .refl s
  · exact .refl s

theorem expireHold_noNewWork (s : State) : NoNewWork s (expireHold s) := by
  simp only [expireHold]
  repeat' split
  all_goals simp [NoNewWork]

theorem expireSpindle_noNewWork (sp : Spindle) (s : State) : NoNewWork s (expireSpindle sp s) := by
  simp only [expireSpindle, State.loseTab]
  repeat' split
  all_goals simp +contextual [NoNewWork]

theorem expireGripper_noNewWork (s : State) : NoNewWork s (expireGripper s) := by
  simp only [expireGripper, expireBoard]
  repeat' split
  all_goals simp [NoNewWork]

theorem expireAction_panels (b : Fin 4) (s : State) : (expireAction b s).panels = s.panels := by
  unfold expireAction
  split <;> simp

theorem expireSettle_panels (b : Fin 4) (s : State) : (expireSettle b s).panels = s.panels := by
  unfold expireSettle
  split <;> simp

theorem expireWindow_panels (b : Fin 4) (s : State) : (expireWindow b s).panels = s.panels := by
  unfold expireWindow
  repeat' split
  all_goals simp

theorem expireGap_panels (l : LineId) (s : State) : (expireGap l s).panels = s.panels := by
  unfold expireGap
  repeat' split
  all_goals simp

/-- Every edge goes to its block, and none writes the Panel Table (R164). -/
theorem takeEdge_panels (s : State) (i : Fin 7) (level : Bool) : (s.takeEdge i level).panels = s.panels := by
  fin_cases i
  all_goals
    simp only [State.takeEdge, State.guardEdge, State.clampEdge, State.clampFalls, State.sensorEdge]
    repeat' split
    all_goals simp

theorem takeEdges_panels (s : State) (after : Vector FilterRecord 7) (found : List (Fin 7)) :
    (s.takeEdges after found).panels = s.panels := by
  induction found generalizing s with
  | nil => rfl
  | cons i rest ih => exact (ih _).trans (takeEdge_panels s i _)

theorem samplePins_panels (raw : BitVec 7) (s : State) : (samplePins raw s).panels = s.panels := by
  simp only [samplePins]
  split
  · exact takeEdges_panels _ _ _
  · rfl

theorem tick_panels (s : State) : (tick s).panels = s.panels := by
  unfold tick
  split <;> rfl

/-! ### Arrivals -/

/-- A frame at the port carries a command that gives out no tab. -/
theorem acceptFrame_noNewWork (s : State) (name : CommandName) (p : List Byte) :
    NoNewWork s (s.acceptFrame name (commandBlock name p)) := by
  simp only [State.acceptFrame, commandBlock]
  split
  · exact .of_panels rfl
  split
  · next c hc =>
    obtain ⟨-, hc⟩ := Option.ite_none_right_eq_some.1 hc
    obtain rfl := Option.some.inj hc
    have hcmd := commandOn_noNewWork name p { s with ovr := false }
    unfold State.deliver
    split
    · next t a ht => rw [ht] at hcmd; exact hcmd
    · next t ht => rw [ht] at hcmd; exact hcmd
  · exact .of_panels rfl

theorem takeCommandOr_noNewWork (s : State) (name : CommandName) (p : List Byte) :
    NoNewWork s (s.takeCommandOr name (commandBlock name p)) := by
  unfold State.takeCommandOr
  split
  · exact .refl s
  split
  · exact .of_panels rfl
  · exact acceptFrame_noNewWork s name p

theorem transact_noNewWork (bytes : List Byte) (s : State) : NoNewWork s (transact bytes s) := by
  simp only [transact, examineFrame]
  repeat' split
  case h_2 name _ => exact acceptFrame_noNewWork s name _
  all_goals exact .of_panels rfl

theorem reloadWatchdog_sameGrounds (s : State) (l : LineId) : SameGrounds s (s.reloadWatchdog l) := by
  simp [SameGrounds]

theorem frameComplete_sameGrounds (s : State) (l : LineId) : SameGrounds s (s.frameComplete l) := by
  simp [SameGrounds]

theorem sendAnswer_noNewWork (s : State) (l : LineId) (f : Frame) : NoNewWork s (s.sendAnswer l f) :=
  .of_panels (by simp)

/-- A request that the line examines gives out a tab only by NEXT-TAB in NORMAL (R86, R90). -/
theorem examine_lawful (s : State) (l : LineId) (code : Byte) (name : RequestName) (f : List Byte) :
    LawfulWork s (s.examine l code (requestBlock l name f)) := by
  unfold State.examine
  split
  · exact (NoNewWork.refl s).lawful
  split
  · exact (sendAnswer_noNewWork s l _).lawful
  split
  · exact (sendAnswer_noNewWork s l _).lawful
  next hnormal =>
    have hreq := LawfulWork.of_sameGrounds (reloadWatchdog_sameGrounds s l)
      (requestBlock_lawful l name f _ (by simpa using hnormal))
    split
    · next t r ht => rw [ht] at hreq; exact hreq.then_noNewWork (sendAnswer_noNewWork t l _)
    · next t ht => rw [ht] at hreq; exact hreq

theorem takeRequest_lawful (s : State) (l : LineId) (name : RequestName) (f : List Byte) :
    LawfulWork s (s.takeRequest l name (requestBlock l name f)) := by
  unfold State.takeRequest
  split
  · exact (NoNewWork.refl s).lawful
  · exact .of_sameGrounds (frameComplete_sameGrounds s l) (examine_lawful _ l _ name f)

theorem examineBytes_lawful (s : State) (l : LineId) (bytes : List Byte) : LawfulWork s (s.examineBytes l bytes) := by
  have hnone := (NoNewWork.refl s).lawful
  unfold State.examineBytes
  split
  · split
    · exact hnone
    split
    · exact (NoNewWork.of_panels (by simp)).lawful
    split
    · exact hnone
    · exact examine_lawful s l _ _ _
  · exact hnone
  · exact hnone

theorem frameArrives_lawful (l : LineId) (bytes : List Byte) (s : State) : LawfulWork s (frameArrives l bytes s) := by
  unfold frameArrives
  split
  · exact .of_sameGrounds (frameComplete_sameGrounds s l) (examineBytes_lawful _ l bytes)
  · exact (NoNewWork.refl s).lawful

theorem receiveByte_lawful (l : LineId) (byte : Byte) (framingError : Bool) (s : State) :
    LawfulWork s (receiveByte l byte framingError s) := by
  have hdrop : LawfulWork s (s.dropFrame l) := (NoNewWork.of_panels (by simp)).lawful
  have hline : ∀ r, LawfulWork s (s.setLine l r) := fun r => (NoNewWork.of_panels (by simp)).lawful
  simp only [receiveByte]
  split
  · split
    · exact hline _
    · exact (NoNewWork.refl s).lawful
  · split
    · exact hdrop
    · exact hline _
  · split
    · exact hdrop
    split
    · exact frameArrives_lawful l _ s
    · exact hline _

theorem takeEvent_lawful (s : State) {event : State → State} (he : LawfulWork s (event s)) : LawfulWork s (s.takeEvent event) := by
  unfold State.takeEvent
  split
  · exact (NoNewWork.refl s).lawful
  · exact he

theorem takeEvent_panels_lawful (s : State) {event : State → State} (he : (event s).panels = s.panels) :
    LawfulWork s (s.takeEvent event) :=
  takeEvent_lawful s (NoNewWork.of_panels he).lawful

/-! ### Every command -/

/-- A row that stands for a frame gives out what its frame may (`exec_host_frame`, `exec_station_frame`). -/
theorem exec_frame_lawful {c : Instr} (h : ((hostCommand c).isSome || (stationRequest c).isSome) = true) (s : State) :
    ∃ t, exec c s = .next t ∧ LawfulWork s t := by
  rcases Bool.or_eq_true_iff.1 h with hhost | hstation
  · obtain ⟨name, hname⟩ := Option.isSome_iff_exists.1 hhost
    exact ⟨_, exec_host_frame hname s, (takeCommandOr_noNewWork s name _).lawful⟩
  · obtain ⟨⟨l, name, f⟩, hname⟩ := Option.isSome_iff_exists.1 hstation
    exact ⟨_, exec_station_frame hname s, takeRequest_lawful s l name f⟩

theorem exec_lawful (c : Instr) (s : State) : ∃ t, exec c s = .next t ∧ LawfulWork s t := by
  cases c
  case validationEnd => exact ⟨_, rfl, takeEvent_panels_lawful s (endValidation_panels s)⟩
  case zoneVisit e => exact ⟨_, rfl, takeEvent_panels_lawful s (visitZone_panels e s)⟩
  case pickPointVisit e => exact ⟨_, rfl, takeEvent_lawful s (visitPickPoint_noNewWork e s).lawful⟩
  case tabVisit e => exact ⟨_, rfl, takeEvent_lawful s (visitTab_noNewWork e s).lawful⟩
  case correctionRunEnd e => exact ⟨_, rfl, takeEvent_lawful s (endRun_noNewWork e s).lawful⟩
  case holdExpiry => exact ⟨_, rfl, takeEvent_lawful s (expireHold_noNewWork s).lawful⟩
  case gapTimerExpiry l => exact ⟨_, rfl, takeEvent_panels_lawful s (expireGap_panels l s)⟩
  case stationFrame l bytes => exact ⟨_, rfl, takeEvent_lawful s (frameArrives_lawful l bytes s)⟩
  case stationLineByte l byte framingError => exact ⟨_, rfl, takeEvent_lawful s (receiveByte_lawful l byte framingError s)⟩
  case frameTransmitted l => exact ⟨_, rfl, takeEvent_panels_lawful s (by simp [endTransmission])⟩
  case progress l =>
    cases l
    case vision => exact ⟨_, rfl, takeEvent_panels_lawful s (by simp)⟩
    case elevator => exact ⟨_, rfl, takeEvent_panels_lawful s (by simp)⟩
    all_goals exact exec_frame_lawful rfl s
  case spindleWatchdogExpiry sp => exact ⟨_, rfl, takeEvent_lawful s (expireSpindle_noNewWork sp s).lawful⟩
  case gripperWatchdogExpiry => exact ⟨_, rfl, takeEvent_lawful s (expireGripper_noNewWork s).lawful⟩
  case actionTimerExpiry b => exact ⟨_, rfl, takeEvent_panels_lawful s (expireAction_panels b s)⟩
  case settleTimerExpiry b => exact ⟨_, rfl, takeEvent_panels_lawful s (expireSettle_panels b s)⟩
  case confirmWindowExpiry b => exact ⟨_, rfl, takeEvent_panels_lawful s (expireWindow_panels b s)⟩
  case sample raw => exact ⟨_, rfl, takeEvent_panels_lawful s (samplePins_panels raw s)⟩
  case commandFrame bytes => exact ⟨_, rfl, takeEvent_lawful s (transact_noNewWork bytes s).lawful⟩
  case resetAssert => exact ⟨_, rfl, (NoNewWork.refl s).lawful⟩
  case resetRelease => exact ⟨_, rfl, (coldValues_noNewWork s).lawful⟩
  case powerOn => exact ⟨_, rfl, (coldValues_noNewWork s).lawful⟩
  all_goals exact exec_frame_lawful rfl s

/-- One step gives out only tabs that may be given out. -/
theorem step_lawful (s t : State) (hstep : step s = .next t) : LawfulWork s t := by
  unfold step at hstep
  split at hstep
  · next c rest hq =>
    obtain ⟨u, hu, hlawful⟩ := exec_lawful c { s with pending := rest }
    obtain rfl := Host.Outcome.next.inj (hu.symm.trans hstep)
    exact .of_sameGrounds ⟨rfl, rfl, rfl, rfl⟩ hlawful
  · exact Host.Outcome.next.inj hstep ▸ (NoNewWork.of_panels (tick_panels s)).lawful

/-- Settles O59: of all that a step can do, NEXT-TAB alone makes a tab ASSIGNED, and it takes it from the candidates. -/
theorem tabsAreAssignedOnlyWhenEligible : Obligations.TabsAreAssignedOnlyWhenEligible := by
  intro s t h y hstep hy hst
  rcases step_lawful s t hstep h ((workIn_iff_tab t h).2 ⟨y, hy, hst⟩) with hwork | hmay
  · exact .inl ((workIn_iff_tab s h).1 hwork)
  · exact .inr hmay

end Sys2Proof.Machine
end

section
/-! A warm restart of the Panel Table, record by record (R36, R53, R82): the TARGETED boards lose their reservations, then every
panel takes its warm values. -/

namespace Sys2Proof.Machine

/-! ### The reservations of the TARGETED boards (R140) -/

/-- A board without its reservation (R145). -/
def BoardRecord.unreserved (b : BoardRecord) : BoardRecord := { b with reservation := none }

/-- A panel whose boards at some handles have lost their reservations. -/
def Panel.unreservedAt (p : Panel) (e : Fin 4) (hs : List BoardHandle) : Panel :=
  { p with boards := p.boards.mapIdx (fun i b => if ⟨e, i⟩ ∈ hs then b.unreserved else b) }

/-- Where each board named has no reservation, nothing changes. -/
theorem unreservedAt_eq_self (p : Panel) (e : Fin 4) (hs : List BoardHandle)
    (h : ∀ i b, p.boards[i]? = some b → ⟨e, i⟩ ∈ hs → b.reservation = none) : p.unreservedAt e hs = p := by
  have hboards : p.boards.mapIdx (fun i b => if ⟨e, i⟩ ∈ hs then b.unreserved else b) = p.boards := by
    refine List.ext_getElem? fun i => ?_
    rw [List.getElem?_mapIdx]
    cases hb : p.boards[i]? with
    | none => rfl
    | some b =>
      by_cases hi : ⟨e, i⟩ ∈ hs
      · simp [hi, BoardRecord.unreserved, ← h i b hb hi]
      · simp [hi]
  simp [Panel.unreservedAt, hboards]

theorem unreservedAt_nil (p : Panel) (e : Fin 4) : p.unreservedAt e [] = p :=
  unreservedAt_eq_self p e [] fun _ _ _ h => absurd h List.not_mem_nil

theorem unreservedAt_cons (p : Panel) (e : Fin 4) (h : BoardHandle) (hs : List BoardHandle) :
    (p.unreservedAt e [h]).unreservedAt e hs = p.unreservedAt e (h :: hs) := by
  simp only [Panel.unreservedAt, List.mapIdx_mapIdx, Panel.mk.injEq, true_and]
  congr 1
  funext i b
  by_cases h1 : (⟨e, i⟩ : BoardHandle) = h <;> by_cases h2 : (⟨e, i⟩ : BoardHandle) ∈ hs <;>
    simp [h1, h2, BoardRecord.unreserved]

/-- A board of a panel whose board at one handle is written without its reservation. -/
theorem panel_modifyBoard_unreserved (s : State) (h : BoardHandle) (e : Fin 4) :
    (s.modifyBoard h BoardRecord.unreserved).panel e = (s.panel e).map (fun p => p.unreservedAt e [h]) := by
  by_cases he : h.entry = e
  · subst he
    rw [panel_modifyBoard]
    congr 1
    funext p
    have hboards : p.boards.modify h.site BoardRecord.unreserved =
        p.boards.mapIdx (fun i b => if ⟨h.entry, i⟩ ∈ [h] then b.unreserved else b) := by
      refine List.ext_getElem? fun i => ?_
      rw [List.getElem?_mapIdx, List.getElem?_modify]
      by_cases hi : h.site = i
      · subst hi
        simp
      · have hne : (⟨h.entry, i⟩ : BoardHandle) ≠ h := fun heq => hi (congrArg BoardHandle.site heq).symm
        simp [hi, hne]
    rw [Panel.unreservedAt, hboards]
  · rw [panel_modifyBoard_ne s h _ e he]
    have hself : ∀ p : Panel, p.unreservedAt e [h] = p := fun p =>
      unreservedAt_eq_self p e [h] fun i b _ hi => absurd (congrArg BoardHandle.entry (List.mem_singleton.1 hi)).symm he
    simp [hself]

/-- A board with no reservation to cancel: the same panels. -/
theorem map_unreservedAt_of_board (s : State) (h : BoardHandle) (e : Fin 4)
    (hb : ∀ b, s.board h = some b → b.reservation = none) :
    (s.panel e).map (fun p => p.unreservedAt e [h]) = s.panel e := by
  cases hp : s.panel e with
  | none => rfl
  | some p =>
    refine congrArg some (unreservedAt_eq_self p e [h] fun i b hi hmem => hb b ?_)
    obtain rfl := List.mem_singleton.1 hmem
    simpa [State.board, State.boardsOf, hp] using hi

/-- A cancelled reservation leaves the Panel Table but for that board's (R145). -/
theorem panel_cancelReservation (s : State) (h : BoardHandle) (e : Fin 4) :
    (s.cancelReservation h).panel e = (s.panel e).map (fun p => p.unreservedAt e [h]) := by
  unfold State.cancelReservation
  split
  · next b hb =>
    split
    · exact panel_modifyBoard_unreserved _ h e
    · next hr =>
      exact (map_unreservedAt_of_board s h e fun b' hb' => Option.some.inj (hb.symm.trans hb') ▸ hr).symm
  · next hb => exact (map_unreservedAt_of_board s h e fun b' hb' => nomatch hb.symm.trans hb').symm

theorem panel_foldl_cancelReservation (hs : List BoardHandle) (s : State) (e : Fin 4) :
    (hs.foldl State.cancelReservation s).panel e = (s.panel e).map (fun p => p.unreservedAt e hs) := by
  induction hs generalizing s with
  | nil => simp [unreservedAt_nil]
  | cons h hs ih =>
    rw [List.foldl_cons, ih, panel_cancelReservation, Option.map_map]
    congr 1
    funext p
    exact unreservedAt_cons p e h hs

theorem mem_targetedBoards (s : State) (h : BoardHandle) :
    h ∈ s.targetedBoards ↔ ∃ b, s.board h = some b ∧ b.state = .targeted := by
  simp [State.targetedBoards, mem_allBoards]

/-- The bays of a warm restart write no panel. -/
theorem panel_warmBays (s : State) (e : Fin 4) :
    s.warmBays.panel e = (s.panel e).map (fun p => p.unreservedAt e s.targetedBoards) :=
  (show s.warmBays.panel e = s.cancelTargeted.panel e by simp [State.warmBays, bayNumbers, State.panel]).trans
    (panel_foldl_cancelReservation _ s e)

theorem panel_warmRestart (s : State) (e : Fin 4) :
    (warmRestart s).panel e = (s.panel e).map (fun p => (p.unreservedAt e s.targetedBoards).warm) := by
  have hwarm : (warmRestart s).panel e = (s.warmBays.panel e).map Panel.warm := mapVec_get _ s.warmBays.panels e
  rw [hwarm, panel_warmBays, Option.map_map]
  rfl

/-! ### The warm values of a panel (R36, R53, R82) -/

theorem warm_fields (p : Panel) : p.warm.id = p.id ∧ p.warm.recipe = p.recipe ∧ p.warm.fixture = p.fixture
    ∧ p.warm.order = p.order ∧ p.warm.state = (if p.state = .correcting then .aligning else p.state)
    ∧ p.warm.correction = (if p.state = .correcting then none else p.correction) := by
  unfold Panel.warm
  split <;> simp

/-- A board of a panel in a warm restart. -/
def Panel.warmBoard (p : Panel) (b : BoardRecord) : BoardRecord := if p.state = .correcting then b.warm.abandon else b.warm

theorem boards_warm (p : Panel) : p.warm.boards = p.boards.map p.warmBoard := by
  unfold Panel.warm Panel.warmBoard
  split <;> rfl

theorem warm_eq (st : BoardState) : st.warm = if st = .targeted then .ready
    else if st = .held ∨ st = .free then .suspect else st := by
  cases st <;> rfl

/-- A board that leaves its panel's warm restart: its own fields. -/
theorem warmBoard_eq (p : Panel) (b : BoardRecord) : p.warmBoard b = { b with
    state := b.state.warm
    pickPoint := if p.state = .correcting then none else b.pickPoint
    tabs := (p.warmBoard b).tabs } := by
  unfold Panel.warmBoard
  split <;> rfl

/-- A tab of it. -/
theorem tabs_warmBoard (p : Panel) (b : BoardRecord) : (p.warmBoard b).tabs = b.tabs.map (fun x => { x with
    corrected := if p.state = .correcting then none else x.corrected
    state := if x.state = .assigned then .suspect
      else if p.state = .correcting ∧ x.state = .blocked then (if b.state = .xoutLeft then .skipped else .intact)
      else x.state }) := by
  unfold Panel.warmBoard
  split
  · next hcorr =>
    have hleft : b.state.warm = .xoutLeft ↔ b.state = .xoutLeft := by cases b.state <;> simp [BoardState.warm]
    simp only [BoardRecord.abandon, BoardRecord.warm, List.map_map, hleft, hcorr]
    refine List.map_congr_left fun x _ => ?_
    by_cases hx : x.state = .assigned <;> simp [TabRecord.abandon, TabRecord.warm, hx]
  · next hcorr =>
    simp only [BoardRecord.warm, hcorr, false_and, if_false]
    refine List.map_congr_left fun x _ => ?_
    by_cases hx : x.state = .assigned <;> simp [TabRecord.warm, hx]

/-- A board of a panel after a warm restart, from the TARGETED boards on. -/
theorem boards_warmRestart (p : Panel) (e : Fin 4) (hs : List BoardHandle) (i : Nat) :
    (p.unreservedAt e hs).warm.boards[i]? =
      (p.boards[i]?).map (fun b => p.warmBoard (if ⟨e, i⟩ ∈ hs then b.unreserved else b)) := by
  rw [boards_warm, List.getElem?_map]
  simp only [Panel.unreservedAt, List.getElem?_mapIdx, Option.map_map]
  rfl

theorem panel_placeAnswer (s : State) (code : Byte) (a : Answer) (e : Fin 4) : (s.placeAnswer code a).panel e = s.panel e := rfl

/-- RESTART WARM is taken in NORMAL, and in LOCKDOWN when both context records are recoverable (R183); what it leaves of the
Panel Table. -/
theorem exec_restartWarm (s : State) (h : PortOpen s)
    (hrec : s.fault.locked = true → recoverable s.fault.primary = true ∧ recoverable s.fault.lockdownRec = true) :
    ∃ t, exec .restartWarm s = .next t
      ∧ ∀ e, t.panel e = (s.panel e).map (fun p => (p.unreservedAt e s.targetedBoards).warm) := by
  have htaken : restartWarm { s with ovr := false } = (warmRestart { s with ovr := false }, some (.ok [])) :=
    if_neg fun hn => hn.2 (hrec hn.1)
  refine ⟨_, congrArg Host.Outcome.next (takeCommand_answers s .restart restartWarm _ _ h (.inr rfl) htaken), fun e => ?_⟩
  have hpanel : ({ s with ovr := false } : State).panel e = s.panel e := rfl
  have htargeted : ({ s with ovr := false } : State).targetedBoards = s.targetedBoards := rfl
  rw [panel_placeAnswer, panel_warmRestart, hpanel, htargeted]

/-- Settles O7: the Panel Table of a warm restart is the old one without the TARGETED boards' reservations, each panel warm. -/
theorem warmRestartRecords : Obligations.WarmRestartRecords := by
  intro s e hopen hrec
  obtain ⟨t, hexec, htable⟩ := exec_restartWarm s hopen hrec
  refine ⟨t, hexec, fun hp => by rw [htable, hp]; rfl, fun p hp => ⟨_, (htable e).trans (congrArg _ hp), ?_⟩⟩
  obtain ⟨hid, hrecipe, hfixture, horder, hstate, hcorrection⟩ := warm_fields (p.unreservedAt e s.targetedBoards)
  refine ⟨hid, hrecipe, hfixture, horder, hstate, hcorrection, ?_, fun i b hb => ?_⟩
  · simp [boards_warm, Panel.unreservedAt]
  have htargeted : ⟨e, i⟩ ∈ s.targetedBoards ↔ b.state = .targeted := by
    have hboard : s.board ⟨e, i⟩ = some b := by simpa [State.board, State.boardsOf, hp] using hb
    simp [mem_targetedBoards, hboard]
  have hreserved : (if ⟨e, i⟩ ∈ s.targetedBoards then b.unreserved else b) =
      { b with reservation := if b.state = .targeted then none else b.reservation } := by
    simp only [htargeted]
    split <;> rfl
  have hboard := boards_warmRestart p e s.targetedBoards i
  rw [hb, Option.map_some, hreserved] at hboard
  refine ⟨_, hboard, (warmBoard_eq p _).trans (by simp only [warm_eq]), by simp [tabs_warmBoard], fun j x hx => ?_⟩
  simp [tabs_warmBoard, hx]

end Sys2Proof.Machine
end

section
/-! PANEL-RETIRE (R28 to R30, R52): what keeps a panel, how the queue of its fixture moves on, and the entry left FREE. -/

namespace Sys2Proof.Machine

/-! ### Work in flight (R28) -/

/-- A tab of the panel is ASSIGNED or SUSPECT. -/
def Panel.InWork (p : Panel) : Prop := ∃ b ∈ p.boards, ∃ x ∈ b.tabs, x.state = .assigned ∨ x.state = .suspect

/-- A board of the panel is in the gripper's work or in doubt. -/
def Panel.InHand (p : Panel) : Prop := ∃ b ∈ p.boards, b.state.inHand

/-- A request is held for a board of the entry. -/
def VerdictHold.HeldOn (v : VerdictHold) (e : Fin 4) : Prop := ∃ h t, v = .holding h t ∧ h.entry = e

theorem tabs_any_iff (s : State) (e : Fin 4) (p : Panel) (hp : s.panel e = some p) :
    (s.tabsOf e).any (fun ht => decide (ht.2.state = .assigned ∨ ht.2.state = .suspect)) = true ↔ p.InWork := by
  have hany : (s.tabsOf e).any (fun ht => decide (ht.2.state = .assigned ∨ ht.2.state = .suspect)) =
      ((s.tabsOf e).map Prod.snd).any (fun x => decide (x.state = .assigned ∨ x.state = .suspect)) := by
    rw [List.any_map]
    rfl
  rw [hany, map_tabsOf s e p hp]
  simp [Panel.InWork]

theorem boards_any_iff (s : State) (e : Fin 4) (p : Panel) (hp : s.panel e = some p) :
    (s.boardsOf e).any (fun b => decide (b.state = .targeted ∨ b.state = .held ∨ b.state = .free ∨ b.state = .suspect)) = true
      ↔ p.InHand := by
  simp [State.boardsOf, hp, Panel.InHand, BoardState.inHand]

theorem onEntry_iff (v : VerdictHold) (e : Fin 4) : v.onEntry e = true ↔ v.HeldOn e := by
  cases v <;> simp [VerdictHold.onEntry, VerdictHold.HeldOn]

/-- A tab in work is the first cause. -/
theorem workInFlight_tab {s : State} {e : Fin 4} {p : Panel} (hp : s.panel e = some p) (h : p.InWork) :
    s.workInFlight e = some .tabInWork := if_pos ((tabs_any_iff s e p hp).2 h)

/-- A board in hand is the second. -/
theorem workInFlight_board {s : State} {e : Fin 4} {p : Panel} (hp : s.panel e = some p) (hw : ¬ p.InWork) (h : p.InHand) :
    s.workInFlight e = some .boardInWork := by
  rw [State.workInFlight, if_neg (mt (tabs_any_iff s e p hp).1 hw), if_pos ((boards_any_iff s e p hp).2 h)]

/-- With neither, the held request decides. -/
theorem workInFlight_hold {s : State} {e : Fin 4} {p : Panel} (hp : s.panel e = some p) (hw : ¬ p.InWork) (hh : ¬ p.InHand) :
    s.workInFlight e = if s.hold.onEntry e then some .verdictHeld else none := by
  rw [State.workInFlight, if_neg (mt (tabs_any_iff s e p hp).1 hw), if_neg (mt (boards_any_iff s e p hp).1 hh)]

/-! ### What PANEL-RETIRE answers (R28) -/

theorem panelRetire_range (entry force : Byte) (s : State) (h : 3 < entry.toNat) :
    panelRetire entry force s = (s, some (.bare .range)) := by
  simp [panelRetire, fin?_eq_none.2 h]

theorem panelRetire_noPanel (e : Fin 4) (force : Byte) (s : State) (hp : s.panel e = none) :
    panelRetire (BitVec.ofNat 8 e) force s = (s, some (.bare .noPanel)) := by
  rw [panelRetire, fin?_ofNat e (by decide)]
  simp [hp]

theorem panelRetire_busy (e : Fin 4) (force : Byte) (s : State) (p : Panel) (cause : RetireCause) (hp : s.panel e = some p)
    (hb : s.retireBusy e p (flagSet force) = some cause) :
    panelRetire (BitVec.ofNat 8 e) force s = (s, some ⟨.busy, u8 cause.code⟩) := by
  rw [panelRetire, fin?_ofNat e (by decide)]
  simp [hp, hb]

theorem panelRetire_retires (e : Fin 4) (force : Byte) (s : State) (p : Panel) (hp : s.panel e = some p)
    (hb : s.retireBusy e p (flagSet force) = none) :
    panelRetire (BitVec.ofNat 8 e) force s = (retire s e p.fixture,
      some (.ok (u8 e ++ opt8 (((retire s e p.fixture).mounted p.fixture).map Fin.val)))) := by
  rw [panelRetire, fin?_ofNat e (by decide)]
  simp [hp, hb]

theorem flagSet_of_ne {b : Byte} (h : b ≠ 0) : flagSet b = true := decide_eq_true h

/-- A panel that is CLEARED, or with force one without work in flight, may be retired (R28). -/
theorem retireBusy_eq_none {s : State} {e : Fin 4} {p : Panel} {force : Byte} (hp : s.panel e = some p)
    (h : p.state = .cleared ∨ (p.state ≠ .cleared ∧ force ≠ 0 ∧ ¬ p.InWork ∧ ¬ p.InHand ∧ ¬ s.hold.HeldOn e)) :
    s.retireBusy e p (flagSet force) = none := by
  rcases h with hcl | ⟨hcl, hforce, hw, hh, hheld⟩
  · exact retireBusy_cleared s e p _ hcl
  · rw [flagSet_of_ne hforce, retireBusy_forced s e p hcl, workInFlight_hold hp hw hh, if_neg (mt (onEntry_iff _ e).1 hheld)]

/-! ### The queue of a fixture (R30) -/

/-- The panel that leaves the queue of a fixture, with its entry: none while a panel is mounted there. -/
def State.queueHead (s : State) (f : Fin 2) : Option (Fin 4 × Panel) :=
  if (s.mounted f).isSome then none else (s.onFixture f).head?.bind (fun e => (s.panel e).map (fun p => (e, p)))

theorem advanceQueue_eq (s : State) (f : Fin 2) : s.advanceQueue f =
    (s.queueHead f).elim s (fun ep => s.setPanel ep.1 (some { ep.2 with state := .aligning })) := by
  unfold State.advanceQueue State.queueHead
  split
  · rfl
  cases s.onFixture f with
  | nil => rfl
  | cons e rest => cases hp : s.panel e <;> simp [hp]

theorem queueHead_spec {s : State} {f : Fin 2} {x : Fin 4} {q : Panel} (h : s.queueHead f = some (x, q)) :
    s.panel x = some q ∧ q.fixture = f ∧ q.state = .queued := by
  unfold State.queueHead at h
  split at h
  · cases h
  next hm =>
    obtain ⟨y, hy, hq⟩ := Option.bind_eq_some_iff.1 h
    obtain ⟨q', hp, he⟩ := Option.map_eq_some_iff.1 hq
    obtain ⟨rfl, rfl⟩ := Prod.mk.inj he
    obtain ⟨q'', hp', hf⟩ := (mem_onFixture s f y).1 (List.mem_of_head? hy)
    obtain rfl := Option.some.inj (hp.symm.trans hp')
    exact ⟨hp, hf, queued_of_mounted_none (by simpa using hm) y q' hp hf⟩

/-- A panel alone on its fixture and QUEUED is the head of its queue. -/
theorem queueHead_of_alone {s : State} {x : Fin 4} {q : Panel} (hq : s.panel x = some q) (hst : q.state = .queued)
    (halone : ∀ y q', y ≠ x → s.panel y = some q' → q'.fixture ≠ q.fixture) : s.queueHead q.fixture = some (x, q) := by
  have hon : ∀ y ∈ s.onFixture q.fixture, y = x := by
    intro y hy
    obtain ⟨q', hq', hf⟩ := (mem_onFixture s _ y).1 hy
    exact by_contra fun hne => halone y q' hne hq' hf
  have hmounted : s.mounted q.fixture = none := by
    refine List.find?_eq_none.2 fun y _ => ?_
    cases hy : s.panel y with
    | none => simp
    | some q' =>
      by_cases hyx : y = x
      · subst hyx
        obtain rfl := Option.some.inj (hq.symm.trans hy)
        simp [hst]
      · simp [halone y q' hyx hy]
  have hhead : (s.onFixture q.fixture).head? = some x := by
    have hx : x ∈ s.onFixture q.fixture := (mem_onFixture s _ x).2 ⟨q, hq, rfl⟩
    cases hl : s.onFixture q.fixture with
    | nil => rw [hl] at hx; cases hx
    | cons y rest => exact congrArg some (hon y (hl ▸ List.mem_cons_self))
  simp [State.queueHead, hmounted, hhead, hq]

/-- A panel that is not QUEUED on the fixture stays. -/
theorem panel_advanceQueue_stays (s : State) (f : Fin 2) (x : Fin 4)
    (h : ∀ q, s.panel x = some q → q.fixture ≠ f ∨ q.state ≠ .queued) : (s.advanceQueue f).panel x = s.panel x := by
  rw [advanceQueue_eq]
  cases hh : s.queueHead f with
  | none => rfl
  | some ep =>
    obtain ⟨y, q⟩ := ep
    obtain ⟨hq, hf, hst⟩ := queueHead_spec hh
    refine panel_setPanel_ne s y x _ fun hyx => ?_
    rcases h q (hyx ▸ hq) with hne | hne
    · exact hne hf
    · exact hne hst

/-- A panel alone on its fixture and QUEUED begins ALIGNING. -/
theorem panel_advanceQueue_mounts {s : State} {x : Fin 4} {q : Panel} (hq : s.panel x = some q) (hst : q.state = .queued)
    (halone : ∀ y q', y ≠ x → s.panel y = some q' → q'.fixture ≠ q.fixture) :
    (s.advanceQueue q.fixture).panel x = some { q with state := .aligning } := by
  rw [advanceQueue_eq, queueHead_of_alone hq hst halone]
  exact panel_setPanel s x _

/-! ### A retirement that is taken (R29, R52) -/

/-- The part with the entry FREE and its run IDLE, before the queue moves on. -/
def State.freed (s : State) (e : Fin 4) : State := { s.setPanel e none with runs := s.runs.set e .idle }

theorem panel_freed (s : State) (e : Fin 4) : (s.freed e).panel e = none := panel_setPanel s e none

theorem panel_freed_ne (s : State) (e x : Fin 4) (h : x ≠ e) : (s.freed e).panel x = s.panel x := panel_setPanel_ne s e x none h.symm

theorem retire_eq (s : State) (e : Fin 4) (f : Fin 2) : retire s e f = (s.freed e).advanceQueue f := rfl

/-- A retirement writes the Panel Table and the run alone. -/
theorem retire_frame (s : State) (e : Fin 4) (f : Fin 2) :
    retire s e f = { s with panels := (retire s e f).panels, runs := s.runs.set e .idle } := by
  rw [retire_eq, advanceQueue_eq]
  cases (s.freed e).queueHead f <;> rfl

/-- It does not read OVR. -/
theorem retire_ovr (s : State) (e : Fin 4) (f : Fin 2) (b : Bool) :
    retire { s with ovr := b } e f = { retire s e f with ovr := b } := by
  have hhead : (({ s with ovr := b } : State).freed e).queueHead f = (s.freed e).queueHead f := rfl
  rw [retire_eq, retire_eq, advanceQueue_eq, advanceQueue_eq, hhead]
  cases (s.freed e).queueHead f <;> rfl

theorem panel_retire (s : State) (e : Fin 4) (f : Fin 2) : (retire s e f).panel e = none := by
  rw [retire_eq, panel_advanceQueue_stays _ f e (by simp [panel_freed]), panel_freed]

/-- The other entries after a retirement. -/
theorem panel_retire_ne (s : State) (e x : Fin 4) (f : Fin 2) (hx : x ≠ e) :
    (s.panel x = none → (retire s e f).panel x = none) ∧ ∀ q, s.panel x = some q →
      (q.fixture ≠ f ∨ q.state ≠ .queued → (retire s e f).panel x = some q)
        ∧ (q.fixture = f → q.state = .queued →
            (∀ y q', y ≠ e → y ≠ x → s.panel y = some q' → q'.fixture ≠ f) →
            (retire s e f).panel x = some { q with state := .aligning }) := by
  have hfreed := panel_freed_ne s e x hx
  refine ⟨fun hnone => ?_, fun q hq => ⟨fun hkeep => ?_, fun hf hst halone => ?_⟩⟩
  · rw [retire_eq, panel_advanceQueue_stays _ f x (by simp [hfreed, hnone]), hfreed, hnone]
  · rw [retire_eq, panel_advanceQueue_stays _ f x (by simpa [hfreed, hq] using hkeep), hfreed, hq]
  · subst hf
    rw [retire_eq]
    refine panel_advanceQueue_mounts (s := s.freed e) (hfreed.trans hq) hst fun y q' hy hq' => ?_
    by_cases hye : y = e
    · rw [hye, panel_freed] at hq'
      cases hq'
    · exact halone y q' hye hy (panel_freed_ne s e y hye ▸ hq')

/-- Settles O26: the refusals, the causes in their order, and the retirement with the queue that moves on. -/
theorem panelRetireFreesTheEntry : Obligations.PanelRetireFreesTheEntry := by
  refine ⟨fun s entry force ⟨hopen, hnormal⟩ => ⟨fun hbig => ?_, fun e hp => ?_⟩, fun s e p force ⟨hopen, hnormal⟩ hp => ?_⟩
  · exact exec_answered hopen (.inl hnormal) rfl (panelRetire_range entry force _ hbig)
  · exact exec_answered hopen (.inl hnormal) rfl (panelRetire_noPanel e force _ hp)
  have busy : ∀ cause, ({ s with ovr := false } : State).retireBusy e p (flagSet force) = some cause →
      exec (.panelRetire (BitVec.ofNat 8 e) force) s = .next (s.answered .panelRetire .busy (u8 cause.code)) :=
    fun cause hb => exec_answered hopen (.inl hnormal) rfl (panelRetire_busy e force _ p cause hp hb)
  have forced : ∀ cause, p.state ≠ .cleared → force ≠ 0 → ({ s with ovr := false } : State).workInFlight e = some cause →
      exec (.panelRetire (BitVec.ofNat 8 e) force) s = .next (s.answered .panelRetire .busy (u8 cause.code)) :=
    fun cause hcl hforce hw => busy cause (by rw [flagSet_of_ne hforce, retireBusy_forced _ e p hcl, hw])
  refine ⟨fun hmay => ?_, fun hcl hforce => ?_, fun hcl hforce hw => ?_, fun hcl hforce hw hh => ?_, fun hcl hforce hw hh hheld => ?_⟩
  · have htaken := panelRetire_retires e force { s with ovr := false } p hp (retireBusy_eq_none hp hmay)
    rw [retire_ovr] at htaken
    exact ⟨retire s e p.fixture, _, exec_changes (retire s e p.fixture) hopen (.inl hnormal) rfl htaken,
      retire_frame s e p.fixture, panel_retire s e p.fixture, rfl, fun x hx => panel_retire_ne s e x p.fixture hx⟩
  · exact busy .notCleared (hforce ▸ retireBusy_unforced _ e p hcl)
  · exact forced .tabInWork hcl hforce (workInFlight_tab hp hw)
  · exact forced .boardInWork hcl hforce (workInFlight_board hp hw hh)
  · exact forced .verdictHeld hcl hforce ((workInFlight_hold hp hw hh).trans (if_pos ((onEntry_iff _ e).2 hheld)))

end Sys2Proof.Machine
end

section
/-! PANEL-ADMIT (R23 to R26, R194): the tests in their order, where a panel id is found, and the records of the panel created. -/

namespace Sys2Proof.Machine

/-! ### Where a panel id is found (R24, R194) -/

/-- Every entry stands in the table behind lower ones only. -/
theorem entries_split (x : Fin 4) : ∃ before after, entries = before ++ x :: after ∧ ∀ y ∈ before, y < x := by
  fin_cases x
  · exact ⟨[], [1, 2, 3], rfl, by simp⟩
  · exact ⟨[0], [2, 3], rfl, by decide⟩
  · exact ⟨[0, 1], [3], rfl, by decide⟩
  · exact ⟨[0, 1, 2], [], rfl, by decide⟩

/-- The lowest entry of the Panel Table that passes a test. -/
theorem find?_entries {test : Fin 4 → Bool} {e : Fin 4} (h : test e = true) (hlow : ∀ x, x < e → test x = false) :
    entries.find? test = some e := by
  obtain ⟨before, after, hsplit, hbefore⟩ := entries_split e
  exact List.find?_eq_some_iff_append.2 ⟨h, before, after, hsplit, fun y hy => by simp [hlow y (hbefore y hy)]⟩

theorem panelId_eq (s : State) (e : Fin 4) : s.panelId e = (s.panel e).map Panel.id := rfl

theorem entryOfId_some {s : State} {id : Word} {e : Fin 4} {p : Panel} (hp : s.panel e = some p) (hid : p.id = id)
    (hlow : ∀ x q, x < e → s.panel x = some q → q.id ≠ id) : s.entryOfId id = some e := by
  refine find?_entries (by simp [panelId_eq, hp, hid]) fun x hx => ?_
  cases hq : s.panel x with
  | none => simp [panelId_eq, hq]
  | some q => simpa [panelId_eq, hq] using hlow x q hx hq

theorem entryOfId_none {s : State} {id : Word} (h : ∀ x p, s.panel x = some p → p.id ≠ id) : s.entryOfId id = none := by
  refine List.find?_eq_none.2 fun x _ => ?_
  cases hq : s.panel x with
  | none => simp [panelId_eq, hq]
  | some q => simpa [panelId_eq, hq] using h x q hq

/-- The lowest slot that carries the id. -/
theorem magazine_findId_some {m : Magazine} {id : Word} {slot : Nat} {x : Slot} (hx : m.slots[slot]? = some x)
    (hid : x.panelId = some id) (hlow : ∀ j y, j < slot → m.slots[j]? = some y → y.panelId ≠ some id) :
    m.findId id = some slot := by
  have hfind := (find?_numbered m.slots (fun si => decide (si.2.panelId = some id)) 0 slot x).2
    ⟨Nat.zero_le _, hx, decide_eq_true hid, fun j y _ hj hy => decide_eq_false (hlow j y hj hy)⟩
  rw [List.find?_map] at hfind
  obtain ⟨si, hsi, heq⟩ := Option.map_eq_some_iff.1 hfind
  obtain ⟨hslot, -⟩ := Prod.mk.inj heq
  exact Option.map_eq_some_iff.2 ⟨si, hsi, hslot⟩

theorem magazine_findId_none {m : Magazine} {id : Word} (h : ∀ x ∈ m.slots, x.panelId ≠ some id) : m.findId id = none := by
  refine Option.map_eq_none_iff.2 (List.find?_eq_none.2 fun si hsi => ?_)
  simpa using h si.1 (List.fst_mem_of_mem_zipIdx hsi)

/-- A live entry with the id is found first. -/
theorem findId_live {s : State} {id : Word} {e : Fin 4} (h : s.entryOfId id = some e) : s.findId id = some (u8 0 ++ u8 e) := by
  simp [State.findId, h]

/-- Without one, the magazine records are searched in their order. -/
theorem findId_magazines {s : State} {id : Word} (h : s.entryOfId id = none) : s.findId id =
    s.magazines.findSome? (fun lm => (lm.2.findId id).map (fun slot => u8 1 ++ u8 lm.1 ++ u8 slot)) := by
  simp [State.findId, h]

theorem findId_slot {s : State} {id : Word} {before after : List (Nat × Magazine)} {code slot : Nat} {m : Magazine}
    (hlive : s.entryOfId id = none) (hsplit : s.magazines = before ++ (code, m) :: after)
    (hbefore : ∀ lm ∈ before, ∀ y ∈ lm.2.slots, y.panelId ≠ some id) (hm : m.findId id = some slot) :
    s.findId id = some (u8 1 ++ u8 code ++ u8 slot) := by
  rw [findId_magazines hlive, List.findSome?_eq_some_iff]
  refine ⟨before, (code, m), after, hsplit, by simp [hm], fun lm hlm => ?_⟩
  simp [magazine_findId_none (hbefore lm hlm)]

theorem findId_none {s : State} {id : Word} (hlive : s.entryOfId id = none)
    (h : ∀ lm ∈ s.magazines, ∀ x ∈ lm.2.slots, x.panelId ≠ some id) : s.findId id = none := by
  rw [findId_magazines hlive, List.findSome?_eq_none_iff]
  intro lm hlm
  simp [magazine_findId_none (h lm hlm)]

/-- The lowest FREE entry (R25). -/
theorem freeEntry_some {s : State} {e : Fin 4} (h : s.panel e = none) (hlow : ∀ x, x < e → s.panel x ≠ none) :
    s.freeEntry = some e :=
  find?_entries (by simp [h]) fun x hx => by simpa [Option.isSome_iff_ne_none] using hlow x hx

/-! ### What PANEL-ADMIT answers (R23 to R25) -/

theorem panelAdmit_range (id : Word) (number fixture : Byte) (s : State) (h : 15 < number.toNat ∨ 1 < fixture.toNat) :
    panelAdmit id number fixture s = (s, some (.bare .range)) := by
  unfold panelAdmit
  rcases h with hn | hf
  · rw [fin?_eq_none.2 hn]
    cases fin? 2 fixture.toNat <;> rfl
  · rw [fin?_eq_none.2 hf]

/-- With both numbers in range, the store is asked for the recipe. -/
theorem panelAdmit_noRecipe (id : Word) (n : Fin 16) (f : Fin 2) (s : State) (h : s.offered n = none) :
    panelAdmit id (BitVec.ofNat 8 n) (BitVec.ofNat 8 f) s = (s, some (.bare .noRecipe)) := by
  rw [panelAdmit, fin?_ofNat n (by decide), fin?_ofNat f (by decide)]
  simp [h]

theorem panelAdmit_full (id : Word) (n : Fin 16) (f : Fin 2) (s : State) (r : Recipe) (h : s.offered n = some r)
    (hfull : 2 ≤ (s.onFixture f).length) :
    panelAdmit id (BitVec.ofNat 8 n) (BitVec.ofNat 8 f) s = (s, some (.bare .full)) := by
  rw [panelAdmit, fin?_ofNat n (by decide), fin?_ofNat f (by decide)]
  simp [h, hfull]

theorem panelAdmit_duplicate (id : Word) (n : Fin 16) (f : Fin 2) (s : State) (r : Recipe) (place : List Byte)
    (h : s.offered n = some r) (hroom : (s.onFixture f).length < 2) (hid : s.findId id = some place) :
    panelAdmit id (BitVec.ofNat 8 n) (BitVec.ofNat 8 f) s = (s, some ⟨.duplicate, place⟩) := by
  rw [panelAdmit, fin?_ofNat n (by decide), fin?_ofNat f (by decide)]
  simp [h, Nat.not_le.2 hroom, hid]

theorem panelAdmit_admits (id : Word) (n : Fin 16) (f : Fin 2) (s : State) (r : Recipe) (e : Fin 4)
    (h : s.offered n = some r) (hroom : (s.onFixture f).length < 2) (hid : s.findId id = none) (he : s.freeEntry = some e) :
    panelAdmit id (BitVec.ofNat 8 n) (BitVec.ofNat 8 f) s = ((admitInto s e id n f r).1, some (admitInto s e id n f r).2) := by
  rw [panelAdmit, fin?_ofNat n (by decide), fin?_ofNat f (by decide)]
  simp [h, Nat.not_le.2 hroom, hid, he]

theorem offered_none {s : State} {n : Fin 16} (h : s.slots[n] = none ∨ s.staging.number = some n) : s.offered n = none := by
  unfold State.offered
  split
  · rfl
  next hopen => exact h.resolve_right hopen

theorem offered_some {s : State} {n : Fin 16} {r : Recipe} (hr : s.slots[n] = some r) (hopen : s.staging.number ≠ some n) :
    s.offered n = some r := (if_neg hopen).trans hr

/-! ### The records created (R26) -/

theorem newBoards_getElem? (r : Recipe) {i : Nat} {x : RecipeSite} (hx : r.sites[i]? = some x) :
    (newBoards r)[i]? = some (newBoard (x, i)) := by
  simp [newBoards, hx]

theorem newBoard_tabs_getElem? (x : RecipeSite) (i : Nat) {j : Nat} {t : RecipeTab} (ht : x.tabs[j]? = some t) :
    (newBoard (x, i)).tabs[j]? = some (newTab i (t, j)) := by
  simp [newBoard, ht]

/-- Settles O25: the refusals in the order of the tests, and the panel created in the lowest FREE entry. -/
theorem panelAdmitCreatesAPanel : Obligations.PanelAdmitCreatesAPanel := by
  intro s id ⟨hopen, hnormal⟩
  refine ⟨fun number fixture hbad => ?_, fun n f => ⟨fun habsent => ?_, fun r hr hstaged => ?_⟩⟩
  · exact exec_answered hopen (.inl hnormal) rfl (panelAdmit_range id number fixture _ hbad)
  · exact exec_answered hopen (.inl hnormal) rfl (panelAdmit_noRecipe id n f _ (offered_none habsent))
  have hoffer : ({ s with ovr := false } : State).offered n = some r := offered_some hr hstaged
  refine ⟨fun hfull => ?_, fun hroom => ⟨fun e p hp hid hlow => ?_, fun hlive => ⟨?_, fun e hmag hfree hlow => ?_⟩⟩⟩
  · exact exec_answered hopen (.inl hnormal) rfl (panelAdmit_full id n f _ r hoffer hfull)
  · exact exec_answered hopen (.inl hnormal) rfl
      (panelAdmit_duplicate id n f _ r _ hoffer hroom (findId_live (entryOfId_some hp hid hlow)))
  · intro before code m after slot x hsplit hbefore hx hid hlow
    exact exec_answered hopen (.inl hnormal) rfl (panelAdmit_duplicate id n f _ r _ hoffer hroom
      (findId_slot (entryOfId_none hlive) hsplit hbefore (magazine_findId_some hx hid hlow)))
  · refine ⟨newBoards r, exec_changes _ hopen (.inl hnormal) rfl (panelAdmit_admits id n f _ r e hoffer hroom
      (findId_none (entryOfId_none hlive) hmag) (freeEntry_some hfree hlow)), by simp [newBoards], fun i x hx => ?_⟩
    exact ⟨(newBoard (x, i)).tabs, newBoards_getElem? r hx, by simp [newBoard], fun j t ht => newBoard_tabs_getElem? x i ht⟩

end Sys2Proof.Machine
end

section
/-! The correction arithmetic (R40, R41, R44): the rounded quotient by quotient and remainder, how far it lies from the exact
quotient, and where it is exact. -/

namespace Sys2Proof.Machine

/-! ### The rounded quotient (R40) -/

/-- The magnitude of a rounded quotient with quotient `q` and remainder `r`: a half or more is rounded up (R40, step 3). -/
def roundUp (d q r : Nat) : Int := if d ≤ 2 * r then (q : Int) + 1 else q

/-- The four steps of R40. -/
theorem roundDiv_eq (a b : Int) :
    roundDiv a b = (if a < 0 then -1 else 1) * roundUp b.natAbs (a.natAbs / b.natAbs) (a.natAbs % b.natAbs) := by
  simp only [roundDiv, roundUp]
  split <;> split <;> simp

/-- Rounding a magnitude moves it by half of the divisor at most. -/
theorem roundUp_near (d q r : Nat) (hr : r < d) : 2 * ((d : Int) * roundUp d q r - (q * d + r : Nat)).natAbs ≤ d := by
  have hcomm : (d : Int) * q = q * d := mul_comm _ _
  unfold roundUp
  split
  · rw [mul_add, hcomm]
    push_cast
    omega
  · rw [hcomm]
    push_cast
    omega

/-- The rounded quotient lies within half of the exact quotient. -/
theorem roundDiv_near (a b : Int) (hb : 0 < b) : 2 * (b * roundDiv a b - a).natAbs ≤ b.natAbs := by
  have hnear := roundUp_near b.natAbs (a.natAbs / b.natAbs) (a.natAbs % b.natAbs) (Nat.mod_lt _ (by omega))
  rw [Nat.div_add_mod', Int.natAbs_of_nonneg hb.le] at hnear
  rw [roundDiv_eq]
  split
  · rw [neg_one_mul, mul_neg]
    omega
  · rw [one_mul]
    omega

/-- A quotient without remainder is exact. -/
theorem roundDiv_mul (k b : Int) (hb : 0 < b) : roundDiv (b * k) b = k := by
  have hnear := roundDiv_near (b * k) b hb
  rw [← mul_sub, Int.natAbs_mul] at hnear
  have hzero : (roundDiv (b * k) b - k).natAbs = 0 := by
    by_contra hne
    have := Nat.le_mul_of_pos_right b.natAbs (Nat.pos_of_ne_zero hne)
    omega
  omega

theorem roundDiv_zero (b : Int) (hb : 0 < b) : roundDiv 0 b = 0 := by
  simpa using roundDiv_mul 0 b hb

/-! ### The correction values and the corrected point (R41, R44) -/

/-- A pair measured as far apart as its recipe has it, in the same direction, gives c 1 and s 0 in Q20. -/
theorem correctionValues_shifted (f1n f2n f1m f2m : Point) (hx : f2m.x - f1m.x = f2n.x - f1n.x)
    (hy : f2m.y - f1m.y = f2n.y - f1n.y)
    (hn : 0 < (f2n.x - f1n.x) * (f2n.x - f1n.x) + (f2n.y - f1n.y) * (f2n.y - f1n.y)) :
    correctionValues f1n f2n f1m f2m = (1048576, 0) := by
  have hs : (f2n.x - f1n.x) * (f2n.y - f1n.y) - (f2n.y - f1n.y) * (f2n.x - f1n.x) = 0 := by rw [mul_comm, sub_self]
  simp only [correctionValues, hx, hy, hs, zero_mul, roundDiv_zero _ hn, roundDiv_mul _ _ hn, Config.q20]

/-- Fiducial 1 corrects to its measured point. -/
theorem correctPoint_fiducial (c s : Int) (f1m f1n : Point) : correctPoint c s f1m f1n f1n = f1m := by
  simp [correctPoint, roundDiv_zero, Config.q20]

/-- With c 1 and s 0 in Q20 a point is only shifted. -/
theorem correctPoint_shift (f1m f1n p : Point) :
    correctPoint 1048576 0 f1m f1n p = ⟨f1m.x + (p.x - f1n.x), f1m.y + (p.y - f1n.y)⟩ := by
  simp [correctPoint, roundDiv_mul, Config.q20]

/-- Settles O27: each claim is one of the two facts of the rounded quotient, `roundDiv_near` and `roundDiv_mul`. -/
theorem correctionFollowsTheFiducials : Obligations.CorrectionFollowsTheFiducials := by
  refine ⟨fun a b hb => ?_, fun f1n f2n f1m f2m p c s => ?_⟩
  · exact ⟨_, _, (Nat.div_add_mod' _ _).symm, Nat.mod_lt _ (by omega), roundDiv_eq a b⟩
  · intro q u v nx ny mx my n cs
    have hx : q.x - f1m.x = roundDiv (c * u - s * v) 1048576 := add_sub_cancel_left _ _
    have hy : q.y - f1m.y = roundDiv (s * u + c * v) 1048576 := add_sub_cancel_left _ _
    refine ⟨rfl, rfl, correctPoint_fiducial c s f1m f1n, ?_, ?_, fun hn => ⟨?_, ?_⟩, fun hn hmx hmy => ?_, ?_⟩
    · rw [hx]
      exact roundDiv_near _ 1048576 (by decide)
    · rw [hy]
      exact roundDiv_near _ 1048576 (by decide)
    · exact roundDiv_near _ n hn
    · exact roundDiv_near _ n hn
    · exact correctionValues_shifted f1n f2n f1m f2m hmx hmy hn
    · exact correctPoint_shift f1m f1n p

end Sys2Proof.Machine
end

section
/-! The order of a correction run (R45): the items it visits, as a list, and that the item after each one is the next of the list. -/

namespace Sys2Proof.Machine

/-! ### Following a list -/

/-- `next` leads from each item of the list to the one after it, and from the last one to `last`. -/
def RunsThrough (next : RunItem → RunItem) (last : RunItem) : List RunItem → Prop
  | [] => True
  | x :: rest => next x = rest.headD last ∧ RunsThrough next last rest

/-- Two lists are run through one after the other. -/
theorem RunsThrough.append {next : RunItem → RunItem} {last : RunItem} {l m : List RunItem}
    (hl : RunsThrough next (m.headD last) l) (hm : RunsThrough next last m) : RunsThrough next last (l ++ m) := by
  induction l with
  | nil => exact hm
  | cons x rest ih =>
    obtain ⟨hx, hrest⟩ := hl
    refine ⟨hx.trans ?_, ih hrest⟩
    cases rest <;> rfl

/-- The item after the one at a place is the one at the next place. -/
theorem RunsThrough.next_getElem? {next : RunItem → RunItem} {last x : RunItem} {l : List RunItem} {i : Nat}
    (h : RunsThrough next last l) (hx : l[i]? = some x) : next x = l.getD (i + 1) last := by
  induction l generalizing i with
  | nil => cases hx
  | cons y rest ih =>
    obtain ⟨hy, hrest⟩ := h
    cases i with
    | zero =>
      obtain rfl := Option.some.inj hx
      rw [hy]
      cases rest <;> rfl
    | succ i => exact ih hrest hx

/-! ### The items of the zones and of the boards -/

/-- The items of the zones present, numbered from `n`. -/
def zoneItems (zones : List (Option Rect)) (n : Nat) : List RunItem :=
  (zones.zipIdx n).filterMap (fun zi => zi.1.map (fun _ => .zone zi.2))

/-- The items of the boards, numbered from `n`: each one's pick point, then its tabs. -/
def boardItems (boards : List BoardRecord) (n : Nat) : List RunItem :=
  (boards.zipIdx n).flatMap (fun bi => .pick bi.2 :: (List.range bi.1.tabs.length).map (fun t => .tab bi.2 t))

theorem runItems_eq (zones : Vector (Option Rect) 8) (boards : List BoardRecord) :
    runItems zones boards = zoneItems zones.toList 0 ++ boardItems boards 0 := rfl

@[simp] theorem zoneItems_none (zones : List (Option Rect)) (n : Nat) : zoneItems (none :: zones) n = zoneItems zones (n + 1) := by
  simp [zoneItems]

@[simp] theorem zoneItems_some (z : Rect) (zones : List (Option Rect)) (n : Nat) :
    zoneItems (some z :: zones) n = .zone n :: zoneItems zones (n + 1) := by
  simp [zoneItems]

theorem boardItems_cons (b : BoardRecord) (boards : List BoardRecord) (n : Nat) : boardItems (b :: boards) n =
    .pick n :: ((List.range b.tabs.length).map (fun t => .tab n t) ++ boardItems boards (n + 1)) := by
  simp [boardItems]

/-- The first zone present at or after a number, of a list numbered from `n`. -/
theorem find?_zoneItems (zones : List (Option Rect)) (n m : Nat) :
    ((zones.zipIdx n).find? (fun zi => decide (m ≤ zi.2) && zi.1.isSome)).map (fun zi => RunItem.zone zi.2) =
      (zoneItems (zones.drop (m - n)) (n + (m - n))).head? := by
  induction zones generalizing n with
  | nil => simp [zoneItems]
  | cons z zones ih =>
    rw [List.zipIdx_cons, List.find?_cons]
    rcases lt_or_ge n m with hlt | hge
    · have hskip : m - n = m - (n + 1) + 1 := by omega
      rw [hskip, List.drop_succ_cons, Nat.add_left_comm, Nat.add_comm _ (n + 1), ← ih (n + 1)]
      simp [Nat.not_le.2 hlt]
    · have hrest := ih (n + 1)
      rw [Nat.sub_eq_zero_of_le (Nat.le_succ_of_le hge), List.drop_zero, Nat.add_zero] at hrest
      rw [Nat.sub_eq_zero_of_le hge, List.drop_zero, Nat.add_zero]
      cases z with
      | none => simpa using hrest
      | some z => simp [hge]

/-- The first item of R45 at or after a zone number. -/
theorem zoneItemFrom_eq (zones : Vector (Option Rect) 8) (boards : List BoardRecord) (m : Nat) :
    zoneItemFrom zones boards m =
      (zoneItems (zones.toList.drop m) m).headD ((boardItems boards 0).headD .finished) := by
  have hboards : (if boards.isEmpty then RunItem.finished else .pick 0) = (boardItems boards 0).headD .finished := by
    cases boards with
    | nil => rfl
    | cons b boards => simp [boardItems_cons]
  have hfind := find?_zoneItems zones.toList 0 m
  rw [Nat.sub_zero, Nat.zero_add] at hfind
  rw [List.headD_eq_head?_getD, ← hfind, ← hboards, zoneItemFrom]
  cases zones.toList.zipIdx.find? (fun zi => decide (m ≤ zi.2) && zi.1.isSome) <;> rfl

/-- The item after a site's last one. -/
theorem siteItemAfter_eq (boards : List BoardRecord) (site : Nat) :
    siteItemAfter boards site = (boardItems (boards.drop (site + 1)) (site + 1)).headD .finished := by
  unfold siteItemAfter
  split
  · next hlt => rw [List.drop_eq_getElem_cons hlt, boardItems_cons, List.headD_cons]
  · next hge => rw [List.drop_eq_nil_of_le (by omega)]; rfl

theorem tabCountAt_of_getElem? {boards : List BoardRecord} {site : Nat} {b : BoardRecord} (h : boards[site]? = some b) :
    tabCountAt boards site = b.tabs.length := by
  simp [tabCountAt, h]

/-! ### The run goes through its items (R45) -/

theorem zoneItems_runsThrough (zones : Vector (Option Rect) 8) (boards : List BoardRecord) (rest : List (Option Rect)) (n : Nat)
    (h : zones.toList.drop n = rest) :
    RunsThrough (nextItem zones boards) ((boardItems boards 0).headD .finished) (zoneItems rest n) := by
  induction rest generalizing n with
  | nil => exact trivial
  | cons z rest ih =>
    have hdrop : zones.toList.drop (n + 1) = rest := by rw [← List.drop_drop, h]; rfl
    cases z with
    | none => simpa using ih (n + 1) hdrop
    | some z =>
      rw [zoneItems_some]
      exact ⟨hdrop ▸ zoneItemFrom_eq zones boards (n + 1), ih (n + 1) hdrop⟩

/-- The tabs of a site from `j` on, `m` of them, up to its last. -/
theorem tabItems_runsThrough (zones : Vector (Option Rect) 8) (boards : List BoardRecord) (site j m : Nat)
    (h : j + m = tabCountAt boards site) :
    RunsThrough (nextItem zones boards) (siteItemAfter boards site) ((List.range' j m).map (fun t => .tab site t)) := by
  induction m generalizing j with
  | zero => exact trivial
  | succ m ih =>
    rw [List.range'_succ, List.map_cons]
    refine ⟨?_, ih (j + 1) (by omega)⟩
    rw [nextItem, ← h]
    cases m <;> simp [List.range'_succ]

theorem boardItems_runsThrough (zones : Vector (Option Rect) 8) (boards rest : List BoardRecord) (site : Nat)
    (h : boards.drop site = rest) : RunsThrough (nextItem zones boards) .finished (boardItems rest site) := by
  induction rest generalizing site with
  | nil => exact trivial
  | cons b rest ih =>
    have hdrop : boards.drop (site + 1) = rest := by rw [← List.drop_drop, h]; rfl
    have hb : boards[site]? = some b := by rw [← List.head?_drop, h]; rfl
    have hafter : siteItemAfter boards site = (boardItems rest (site + 1)).headD .finished := hdrop ▸ siteItemAfter_eq boards site
    have htabs := tabItems_runsThrough zones boards site 0 _ (Nat.zero_add _)
    rw [tabCountAt_of_getElem? hb, ← List.range_eq_range', hafter] at htabs
    rw [boardItems_cons]
    refine ⟨?_, htabs.append (ih (site + 1) hdrop)⟩
    rw [nextItem, tabCountAt_of_getElem? hb, hafter]
    cases hn : b.tabs.length <;> simp [List.range_succ_eq_map]

/-- A run begins at the first item (R43). -/
theorem zoneItemFrom_zero (zones : Vector (Option Rect) 8) (boards : List BoardRecord) :
    zoneItemFrom zones boards 0 = (runItems zones boards).headD .finished := by
  rw [zoneItemFrom_eq, runItems_eq, List.drop_zero]
  cases zoneItems zones.toList 0 <;> rfl

/-- The item after the one at a place of the run is the one at the next place, and after the last one the run has finished. -/
theorem nextItem_eq {zones : Vector (Option Rect) 8} {boards : List BoardRecord} {i : Nat} {x : RunItem}
    (h : (runItems zones boards)[i]? = some x) : nextItem zones boards x = (runItems zones boards).getD (i + 1) .finished := by
  have hruns := (zoneItems_runsThrough zones boards _ 0 rfl).append (boardItems_runsThrough zones boards _ 0 rfl)
  exact hruns.next_getElem? h

end Sys2Proof.Machine
end

section
/-! FIDUCIAL (R38, R39, R42, R43): how a delivered request that answers at once leaves the part, the refusals in their order, the
two rejections with their fault, and the acceptance. -/

namespace Sys2Proof.Machine

/-! ### Requests that answer at once (R86, R87) -/

/-- The row of a delivered request whose owning block answers. -/
theorem exec_replied {c : Instr} {s : State} (t : State) {l : LineId} {name : RequestName} {request : Request} {code : StationCode}
    {fields : List Byte} (h : LineOpen s l) (hexec : exec c s = .next (s.takeRequest l name request))
    (hr : request (s.received l) = (t, some ⟨code, fields⟩)) : exec c s = .next (t.replied l name code fields) := by
  rw [hexec, takeRequest_delivered s l name request h, hr]
  rfl

/-- An owning block finds the records as they stood when the frame came. -/
@[simp] theorem panel_received (s : State) (l : LineId) (e : Fin 4) : (s.received l).panel e = s.panel e := by
  simp [State.received, State.panel]

@[simp] theorem clampLevel_received (s : State) (l : LineId) (f : Fin 2) : (s.received l).clampLevel f = s.clampLevel f := by
  simp [State.received, State.clampLevel]

@[simp] theorem recipeOf_received (s : State) (l : LineId) (p : Panel) : (s.received l).recipeOf p = s.recipeOf p := by
  simp [State.received, State.recipeOf]

/-! ### The refusals (R38) -/

theorem fiducial_above (above : Byte) (f1m f2m : Point) (s : State) (h : 3 < above.toNat) :
    fiducial above f1m f2m s = (s, some (.bare .state)) := by
  simp [fiducial, fin?_eq_none.2 h]

/-- An entry in range is looked up in the Panel Table. -/
theorem fiducial_free (e : Fin 4) (f1m f2m : Point) (s : State) (h : s.panel e = none) :
    fiducial (BitVec.ofNat 8 e) f1m f2m s = (s, some (.bare .state)) := by
  rw [fiducial, fin?_ofNat e (by decide)]
  simp [h]

theorem fiducial_running (e : Fin 4) (f1m f2m : Point) (s : State) (p : Panel) (h : s.panel e = some p)
    (hst : p.state = .correcting) : fiducial (BitVec.ofNat 8 e) f1m f2m s = (s, some ⟨.busy, u8 1⟩) := by
  rw [fiducial, fin?_ofNat e (by decide)]
  simp [h, hst]

theorem fiducial_notAligning (e : Fin 4) (f1m f2m : Point) (s : State) (p : Panel) (h : s.panel e = some p)
    (hrun : p.state ≠ .correcting) (hst : p.state ≠ .aligning) :
    fiducial (BitVec.ofNat 8 e) f1m f2m s = (s, some (.bare .state)) := by
  rw [fiducial, fin?_ofNat e (by decide)]
  simp [h, hrun, hst]

theorem fiducial_unclamped (e : Fin 4) (f1m f2m : Point) (s : State) (p : Panel) (h : s.panel e = some p)
    (hst : p.state = .aligning) (hc : s.clampLevel p.fixture = false) :
    fiducial (BitVec.ofNat 8 e) f1m f2m s = (s, some (.bare .unclamped)) := by
  rw [fiducial, fin?_ofNat e (by decide)]
  simp [h, hst, hc]

/-- An ALIGNING panel under a CLOSED clamp goes on to the checks. -/
theorem fiducial_checked (e : Fin 4) (f1m f2m : Point) (s : State) (p : Panel) (r : Recipe) (h : s.panel e = some p)
    (hst : p.state = .aligning) (hc : s.clampLevel p.fixture = true) (hr : s.recipeOf p = some r) :
    fiducial (BitVec.ofNat 8 e) f1m f2m s = checkFiducial s e p r f1m f2m := by
  rw [fiducial, fin?_ofNat e (by decide)]
  simp [h, hst, hc, hr]

/-! ### The checks (R39, R42) and the acceptance (R43) -/

theorem inEnvelope_eq_false {p : Point} (h : ¬ Inside p) : inEnvelope p = false :=
  Bool.eq_false_iff.2 (mt (inEnvelope_iff p).1 h)

section

variable (s : State) (e : Fin 4) (p : Panel) (r : Recipe) (f1m f2m : Point)

theorem checkFiducial_range_first (h1 : ¬ Inside f1m) : checkFiducial s e p r f1m f2m = rejectRange s e p 1 := by
  simp [checkFiducial, inEnvelope_eq_false h1]

theorem checkFiducial_range_second (h1 : Inside f1m) (h2 : ¬ Inside f2m) :
    checkFiducial s e p r f1m f2m = rejectRange s e p 2 := by
  simp [checkFiducial, (inEnvelope_iff f1m).2 h1, inEnvelope_eq_false h2]

/-- With both points in the envelope the correction values are held to their limits (R42). -/
theorem checkFiducial_inside (h1 : Inside f1m) (h2 : Inside f2m) :
    let cs := correctionValues r.header.f1 r.header.f2 f1m f2m
    checkFiducial s e p r f1m f2m =
      if 5243 < (cs.1 - 1048576).natAbs then
        (s.reportFault (alignContext .scale e p), some ⟨.reject, u8 1 ++ s32 cs.1 ++ s32 cs.2⟩)
      else if 36700 < cs.2.natAbs then
        (s.reportFault (alignContext .angle e p), some ⟨.reject, u8 2 ++ s32 cs.1 ++ s32 cs.2⟩)
      else (acceptFiducial s e p r cs.1 cs.2 f1m, some ⟨.ok, s32 cs.1 ++ s32 cs.2⟩) := by
  intro cs
  have hstretch : Config.stretchLimit < (cs.1 - Config.q20).natAbs ↔ 5243 < (cs.1 - 1048576).natAbs := Int.ofNat_lt
  have hangle : Config.angleLimit < cs.2.natAbs ↔ 36700 < cs.2.natAbs := Int.ofNat_lt
  simp only [checkFiducial, (inEnvelope_iff f1m).2 h1, (inEnvelope_iff f2m).2 h2, Bool.true_eq_false, if_false]
  simp only [← hstretch, ← hangle]
  rfl

end

/-- An acceptance starts the run at its first item. -/
theorem acceptFiducial_eq (s : State) (e : Fin 4) (p : Panel) (r : Recipe) (c sn : Int) (f1m : Point) :
    acceptFiducial s e p r c sn f1m = { s.setPanel e (some { p with state := .correcting }) with
      runs := s.runs.set e (.running ⟨c, sn, f1m, [], false, (runItems r.zones p.boards).headD .finished⟩) } := by
  rw [acceptFiducial, zoneItemFrom_zero]

/-- Settles O28: the refusals of R38 in their order, then the checks one by one. -/
theorem fiducialStartsTheRunOrIsRejected : Obligations.FiducialStartsTheRunOrIsRejected := by
  intro s e x1 y1 x2 y2 hopen f1m f2m request r0
  refine ⟨fun above habove => ?_, fun hfree => ?_, fun p hp => ?_⟩
  · exact exec_replied r0 hopen rfl (fiducial_above above f1m f2m _ habove)
  · exact exec_replied r0 hopen rfl (fiducial_free e f1m f2m _ (by simp [hfree]))
  intro fault
  have hp' : (s.received .vision).panel e = some p := by simp [hp]
  refine ⟨fun hst => ?_, fun hrun hst => ?_, fun hst hclamp => ?_, fun r hr hst hclamp => ?_⟩
  · exact exec_replied r0 hopen rfl (fiducial_running e f1m f2m _ p hp' hst)
  · exact exec_replied r0 hopen rfl (fiducial_notAligning e f1m f2m _ p hp' hrun hst)
  · exact exec_replied r0 hopen rfl (fiducial_unclamped e f1m f2m _ p hp' hst (by simp [hclamp]))
  have hchecked := fiducial_checked e f1m f2m (s.received .vision) p r hp' hst (by simp [hclamp])
    ((recipeOf_received s .vision p).trans hr)
  refine ⟨fun h1 => ?_, fun h1 h2 => ?_, fun h1 h2 hc => ?_, fun h1 h2 hc hs => ?_, fun h1 h2 hc hs => ?_⟩
  · exact exec_replied (fault .range) hopen rfl (hchecked.trans (checkFiducial_range_first _ e p r f1m f2m h1))
  · exact exec_replied (fault .range) hopen rfl (hchecked.trans (checkFiducial_range_second _ e p r f1m f2m h1 h2))
  all_goals rw [checkFiducial_inside _ e p r f1m f2m h1 h2] at hchecked
  · exact exec_replied (fault .scale) hopen rfl (hchecked.trans (if_pos hc))
  · exact exec_replied (fault .angle) hopen rfl (hchecked.trans ((if_neg hc.not_gt).trans (if_pos hs)))
  · rw [acceptFiducial_eq] at hchecked
    exact exec_replied _ hopen rfl (hchecked.trans ((if_neg hc.not_gt).trans (if_neg hs.not_gt)))

end Sys2Proof.Machine
end

section
/-! The visits of a correction run and its end (R45 to R49): the run of a CORRECTING panel, what each visit writes, and the panel
as the end of the run leaves it. -/

namespace Sys2Proof.Machine

/-! ### The run of a CORRECTING panel (R37) -/

theorem activeRun_eq {s : State} {e : Fin 4} {v : RunValues} {p : Panel} {r : Recipe} (hrun : s.runs[e] = .running v)
    (hp : s.panel e = some p) (hst : p.state = .correcting) (hr : s.slots[p.recipe] = some r) :
    s.activeRun e = some (v, p, r) := by
  have hrecipe : s.recipeOf p = some r := hr
  simp [State.activeRun, hrun, hp, hst, hrecipe]

/-- The row of an event inside the part, while RESET is negated. -/
theorem exec_event {c : Instr} {s : State} {event : State → State} (hreset : s.resetAsserted = false)
    (hexec : exec c s = .next (s.takeEvent event)) : exec c s = .next (event s) := by
  rw [hexec, takeEvent_taken s event hreset]

/-! ### Segment boxes (R48) -/

theorem meets_iff (a b : Rect) : meets a b = true ↔
    a.low.x ≤ b.high.x ∧ b.low.x ≤ a.high.x ∧ a.low.y ≤ b.high.y ∧ b.low.y ≤ a.high.y := decide_eq_true_iff

/-- A tab fails its visit when it is INTACT and its box leaves the envelope or meets a zone of the run. -/
theorem tabFails_iff (v : RunValues) (x : TabRecord) (mid : Point) :
    tabFails v x mid = true ↔ x.state = .intact ∧
      (¬ (Inside (segmentBox x.orient x.width mid).low ∧ Inside (segmentBox x.orient x.width mid).high)
        ∨ ∃ z ∈ v.zones, meets (segmentBox x.orient x.width mid) z = true) := by
  have hin : boxInEnvelope (segmentBox x.orient x.width mid) = true ↔
      Inside (segmentBox x.orient x.width mid).low ∧ Inside (segmentBox x.orient x.width mid).high := by
    rw [boxInEnvelope, Bool.and_eq_true, inEnvelope_iff, inEnvelope_iff]
  simp only [tabFails, Bool.and_eq_true, decide_eq_true_eq, Bool.or_eq_true, List.any_eq_true, ← hin, Bool.not_eq_true',
    Bool.not_eq_true]

/-! ### The rectangle of a zone (R46) -/

/-- A rectangle is the bounding box of some points: it holds them, and each of its sides touches one. -/
def IsBoundingBox (box : Rect) (points : List Point) : Prop :=
  (∀ c ∈ points, box.low.x ≤ c.x ∧ c.x ≤ box.high.x ∧ box.low.y ≤ c.y ∧ c.y ≤ box.high.y)
    ∧ (∃ c ∈ points, c.x = box.low.x) ∧ (∃ c ∈ points, c.x = box.high.x)
    ∧ (∃ c ∈ points, c.y = box.low.y) ∧ ∃ c ∈ points, c.y = box.high.y

/-- The four corners of a zone, corrected. -/
def correctedCorners (v : RunValues) (f1n : Point) (z : Rect) : List Point :=
  [correctPoint v.c v.s v.f1m f1n z.low, correctPoint v.c v.s v.f1m f1n ⟨z.high.x, z.low.y⟩,
    correctPoint v.c v.s v.f1m f1n z.high, correctPoint v.c v.s v.f1m f1n ⟨z.low.x, z.high.y⟩]

theorem isBoundingBox_of_four (a b c d : Point) : IsBoundingBox
    ⟨⟨min (min a.x b.x) (min c.x d.x), min (min a.y b.y) (min c.y d.y)⟩,
      ⟨max (max a.x b.x) (max c.x d.x), max (max a.y b.y) (max c.y d.y)⟩⟩ [a, b, c, d] := by
  simp only [IsBoundingBox, List.forall_mem_cons, List.exists_mem_cons_iff]
  simp only [List.not_mem_nil, false_and, exists_false, or_false, false_imp_iff, implies_true, and_true]
  refine ⟨?_, ?_, ?_, ?_, ?_⟩ <;> omega

theorem zoneRectangle_bounds (v : RunValues) (f1n : Point) (z : Rect) :
    IsBoundingBox (zoneRectangle v f1n z) (correctedCorners v f1n z) := isBoundingBox_of_four _ _ _ _

/-! ### Changes that agree on the record changed -/

theorem modify_congr {α : Type} {l : List α} {i : Nat} {f g : α → α} (h : ∀ a, l[i]? = some a → f a = g a) :
    l.modify i f = l.modify i g := by
  by_cases hi : i < l.length
  · rw [List.modify_eq_take_cons_drop hi, List.modify_eq_take_cons_drop hi, h _ (List.getElem?_eq_getElem hi)]
  · rw [List.modify_eq_self (Nat.le_of_not_lt hi), List.modify_eq_self (Nat.le_of_not_lt hi)]

theorem modifyBoard_congr {s : State} {h : BoardHandle} {f g : BoardRecord → BoardRecord}
    (hfg : ∀ b, s.board h = some b → f b = g b) : s.modifyBoard h f = s.modifyBoard h g := by
  unfold State.modifyBoard
  cases hp : s.panel h.entry with
  | none => rfl
  | some p =>
    have hboards : p.boards.modify h.site f = p.boards.modify h.site g :=
      modify_congr fun b hb => hfg b (by simpa [State.board, State.boardsOf, hp] using hb)
    simp only [hboards]

theorem modifyTab_congr {s : State} {h : TabHandle} {f g : TabRecord → TabRecord} {x : TabRecord} (hx : s.tab h = some x)
    (hfg : f x = g x) : s.modifyTab h f = s.modifyTab h g := by
  refine modifyBoard_congr fun b hb => ?_
  have htabs : b.tabs.modify h.tab f = b.tabs.modify h.tab g := modify_congr fun y hy => by
    have hyx : s.tab h = some y := by simpa [State.tab, hb] using hy
    obtain rfl := Option.some.inj (hx.symm.trans hyx)
    exact hfg
  rw [htabs]

/-! ### What each visit writes (R46 to R48) -/

section

variable {s : State} {e : Fin 4} {v : RunValues} {p : Panel} {r : Recipe} (ha : s.activeRun e = some (v, p, r))
include ha

theorem visitZone_eq {k : Nat} {z : Rect} (hv : v.position = .zone k) (hz : r.zones.toList[k]? = some (some z)) :
    visitZone e s = s.setRun e { v with
      zones := v.zones ++ [zoneRectangle v r.header.f1 z], position := nextItem r.zones p.boards v.position } := by
  simp [visitZone, ha, hv, hz]

theorem visitPickPoint_eq {site : Nat} (hv : v.position = .pick site) :
    visitPickPoint e s = (s.modifyBoard ⟨e, site⟩ (fun b => { b with
        pickPoint := some (correctPoint v.c v.s v.f1m r.header.f1 b.nominalPick) })).setRun e
      { v with position := nextItem r.zones p.boards v.position } := by
  simp [visitPickPoint, ha, hv]

theorem visitTab_eq {site j : Nat} {x : TabRecord} (hv : v.position = .tab site j) (hx : s.tab ⟨e, site, j⟩ = some x) :
    visitTab e s = (s.modifyTab ⟨e, site, j⟩ (visitedTab v r.header.f1)).setRun e { v with
      stranding := v.stranding || tabFails v x (correctPoint v.c v.s v.f1m r.header.f1 x.nominal)
      position := nextItem r.zones p.boards v.position } := by
  simp [visitTab, ha, hv, hx]

end

/-- A tab whose visit fails is BLOCKED. -/
theorem visitedTab_fails {v : RunValues} {f1n : Point} {x : TabRecord}
    (h : tabFails v x (correctPoint v.c v.s v.f1m f1n x.nominal) = true) : visitedTab v f1n x =
      { x with corrected := some (correctPoint v.c v.s v.f1m f1n x.nominal), state := .blocked } := by
  simp [visitedTab, h]

/-- Any other tab keeps its state. -/
theorem visitedTab_passes {v : RunValues} {f1n : Point} {x : TabRecord}
    (h : tabFails v x (correctPoint v.c v.s v.f1m f1n x.nominal) = false) : visitedTab v f1n x =
      { x with corrected := some (correctPoint v.c v.s v.f1m f1n x.nominal) } := by
  simp [visitedTab, h]

/-- A run's values written after a board record. -/
theorem setRun_modifyBoard (s : State) (e : Fin 4) (w : RunValues) (h : BoardHandle) (f : BoardRecord → BoardRecord) :
    (s.modifyBoard h f).setRun e w = { s.modifyBoard h f with runs := s.runs.set e (.running w) } := by
  simp [State.setRun]

theorem setRun_modifyTab (s : State) (e : Fin 4) (w : RunValues) (h : TabHandle) (f : TabRecord → TabRecord) :
    (s.modifyTab h f).setRun e w = { s.modifyTab h f with runs := s.runs.set e (.running w) } :=
  setRun_modifyBoard s e w h.board _

/-- Settles O29: each visit's write, and the item that `nextItem_eq` puts after the one visited. -/
theorem runVisitsWriteCorrectedValues : Obligations.RunVisitsWriteCorrectedValues := by
  refine ⟨fun width m a b => ⟨rfl, rfl, meets_iff a b⟩, fun s e v p r hreset hrun hp hst hr => ?_⟩
  intro items correct after i hi next
  have ha := activeRun_eq hrun hp hst hr
  have hnext : nextItem r.zones p.boards v.position = next := nextItem_eq hi
  refine ⟨fun k z hv hz => ?_, fun site hv => ?_, fun site j x hv hx => ?_⟩
  · refine ⟨zoneRectangle v r.header.f1 z, ?_, ?_⟩
    · rw [exec_event hreset (rfl : exec (.zoneVisit e) s = _), visitZone_eq ha hv hz, hnext]
      rfl
    · rintro corners rfl
      exact zoneRectangle_bounds v r.header.f1 z
  · rw [exec_event hreset (rfl : exec (.pickPointVisit e) s = _), visitPickPoint_eq ha hv, hnext, setRun_modifyBoard]
    rfl
  · intro mid box fails
    have hvisit : exec (.tabVisit e) s = _ := exec_event hreset rfl
    rw [visitTab_eq ha hv hx, hnext, setRun_modifyTab] at hvisit
    refine ⟨fun hf => ?_, fun hf => ?_⟩
    · have hfails : tabFails v x mid = true := (tabFails_iff v x mid).2 hf
      rw [hvisit, modifyTab_congr (g := fun y => { y with corrected := some mid, state := .blocked }) hx
        (visitedTab_fails hfails), hfails, Bool.or_true]
    · have hpasses : tabFails v x mid = false := Bool.eq_false_iff.2 (mt (tabFails_iff v x mid).1 hf)
      rw [hvisit, modifyTab_congr (g := fun y => { y with corrected := some mid }) hx (visitedTab_passes hpasses), hpasses, Bool.or_false]

end Sys2Proof.Machine
end

section
/-! The end of a correction run (R49): the notices it raises, the clearing test on the panel just ALIGNED, and the part it leaves. -/

namespace Sys2Proof.Machine

/-! ### Several notices at once -/

/-- The part with every notice of a mask raised (R191). -/
def State.raiseMask (s : State) (m : BitVec 26) : State :=
  { s with notices := { s.notices with flags := s.notices.flags ||| m } }

theorem raise_eq (s : State) (n : Notice) : s.raise n = s.raiseMask n.mask := rfl

/-- A notice raised under a condition. -/
theorem raiseMask_if (s : State) (c : Prop) [Decidable c] (m : BitVec 26) :
    (if c then s.raiseMask m else s) = s.raiseMask (if c then m else 0) := by
  split
  · rfl
  · simp [State.raiseMask]

/-! ### The clearing test of an ALIGNED panel (R27) -/

/-- An entry written with the record it has. -/
theorem setPanel_self {s : State} {e : Fin 4} {p : Panel} (hp : s.panel e = some p) : s.setPanel e (some p) = s := by
  have hset : s.panels.set e (some p) = s.panels := by
    have hget : s.panels[e.val] = some p := hp
    rw [← hget, Vector.set_getElem_self]
  rw [State.setPanel, hset]

/-- It becomes CLEARED, with its notice, when every board is terminal. -/
theorem clearingTest_aligned {s : State} {e : Fin 4} {p : Panel} (hp : s.panel e = some p) (hst : p.state = .aligned) :
    s.clearingTest e = (s.setPanel e (some { p with state := if p.allTerminal then .cleared else .aligned })).raiseMask
      (if p.allTerminal then Notice.cleared.mask else 0) := by
  cases hall : p.allTerminal with
  | true => simp [State.clearingTest, hp, hst, hall, raise_eq]
  | false =>
    have hsame : s.setPanel e (some { p with state := .aligned }) = s := by rw [← hst]; exact setPanel_self hp
    simp [State.clearingTest, hp, hall, hsame, State.raiseMask]

/-! ### The end of the run (R49) -/

/-- The part once the panel is ALIGNED and its notices are raised, before the clearing test. -/
def State.alignedBy (s : State) (e : Fin 4) (p : Panel) (v : RunValues) : State :=
  ((s.setPanel e (some (p.aligned v))).raiseMask Notice.aligned.mask).raiseMask
    (if v.stranding = true ∧ p.boards.any strands = true then Notice.stranded.mask else 0)

theorem panel_alignedBy (s : State) (e : Fin 4) (p : Panel) (v : RunValues) :
    (s.alignedBy e p v).panel e = some (p.aligned v) := panel_setPanel s e _

/-- A run that has visited its last item ends with the clearing test and the run IDLE. -/
theorem endRun_finished {s : State} {e : Fin 4} {v : RunValues} {p : Panel} {r : Recipe} (ha : s.activeRun e = some (v, p, r))
    (hv : v.position = .finished) :
    endRun e s = { (s.alignedBy e p v).clearingTest e with runs := s.runs.set e .idle } := by
  have hruns : ((s.alignedBy e p v).clearingTest e).runs = s.runs := by
    simp only [clearingTest_fields]
    rfl
  rw [← hruns, State.alignedBy, ← raiseMask_if, endRun, ha]
  exact if_pos hv

/-- Settles O30: the clearing test is written out, and the panel written twice is the panel of R49. -/
theorem correctionRunEnds : Obligations.CorrectionRunEnds := by
  intro s e v p hreset hrun hv hp hst hloaded
  obtain ⟨r, hr⟩ := Option.isSome_iff_exists.1 hloaded
  have hend := endRun_finished (activeRun_eq hrun hp hst hr) hv
  rw [clearingTest_aligned (panel_alignedBy s e p v) rfl] at hend
  rw [exec_event hreset (rfl : exec (.correctionRunEnd e) s = _), hend]
  simp only [State.alignedBy, State.setPanel, State.raiseMask, Vector.set_set]
  rfl

end Sys2Proof.Machine
end

section
/-! Verdicts, cut tabs and the clearing test (R27, R60 to R62, R64, R65): what each makes of the board record it is about. -/

namespace Sys2Proof.Machine

/-! ### Changes of one board record -/

/-- A change of a board record leaves every field but the Panel Table. -/
theorem modifyBoard_frame (s : State) (h : BoardHandle) (f : BoardRecord → BoardRecord) :
    s.modifyBoard h f = { s with panels := (s.modifyBoard h f).panels } := by
  unfold State.modifyBoard
  split <;> rfl

theorem modifyBoard_of_panel {s : State} {h : BoardHandle} {p : Panel} (hp : s.panel h.entry = some p)
    (f : BoardRecord → BoardRecord) :
    s.modifyBoard h f = s.setPanel h.entry (some { p with boards := p.boards.modify h.site f }) := by
  rw [State.modifyBoard, hp]

theorem modifyBoard_of_free {s : State} {h : BoardHandle} (hp : s.panel h.entry = none) (f : BoardRecord → BoardRecord) :
    s.modifyBoard h f = s := by
  rw [State.modifyBoard, hp]

/-- An entry written twice holds what was written last. -/
theorem setPanel_setPanel (s : State) (e : Fin 4) (p q : Option Panel) : (s.setPanel e p).setPanel e q = s.setPanel e q := by
  simp [State.setPanel]

/-- Two changes of one board record are one change. -/
theorem modifyBoard_modifyBoard (s : State) (h : BoardHandle) (f g : BoardRecord → BoardRecord) :
    (s.modifyBoard h f).modifyBoard h g = s.modifyBoard h (fun b => g (f b)) := by
  cases hp : s.panel h.entry with
  | none => rw [modifyBoard_of_free hp, modifyBoard_of_free hp, modifyBoard_of_free hp]
  | some p =>
    rw [modifyBoard_of_panel hp, modifyBoard_of_panel (panel_setPanel s h.entry _), modifyBoard_of_panel hp,
      setPanel_setPanel]
    simp only [List.modify_modify_eq]
    rfl

/-! ### A tab becomes CUT (R64, R65) -/

/-- A board with one of its tabs CUT. -/
def BoardRecord.cutAt (b : BoardRecord) (tab : Nat) : BoardRecord :=
  { b with tabs := b.tabs.modify tab (fun x => { x with state := .cut }) }

/-- A board as a tab that becomes CUT leaves it. -/
def BoardRecord.afterCut (b : BoardRecord) (tab : Nat) (release : Bool) : BoardRecord :=
  if release then (b.cutAt tab).afterRelease else (b.cutAt tab).afterNonRelease

theorem cutTab_eq {s : State} {h : TabHandle} {x : TabRecord} (hx : s.tab h = some x) :
    s.cutTab h = s.modifyBoard h.board (fun b => b.afterCut h.tab x.release) := by
  rw [State.cutTab, hx]
  exact modifyBoard_modifyBoard s h.board _ _

/-- The record of a board whose release tab, or another of its tabs, has become CUT. -/
theorem afterCut_eq (b : BoardRecord) (tab : Nat) (release : Bool) :
    let tabs := b.tabs.modify tab (fun x => { x with state := .cut })
    let left := if release then b.remaining else b.remaining - 1
    let ready := release = false ∧ b.state = .cutting ∧ left = 0 ∧ ∀ y ∈ tabs, y.state ≠ .suspect
    b.afterCut tab release = { b with
      tabs := tabs, remaining := left
      state := if release = true ∧ b.state = .held then .free else if ready then .ready else b.state } := by
  cases release with
  | true => by_cases hst : b.state = .held <;> simp [BoardRecord.afterCut, BoardRecord.afterRelease, BoardRecord.cutAt, hst]
  | false => simp [BoardRecord.afterCut, BoardRecord.afterNonRelease, BoardRecord.cutAt]

/-! ### The clearing test (R27) -/

theorem allTerminal_iff (p : Panel) : p.allTerminal = true ↔ ∀ b ∈ p.boards, b.state.terminal = true := List.all_eq_true

theorem clearingTest_clears {s : State} {e : Fin 4} {p : Panel} (hp : s.panel e = some p) (hst : p.state = .aligned)
    (hall : p.allTerminal = true) :
    s.clearingTest e = (s.setPanel e (some { p with state := .cleared })).raise .cleared := by
  simp [State.clearingTest, hp, hst, hall]

theorem clearingTest_stays {s : State} {e : Fin 4} {p : Panel} (hp : s.panel e = some p)
    (hnot : ¬ (p.state = .aligned ∧ p.allTerminal = true)) : s.clearingTest e = s := by
  simp only [State.clearingTest, hp, hnot, if_false]

/-- Settles O32: a cut tab is one change of its board, and the clearing test has the two outcomes of R27. -/
theorem cutTabsUpdateTheirBoardAndPanelsClear : Obligations.CutTabsUpdateTheirBoardAndPanelsClear := by
  refine fun s => ⟨fun h b x hb hx => ?_, fun e p hp => ⟨fun ⟨hst, hall⟩ => ?_, fun hnot => ?_⟩⟩
  · rw [cutTab_eq ((tab_of_board s h b hb).trans hx)]
    refine ⟨?_, fun g hg => board_modifyBoard_ne s _ g _ hg.symm, modifyBoard_frame s _ _⟩
    rw [board_modifyBoard, hb, Option.map_some, afterCut_eq]
  · exact clearingTest_clears hp hst ((allTerminal_iff p).2 hall)
  · exact clearingTest_stays hp (by rwa [allTerminal_iff])

/-! ### A verdict applied (R60 to R62) -/

theorem applyVerdict_good (s : State) (h : BoardHandle) :
    s.applyVerdict h .good = s.modifyBoard h (fun b => b.toCut .good) := rfl

theorem applyVerdict_eject {s : State} {h : BoardHandle} (heject : s.xoutModeOf h.entry = some .eject)
    (hbay : s.settings.rejectBay.isSome = true) : s.applyVerdict h .xout = s.modifyBoard h (fun b => b.toCut .xout) := by
  simp [State.applyVerdict, heject, hbay]

theorem applyVerdict_leave {s : State} {h : BoardHandle}
    (hleave : ¬ (s.xoutModeOf h.entry = some .eject ∧ s.settings.rejectBay.isSome = true)) :
    s.applyVerdict h .xout = (s.modifyBoard h BoardRecord.leaveInFrame).clearingTest h.entry := by
  simp only [State.applyVerdict, if_true, hleave, if_false]

theorem settleVerdict_stranded {s : State} {h : BoardHandle} {b : BoardRecord} (hb : s.board h = some b)
    (hst : b.state = .stranded) (v : Verdict) : s.settleVerdict h v = s.writeVerdict h v := by
  simp [State.settleVerdict, hb, hst]

theorem settleVerdict_unsure {s : State} {h : BoardHandle} {b : BoardRecord} (hb : s.board h = some b)
    (hst : b.state = .unsure) (v : Verdict) : s.settleVerdict h v = s.applyVerdict h v := by
  simp [State.settleVerdict, hb, hst]

/-- Settles O31: the x-out mode of the panel's recipe and the reject bay decide between the branches of R61. -/
theorem verdictsAreApplied : Obligations.VerdictsAreApplied := by
  intro s h p r b v hp hr hb toCut eject
  have hmode : s.xoutModeOf h.entry = some r.header.xout := by
    simp only [State.xoutModeOf, hp, State.recipeOf, Option.bind_some, hr, Option.map_some]
  have heject : s.xoutModeOf h.entry = some .eject ∧ s.settings.rejectBay.isSome = true ↔ eject := by
    rw [hmode, Option.some_inj, Option.isSome_iff_ne_none]
  refine ⟨?_, ?_, ?_, fun hst => settleVerdict_stranded hb hst v, fun hst => settleVerdict_unsure hb hst v⟩
  · rintro rfl
    exact applyVerdict_good s h
  · rintro rfl he
    exact applyVerdict_eject (heject.2 he).1 (heject.2 he).2
  · rintro rfl he
    exact applyVerdict_leave (mt heject.1 he)

end Sys2Proof.Machine
end

section
/-! What the release interlock (R66) and the table of R59 read of a board, and what the operations on the records make of it. A step
follows the table when every board it leaves is interlocked and keeps its state or makes a move of R59. -/

namespace Sys2Proof.Machine

/-! ### What the interlock reads of a board -/

/-- A board as the interlock reads it: whether its panel has been aligned, its state, its tabs. -/
structure BoardMarks where
  aligned : Bool
  state : BoardState
  tabs : List TabRecord

/-- The panel has been aligned, so that its boards may come to the gripper (R59). -/
def Panel.hasRun (p : Panel) : Bool := decide (p.state = .aligned ∨ p.state = .cleared)

def BoardRecord.marks (b : BoardRecord) (aligned : Bool) : BoardMarks := ⟨aligned, b.state, b.tabs⟩

def Panel.marksAt (p : Panel) (site : Nat) : Option BoardMarks := (p.boards[site]?).map (fun b => b.marks p.hasRun)

/-- The marks of the board a handle names in a Panel Table. -/
def marksIn (v : Vector (Option Panel) 4) (h : BoardHandle) : Option BoardMarks := v[h.entry].bind (fun p => p.marksAt h.site)

/-- No release tab is ASSIGNED. -/
def ReleaseIdle (tabs : List TabRecord) : Prop := ∀ x ∈ tabs, x.release = true → x.state ≠ .assigned

/-- A board's share of the release interlock, told from its marks. -/
structure BoardMarks.Sound (m : BoardMarks) : Prop where
  oneRelease : releaseCount (m.tabs.map (·.release)) = 1
  interlocked : ∀ x ∈ m.tabs, x.release = true → x.state = .assigned → m.state = .held ∨ m.state = .suspect
  early : m.aligned = false → EarlyState m.state

theorem marksIn_eq (s : State) (h : BoardHandle) :
    marksIn s.panels h = (s.panel h.entry).bind (fun p => (s.board h).map (fun b => b.marks p.hasRun)) := by
  change (s.panel h.entry).bind _ = _
  simp only [State.board, State.boardsOf]
  cases s.panel h.entry <;> rfl

theorem marksIn_of_board {s : State} {h : BoardHandle} {p : Panel} {b : BoardRecord} (hp : s.panel h.entry = some p)
    (hb : s.board h = some b) : marksIn s.panels h = some (b.marks p.hasRun) := by
  rw [marksIn_eq, hp, hb]
  rfl

/-- A board that is named stands on a panel. -/
theorem panel_of_board {s : State} {h : BoardHandle} {b : BoardRecord} (hb : s.board h = some b) :
    ∃ p, s.panel h.entry = some p := by
  cases hp : s.panel h.entry with
  | none => simp [State.board, State.boardsOf, hp] at hb
  | some p => exact ⟨p, rfl⟩

theorem board_of_marksIn {s : State} {h : BoardHandle} {m : BoardMarks} (hm : marksIn s.panels h = some m) :
    ∃ p b, s.panel h.entry = some p ∧ s.board h = some b ∧ m = b.marks p.hasRun := by
  rw [marksIn_eq, Option.bind_eq_some_iff] at hm
  obtain ⟨p, hp, hm⟩ := hm
  obtain ⟨b, hb, rfl⟩ := Option.map_eq_some_iff.1 hm
  exact ⟨p, b, hp, hb, rfl⟩

/-- The interlock of the part, board by board. -/
theorem interlocked_iff (s : State) :
    Interlocked s ↔ OneReleasePerSite s ∧ ∀ h m, marksIn s.panels h = some m → m.Sound := by
  refine and_congr_right fun _ => ⟨fun hall h m hm => ?_, fun hall e p hp b hb => ?_⟩
  · obtain ⟨p, b, hp, hb, rfl⟩ := board_of_marksIn hm
    have hmem : b ∈ p.boards := List.mem_of_getElem? (by simpa [State.board, State.boardsOf, hp] using hb)
    obtain ⟨⟨hone, hlock⟩, hearly⟩ := hall h.entry p hp b hmem
    exact ⟨hone, hlock, fun ha => by simp [BoardRecord.marks, Panel.hasRun] at ha; exact hearly ha.1 ha.2⟩
  · obtain ⟨site, hsite⟩ := List.mem_iff_getElem?.1 hb
    have hboard : s.board ⟨e, site⟩ = some b := by simpa [State.board, State.boardsOf, hp] using hsite
    obtain ⟨hone, hlock, hearly⟩ := hall ⟨e, site⟩ _ (marksIn_of_board hp hboard)
    exact ⟨⟨hone, hlock⟩, fun h1 h2 => hearly (by simp [BoardRecord.marks, Panel.hasRun, h1, h2])⟩

/-! ### Steps that follow the table -/

/-- A board keeps its state or makes a move of R59. -/
def BoardState.Steps (a b : BoardState) : Prop := b = a ∨ BoardMove a b = true

theorem BoardState.Steps.refl (a : BoardState) : a.Steps a := .inl rfl

/-- From an interlocked part, every board left is interlocked, and those that were there have moved by the table. -/
def BoardsFollow (s t : State) : Prop :=
  Interlocked s → OneReleasePerSite t ∧ ∀ h n, marksIn t.panels h = some n →
    n.Sound ∧ ∀ m, marksIn s.panels h = some m → m.state.Steps n.state

/-- The Recipe Store and the marks of the boards are the same in two states. -/
def SameBoards (s t : State) : Prop := t.slots = s.slots ∧ marksIn t.panels = marksIn s.panels

theorem SameBoards.trans {s t u : State} (h : SameBoards s t) (k : SameBoards t u) : SameBoards s u :=
  ⟨k.1.trans h.1, k.2.trans h.2⟩

theorem SameBoards.of_panels {s t : State} (hslots : t.slots = s.slots) (hpanels : t.panels = s.panels) : SameBoards s t :=
  ⟨hslots, congrArg marksIn hpanels⟩

theorem SameBoards.oneRelease {s t : State} (h : SameBoards s t) : OneReleasePerSite t ↔ OneReleasePerSite s := by
  simp only [OneReleasePerSite, h.1]

theorem SameBoards.interlocked {s t : State} (h : SameBoards s t) : Interlocked t ↔ Interlocked s := by
  rw [interlocked_iff, interlocked_iff, h.oneRelease, h.2]

/-- No board has changed, and no recipe without one release tab on each site has come. -/
theorem BoardsFollow.of_marks {s t : State} (hslots : OneReleasePerSite s → OneReleasePerSite t)
    (hmarks : marksIn t.panels = marksIn s.panels) : BoardsFollow s t := by
  intro hs
  obtain ⟨hone, hall⟩ := (interlocked_iff s).1 hs
  rw [hmarks]
  exact ⟨hslots hone, fun h n hn => ⟨hall h n hn, fun m hm => .inl (congrArg _ (Option.some.inj (hn.symm.trans hm)))⟩⟩

theorem SameBoards.follow {s t : State} (h : SameBoards s t) : BoardsFollow s t := .of_marks h.oneRelease.2 h.2

theorem BoardsFollow.refl (s : State) : BoardsFollow s s := .of_marks id rfl

theorem BoardsFollow.then_same {s t u : State} (h : BoardsFollow s t) (k : SameBoards t u) : BoardsFollow s u := by
  intro hs
  rw [k.oneRelease, k.2]
  exact h hs

theorem SameBoards.then_follow {s t u : State} (h : SameBoards s t) (k : BoardsFollow t u) : BoardsFollow s u := by
  intro hs
  rw [← h.2]
  exact k (h.interlocked.2 hs)

/-- An entry written: its boards are to be interlocked and to have moved by the table. -/
theorem BoardsFollow.setPanel (s : State) (e : Fin 4) (q : Option Panel)
    (hq : Interlocked s → ∀ p site n, q = some p → p.marksAt site = some n →
      n.Sound ∧ ∀ m, marksIn s.panels ⟨e, site⟩ = some m → m.state.Steps n.state) : BoardsFollow s (s.setPanel e q) := by
  intro hs
  refine ⟨hs.1, fun h n hn => ?_⟩
  change ((s.setPanel e q).panel h.entry).bind _ = some n at hn
  by_cases he : e = h.entry
  · subst he
    rw [panel_setPanel, Option.bind_eq_some_iff] at hn
    obtain ⟨p, hp, hn⟩ := hn
    exact hq hs p h.site n hp hn
  · rw [panel_setPanel_ne s e _ q he] at hn
    exact (BoardsFollow.refl s hs).2 h n hn

/-! ### What the operations on the records do to the marks -/

/-- One board changed. -/
theorem BoardsFollow.modifyBoard (s : State) (h : BoardHandle) (f : BoardRecord → BoardRecord)
    (hf : ∀ b a, s.board h = some b → marksIn s.panels h = some (b.marks a) → (b.marks a).Sound →
      ((f b).marks a).Sound ∧ b.state.Steps (f b).state) :
    BoardsFollow s (s.modifyBoard h f) := by
  intro hs
  refine ⟨by simpa [OneReleasePerSite] using hs.1, fun g n hn => ?_⟩
  obtain ⟨p, c, hp, hc, rfl⟩ := board_of_marksIn hn
  by_cases hg : h = g
  · subst hg
    rw [panel_modifyBoard, Option.map_eq_some_iff] at hp
    obtain ⟨p, hp, rfl⟩ := hp
    rw [board_modifyBoard, Option.map_eq_some_iff] at hc
    obtain ⟨b, hb, rfl⟩ := hc
    have hm := marksIn_of_board hp hb
    obtain ⟨hsound, hsteps⟩ := hf b p.hasRun hb hm (((interlocked_iff s).1 hs).2 h _ hm)
    refine ⟨hsound, fun m hm' => ?_⟩
    obtain rfl := Option.some.inj (hm.symm.trans hm')
    exact hsteps
  · have hsame : marksIn (s.modifyBoard h f).panels g = marksIn s.panels g := by
      rw [marksIn_eq, marksIn_eq, board_modifyBoard_ne s h g f hg]
      by_cases he : h.entry = g.entry
      · rw [← he, panel_modifyBoard]
        cases s.panel h.entry <;> rfl
      · rw [panel_modifyBoard_ne s h f _ he]
    exact (BoardsFollow.refl s hs).2 g _ (hsame ▸ hn)

/-- A change of fields that the interlock does not read. -/
@[simp] theorem marksIn_modifyBoard (s : State) (h : BoardHandle) (f : BoardRecord → BoardRecord)
    (hf : ∀ b, (f b).state = b.state ∧ (f b).tabs = b.tabs) : marksIn (s.modifyBoard h f).panels = marksIn s.panels := by
  have hmarks : ∀ b a, (f b).marks a = b.marks a := fun b a => by simp [BoardRecord.marks, hf]
  funext g
  rw [marksIn_eq, marksIn_eq]
  by_cases he : h.entry = g.entry
  · rw [← he, panel_modifyBoard]
    by_cases hg : h = g
    · subst hg
      cases s.panel h.entry <;> simp [Panel.hasRun, Function.comp_def, hmarks]
    · rw [board_modifyBoard_ne s h g f hg]
      cases s.panel h.entry <;> rfl
  · rw [panel_modifyBoard_ne s h f _ he, board_modifyBoard_ne s h g f (fun hg => he (congrArg _ hg))]

/-- A panel written in place of one with the same boards, both aligned or neither. -/
theorem marksIn_setPanel (s : State) (e : Fin 4) (p q : Panel) (hp : s.panel e = some p) (hboards : q.boards = p.boards)
    (hrun : q.hasRun = p.hasRun) : marksIn (s.setPanel e (some q)).panels = marksIn s.panels := by
  funext g
  change ((s.setPanel e (some q)).panel g.entry).bind _ = (s.panel g.entry).bind _
  by_cases he : e = g.entry
  · subst he
    rw [panel_setPanel, hp]
    simp [Panel.marksAt, hboards, hrun]
  · rw [panel_setPanel_ne s e _ _ he]

/-- ALIGNED or CLEARED is the same to the interlock (R27). -/
@[simp] theorem marksIn_clearingTest (s : State) (e : Fin 4) : marksIn (s.clearingTest e).panels = marksIn s.panels := by
  unfold State.clearingTest
  split
  · next p hp =>
    split
    · next hst =>
      simpa only [raise_fields] using
        marksIn_setPanel s e p { p with state := .cleared } hp rfl (by simp [Panel.hasRun, hst.1])
    · rfl
  · rfl

@[simp] theorem marksIn_cancelReservation (s : State) (h : BoardHandle) :
    marksIn (s.cancelReservation h).panels = marksIn s.panels := by
  unfold State.cancelReservation
  repeat' split
  all_goals simp

@[simp] theorem marksIn_occupySlot (s : State) (h : BoardHandle) :
    marksIn (s.occupySlot h).panels = marksIn s.panels := by
  unfold State.occupySlot
  repeat' split
  all_goals simp

@[simp] theorem marksIn_writeVerdict (s : State) (h : BoardHandle) (v : Verdict) :
    marksIn (s.writeVerdict h v).panels = marksIn s.panels := by
  simp [State.writeVerdict]

@[simp] theorem marksIn_noteNoDest (s : State) (h : BoardHandle) :
    marksIn (s.noteNoDest h).panels = marksIn s.panels := by
  unfold State.noteNoDest
  repeat' split
  all_goals simp

@[simp] theorem marksIn_noteUnfit (s : State) (h : BoardHandle) :
    marksIn (s.noteUnfit h).panels = marksIn s.panels := by
  unfold State.noteUnfit
  repeat' split
  all_goals simp

/-! ### The one release tab (R1, R12) -/

theorem releaseCount_map {α : Type} (release : α → Bool) (l : List α) :
    releaseCount (l.map release) = (l.filter release).length := by
  simp [releaseCount, List.filter_map]

/-- The release tab is the one that a search for it finds. -/
theorem find?_release {tabs : List TabRecord} (hone : releaseCount (tabs.map (·.release)) = 1) {x : TabRecord}
    (hx : x ∈ tabs) (hr : x.release = true) : tabs.find? (·.release) = some x := by
  rw [releaseCount_map, List.length_eq_one_iff] at hone
  obtain ⟨y, hy⟩ := hone
  have hmem : x ∈ tabs.filter (·.release) := List.mem_filter.2 ⟨hx, hr⟩
  rw [hy, List.mem_singleton] at hmem
  rw [← List.head?_filter, hy, hmem]
  rfl

theorem release_unique {tabs : List TabRecord} (hone : releaseCount (tabs.map (·.release)) = 1) {x y : TabRecord}
    (hx : x ∈ tabs) (hy : y ∈ tabs) (hxr : x.release = true) (hyr : y.release = true) : x = y :=
  Option.some.inj ((find?_release hone hx hxr).symm.trans (find?_release hone hy hyr))

/-- The release tab of a board with its tab index. -/
theorem releaseTab_map_snd (b : BoardRecord) : b.releaseTab.map Prod.snd = b.tabs.find? (·.release) := by
  have hplaces : ∀ (tabs : List TabRecord) (n : Nat),
      ((tabs.zipIdx n).find? (fun xi => xi.1.release)).map Prod.fst = tabs.find? (·.release) := by
    intro tabs
    induction tabs with
    | nil => exact fun _ => rfl
    | cons x tabs ih =>
      intro n
      cases hr : x.release <;> simp [hr, ih]
  rw [BoardRecord.releaseTab, Option.map_map, ← hplaces b.tabs 0]
  rfl

/-- A release tab that is not ASSIGNED is the only one. -/
theorem releaseIdle_of_releaseState {b : BoardRecord} (hone : releaseCount (b.tabs.map (·.release)) = 1)
    (hst : b.releaseState ≠ some .assigned) : ReleaseIdle b.tabs := by
  intro x hx hr hassigned
  have hfound := (releaseTab_map_snd b).trans (find?_release hone hx hr)
  obtain ⟨⟨i, y⟩, hy, rfl⟩ := Option.map_eq_some_iff.1 hfound
  exact hst (by simpa [BoardRecord.releaseState, hy] using hassigned)

/-- A change at one place that keeps the release flags. -/
theorem map_release_modify (tabs : List TabRecord) (i : Nat) (f : TabRecord → TabRecord)
    (hf : ∀ x, (f x).release = x.release) : (tabs.modify i f).map (·.release) = tabs.map (·.release) := by
  refine List.ext_getElem? fun j => ?_
  rw [List.getElem?_map, List.getElem?_modify, List.getElem?_map]
  by_cases hi : i = j <;> cases tabs[j]? <;> simp [hi, hf]

theorem mem_modify {α : Type} {l : List α} {i : Nat} {f : α → α} {y : α} (hy : y ∈ l.modify i f) :
    y ∈ l ∨ ∃ x, l[i]? = some x ∧ y = f x := by
  obtain ⟨j, hj⟩ := List.mem_iff_getElem?.1 hy
  rw [List.getElem?_modify] at hj
  by_cases hi : i = j
  · subst hi
    obtain ⟨x, hx, rfl⟩ := Option.map_eq_some_iff.1 hj
    exact .inr ⟨x, hx, by simp⟩
  · exact .inl (List.mem_of_getElem? (by simpa [hi] using hj))

theorem mem_modify_self {α : Type} {l : List α} {i : Nat} {f : α → α} {x : α} (hx : l[i]? = some x) : f x ∈ l.modify i f :=
  List.mem_of_getElem? (i := i) (by simp [hx])

/-! ### A board's state written (R59) -/

/-- The moves that leave the states of a panel not yet aligned. -/
theorem early_of_move {a c : BoardState} (hmove : BoardMove a c = true) (hearly : EarlyState a) (ht : c ≠ .targeted)
    (hs : c ≠ .stranded) : EarlyState c := by
  cases c
  case targeted => exact absurd rfl ht
  case stranded => exact absurd rfl hs
  case awaitMark | unsure | cutting | ready | xoutLeft => simp [EarlyState]
  all_goals rcases hearly with rfl | rfl | rfl | rfl | rfl <;> cases hmove

/-- A board that makes a move of R59 stays interlocked when the release tab is idle as it leaves HELD or SUSPECT for another state,
and when it is aligned as it becomes TARGETED or STRANDED. -/
theorem BoardMarks.Sound.setState {m : BoardMarks} (hm : m.Sound) {st : BoardState} (hmove : BoardMove m.state st = true)
    (hidle : m.state = .held ∨ m.state = .suspect → st = .suspect ∨ ReleaseIdle m.tabs)
    (haligned : st = .targeted ∨ st = .stranded → m.aligned = true) : ({ m with state := st } : BoardMarks).Sound := by
  refine ⟨hm.oneRelease, fun x hx hr hassigned => ?_, fun ha => ?_⟩
  · rcases hidle (hm.interlocked x hx hr hassigned) with hst | hnone
    · exact .inr hst
    · exact absurd hassigned (hnone x hx hr)
  · have hlate : ¬ (st = .targeted ∨ st = .stranded) := fun hst => by
      have : m.aligned = false := ha
      rw [haligned hst] at this
      cases this
    exact early_of_move hmove (hm.early ha) (fun h => hlate (.inl h)) (fun h => hlate (.inr h))

/-- A board's state written after operations that leave what the interlock reads. -/
theorem BoardsFollow.setBoardState {s t : State} (hsame : SameBoards s t) {h : BoardHandle} {b : BoardRecord}
    (hb : s.board h = some b) {st : BoardState} (hmove : BoardMove b.state st = true)
    (hidle : b.state = .held ∨ b.state = .suspect → st = .suspect ∨ b.releaseState ≠ some .assigned)
    (hst : st ≠ .targeted ∧ st ≠ .stranded) : BoardsFollow s (t.setBoardState h st) := by
  refine hsame.then_follow (BoardsFollow.modifyBoard t h _ fun c a hc _ hsound => ?_)
  obtain ⟨p, hp⟩ := panel_of_board hb
  obtain ⟨q, hq⟩ := panel_of_board hc
  have hmarks := (congrFun hsame.2 h).symm.trans (marksIn_of_board hq hc)
  rw [marksIn_of_board hp hb, Option.some_inj] at hmarks
  have hstate : b.state = c.state := congrArg BoardMarks.state hmarks
  have htabs : b.tabs = c.tabs := congrArg BoardMarks.tabs hmarks
  rw [hstate] at hmove hidle
  refine ⟨hsound.setState hmove (fun hheld => (hidle hheld).imp_right fun hrel => ?_) fun h => ?_, .inr hmove⟩
  · have hone : releaseCount (b.tabs.map (·.release)) = 1 := htabs ▸ hsound.oneRelease
    change ReleaseIdle c.tabs
    exact htabs ▸ releaseIdle_of_releaseState hone hrel
  · exact absurd h (not_or.2 hst)

end Sys2Proof.Machine
end

section
/-! The operations on the records follow the table of R59 and keep the release interlock (R60 to R73, R104, R110, R111). -/

namespace Sys2Proof.Machine

/-! ### Tabs (R64, R65, R104, R111) -/

/-- One tab changed: it keeps its release flag, and a release tab becomes ASSIGNED on a HELD or SUSPECT board alone. -/
theorem BoardsFollow.modifyTab (s : State) (h : TabHandle) (f : TabRecord → TabRecord)
    (hrel : ∀ x, (f x).release = x.release)
    (hf : ∀ b x, s.board h.board = some b → b.tabs[h.tab]? = some x → (f x).state = .assigned → x.release = true →
      x.state = .assigned ∨ b.state = .held ∨ b.state = .suspect) : BoardsFollow s (s.modifyTab h f) := by
  refine BoardsFollow.modifyBoard s h.board _ fun b a hb _ hsound => ⟨⟨?_, fun y hy hr hassigned => ?_, hsound.early⟩, .refl _⟩
  · exact (congrArg releaseCount (map_release_modify b.tabs h.tab f hrel)).trans hsound.oneRelease
  · rcases mem_modify hy with hy | ⟨x, hx, rfl⟩
    · exact hsound.interlocked y hy hr hassigned
    · rw [hrel] at hr
      rcases hf b x hb hx hassigned hr with hx' | hst
      · exact hsound.interlocked x (List.mem_of_getElem? hx) hr hx'
      · exact hst

theorem BoardsFollow.setTabState (s : State) (h : TabHandle) {st : TabState} (hst : st ≠ .assigned) :
    BoardsFollow s (s.setTabState h st) :=
  BoardsFollow.modifyTab s h _ (fun _ => rfl) fun _ _ _ _ hassigned => absurd hassigned hst

/-- A board one of whose tabs becomes CUT (R65). -/
theorem BoardMarks.Sound.afterCut {b : BoardRecord} {a : Bool} (hb : (b.marks a).Sound) {i : Nat} {x : TabRecord}
    (hx : b.tabs[i]? = some x) : ((b.afterCut i x.release).marks a).Sound := by
  have hone : releaseCount ((b.cutAt i).tabs.map (·.release)) = 1 :=
    (congrArg releaseCount (map_release_modify b.tabs i _ (by simp))).trans hb.oneRelease
  have hassigned_old : ∀ y ∈ (b.cutAt i).tabs, y.state = .assigned → y ∈ b.tabs := by
    intro y hy hassigned
    rcases mem_modify hy with hy | ⟨z, -, rfl⟩
    · exact hy
    · cases hassigned
  cases hr : x.release with
  | true =>
    have hidle : ReleaseIdle (b.cutAt i).tabs := by
      intro y hy hyr hassigned
      have hcut : { x with state := TabState.cut } ∈ (b.cutAt i).tabs := mem_modify_self hx
      rw [release_unique hone hy hcut hyr hr] at hassigned
      cases hassigned
    refine ⟨hone, fun y hy hyr hassigned => absurd hassigned (hidle y hy hyr), fun ha => ?_⟩
    have hearly : EarlyState b.state := hb.early ha
    have hheld : b.state ≠ .held := by rintro hst; simp [EarlyState, hst] at hearly
    simpa [BoardRecord.afterCut, BoardRecord.afterRelease, BoardRecord.marks, BoardRecord.cutAt, hheld] using hearly
  | false =>
    simp only [BoardRecord.afterCut, Bool.false_eq_true, if_false]
    refine ⟨hone, fun y hy hyr hassigned => ?_, fun ha => ?_⟩
    · have hst : b.state = .held ∨ b.state = .suspect := hb.interlocked y (hassigned_old y hy hassigned) hyr hassigned
      have hcutting : b.state ≠ .cutting := by rintro h; simp [h] at hst
      simpa [BoardRecord.afterNonRelease, BoardRecord.marks, BoardRecord.cutAt, hcutting] using hst
    · have hearly : EarlyState b.state := hb.early ha
      simp only [BoardRecord.afterNonRelease, BoardRecord.marks]
      split
      · simp [EarlyState]
      · exact hearly

theorem steps_afterCut (b : BoardRecord) (i : Nat) (release : Bool) : b.state.Steps (b.afterCut i release).state := by
  cases release with
  | true =>
    change b.state.Steps (if b.state = .held then .free else b.state)
    split
    · next hst => exact .inr (by rw [hst]; rfl)
    · exact .refl _
  | false =>
    simp only [BoardRecord.afterCut, BoardRecord.afterNonRelease, Bool.false_eq_true, if_false]
    split
    · next hgo => exact .inr (by rw [show b.state = .cutting from hgo.1]; rfl)
    · exact .refl _

theorem BoardsFollow.cutTab (s : State) (h : TabHandle) : BoardsFollow s (s.cutTab h) := by
  cases hx : s.tab h with
  | none =>
    rw [State.cutTab, hx]
    exact .refl s
  | some x =>
    rw [cutTab_eq hx]
    refine BoardsFollow.modifyBoard s h.board _ fun b a hb _ hsound => ⟨?_, steps_afterCut b h.tab x.release⟩
    exact hsound.afterCut ((tab_of_board s h b hb).symm.trans hx)

/-! ### Verdicts (R60 to R62) -/

theorem stateFromRemaining_eq (n : Nat) : stateFromRemaining n = .ready ∨ stateFromRemaining n = .cutting := by
  unfold stateFromRemaining
  split
  · exact .inl rfl
  · exact .inr rfl

/-- A board without a verdict may go to READY or CUTTING (R59). -/
theorem move_of_verdict {a c : BoardState} (ha : a = .awaitMark ∨ a = .unsure) (hc : c = .ready ∨ c = .cutting) :
    BoardMove a c = true := by
  rcases ha with rfl | rfl
  all_goals rcases hc with rfl | rfl <;> rfl

theorem follow_toCut (s : State) (h : BoardHandle) (v : Verdict) {b : BoardRecord} (hb : s.board h = some b)
    (hst : b.state = .awaitMark ∨ b.state = .unsure) : BoardsFollow s (s.modifyBoard h (fun b => b.toCut v)) := by
  refine BoardsFollow.modifyBoard s h _ fun c a hc _ hsound => ?_
  obtain rfl := Option.some.inj (hb.symm.trans hc)
  have hmove : BoardMove b.state (stateFromRemaining b.remaining) = true :=
    move_of_verdict hst (stateFromRemaining_eq b.remaining)
  refine ⟨hsound.setState (m := b.marks a) (st := stateFromRemaining b.remaining) hmove (fun hheld => ?_) (fun hto => ?_),
    .inr hmove⟩
  · rcases hst with hst | hst <;> simp [BoardRecord.marks, hst] at hheld
  · rcases stateFromRemaining_eq b.remaining with h | h <;> simp [h] at hto

theorem follow_leaveInFrame (s : State) (h : BoardHandle) {b : BoardRecord} (hb : s.board h = some b)
    (hst : b.state = .awaitMark ∨ b.state = .unsure) : BoardsFollow s (s.modifyBoard h BoardRecord.leaveInFrame) := by
  refine BoardsFollow.modifyBoard s h _ fun c a hc _ hsound => ?_
  obtain rfl := Option.some.inj (hb.symm.trans hc)
  have hrelease : ∀ x : TabRecord, x.skip.release = x.release := fun x => by unfold TabRecord.skip; split <;> rfl
  refine ⟨⟨?_, fun y hy hr hassigned => ?_, fun _ => by simp [BoardRecord.marks, BoardRecord.leaveInFrame, EarlyState]⟩, ?_⟩
  · simpa [BoardRecord.marks, BoardRecord.leaveInFrame, Function.comp_def, hrelease] using hsound.oneRelease
  · obtain ⟨x, hx, rfl⟩ := List.mem_map.1 hy
    have hheld := hsound.interlocked x hx (hrelease x ▸ hr) ((skip_assigned x).1 hassigned)
    rcases hst with hst | hst <;> simp [BoardRecord.marks, hst] at hheld
  · rcases hst with hst | hst <;> exact .inr (by rw [hst]; rfl)

theorem follow_applyVerdict (s : State) (h : BoardHandle) (v : Verdict) {b : BoardRecord} (hb : s.board h = some b)
    (hst : b.state = .awaitMark ∨ b.state = .unsure) : BoardsFollow s (s.applyVerdict h v) := by
  unfold State.applyVerdict
  split
  · split
    · exact follow_toCut s h .xout hb hst
    · exact (follow_leaveInFrame s h hb hst).then_same (by simp [SameBoards])
  · exact follow_toCut s h .good hb hst

theorem follow_settleVerdict (s : State) (h : BoardHandle) (v : Verdict) : BoardsFollow s (s.settleVerdict h v) := by
  unfold State.settleVerdict
  split
  · next b hb =>
    split
    · exact SameBoards.follow (by simp [SameBoards])
    split
    · next hst => exact follow_applyVerdict s h v hb (.inr hst)
    · exact .refl s
  · exact .refl s

/-- An UNSURE SITE-MARK begins a hold for a board in AWAIT-MARK (R75). -/
theorem follow_beginHold (s : State) (h : BoardHandle) (request : Frame) {b : BoardRecord} (hb : s.board h = some b)
    (hst : b.state = .awaitMark) : BoardsFollow s (s.beginHold h request) := by
  have hunsure : BoardsFollow s (s.modifyBoard h (fun b => { b with verdict := .unsure, state := .unsure })) := by
    refine BoardsFollow.modifyBoard s h _ fun c a hc _ hsound => ?_
    obtain rfl := Option.some.inj (hb.symm.trans hc)
    have hmove : BoardMove b.state .unsure = true := by rw [hst]; rfl
    exact ⟨hsound.setState (m := b.marks a) hmove (by simp [BoardRecord.marks, hst]) (by simp), .inr hmove⟩
  exact hunsure.then_same (.of_panels (by simp [State.beginHold]) (by simp [State.beginHold]))

/-! ### Boards in the gripper's work (R68, R72, R73) -/

theorem follow_abandonPick (s : State) (h : BoardHandle) {b : BoardRecord} (hb : s.board h = some b)
    (hmove : BoardMove b.state .ready = true)
    (hidle : b.state = .held ∨ b.state = .suspect → b.releaseState ≠ some .assigned) :
    BoardsFollow s (s.abandonPick h) :=
  BoardsFollow.setBoardState (t := s.cancelReservation h) (by simp [SameBoards]) hb hmove (fun h => .inr (hidle h)) (by simp)

/-- A board that becomes terminal, and the clearing test after it (R59). -/
theorem follow_setBoardTerminal {s t : State} (hsame : SameBoards s t) {h : BoardHandle} {b : BoardRecord}
    (hb : s.board h = some b) {st : BoardState} (hmove : BoardMove b.state st = true)
    (hidle : b.state = .held ∨ b.state = .suspect → b.releaseState ≠ some .assigned)
    (hst : st ≠ .targeted ∧ st ≠ .stranded) : BoardsFollow s (t.setBoardTerminal h st) :=
  (BoardsFollow.setBoardState hsame hb hmove (fun h => .inr (hidle h)) hst).then_same
    (by simp [SameBoards, State.setBoardTerminal])

theorem follow_loseBoard (s : State) (h : BoardHandle) {b : BoardRecord} (hb : s.board h = some b)
    (hmove : BoardMove b.state .lost = true)
    (hidle : b.state = .held ∨ b.state = .suspect → b.releaseState ≠ some .assigned) :
    BoardsFollow s (s.loseBoard h) :=
  follow_setBoardTerminal (t := s.cancelReservation h) (by simp [SameBoards]) hb hmove hidle (by simp)

end Sys2Proof.Machine
end

section
/-! Every command, request and event at its owning block follows the table of R59 and keeps the release interlock. -/

namespace Sys2Proof.Machine

/-! ### Host commands: the records (R70, R72, R73, R76) -/

theorem decideVerdict_follow (entry site verdict : Byte) (s : State) : BoardsFollow s (decideVerdict entry site verdict s).1 := by
  unfold decideVerdict
  split
  · next e v _ _ =>
    split
    · exact .refl s
    split
    · exact .refl s
    dsimp only
    split
    · exact .refl s
    split
    · exact .refl s
    · refine (follow_settleVerdict s ⟨e, site.toNat⟩ v).then_same ?_
      split <;> simp [SameBoards]
  · exact .refl s

theorem tabResolve_follow (entry site tab outcome : Byte) (s : State) :
    BoardsFollow s (tabResolve entry site tab outcome s).1 := by
  unfold tabResolve
  split
  · exact .refl s
  split
  · exact .refl s
  split
  · exact .refl s
  dsimp only
  split
  · exact .refl s
  split
  · exact .refl s
  · dsimp only
    split
    · exact BoardsFollow.cutTab s _
    · exact BoardsFollow.setTabState s _ (by simp)

theorem boardResolve_follow (entry site outcome : Byte) (s : State) : BoardsFollow s (boardResolve entry site outcome s).1 := by
  unfold boardResolve
  split
  · exact .refl s
  split
  · exact .refl s
  split
  · exact .refl s
  dsimp only
  split
  · exact .refl s
  next b hb =>
    split
    · exact .refl s
    next hst =>
      have hsuspect : b.state = .suspect := not_not.1 hst
      split
      · exact .refl s
      next hfree =>
        have hidle : b.releaseState ≠ some .assigned := fun h => hfree (.inl h)
        split
        · exact .refl s
        dsimp only
        split
        · exact follow_abandonPick s _ hb (by rw [hsuspect]; rfl) fun _ => hidle
        split
        · exact follow_loseBoard s _ hb (by rw [hsuspect]; rfl) fun _ => hidle
        · exact follow_setBoardTerminal (by simp [SameBoards]) hb (by rw [hsuspect]; rfl) (fun _ => hidle) (by simp)

/-! ### Host commands: the panels (R25, R29, R30) -/

/-- The boards created at admission: AWAIT-MARK, every tab INTACT, the release flags the recipe's (R26). -/
theorem newBoard_sound {x : RecipeSite} (hone : releaseCount (x.tabs.map (·.release)) = 1) (i : Nat) (a : Bool) :
    ((newBoard (x, i)).marks a).Sound := by
  have htabs : (newBoard (x, i)).tabs.map (·.release) = x.tabs.map (·.release) := by
    simp only [newBoard, List.map_map]
    refine List.ext_getElem? fun j => ?_
    simp only [List.getElem?_map, List.getElem?_zipIdx, Option.map_map]
    rfl
  refine ⟨(congrArg releaseCount htabs).trans hone, fun y hy _ hassigned => ?_, fun _ => .inl rfl⟩
  obtain ⟨_, _, rfl⟩ := List.mem_map.1 hy
  cases hassigned

theorem admitInto_follow (s : State) (e : Fin 4) (id : Word) (n : Fin 16) (f : Fin 2) (r : Recipe) (hfree : s.panel e = none)
    (hr : s.slots[n] = some r) : BoardsFollow s (admitInto s e id n f r).1 := by
  refine (BoardsFollow.setPanel s e _ fun hs p site m hp hm => ?_).then_same (.of_panels rfl rfl)
  obtain rfl := Option.some.inj hp
  obtain ⟨b, hb, rfl⟩ := Option.map_eq_some_iff.1 hm
  simp only [newBoards, List.getElem?_map, Option.map_eq_some_iff] at hb
  obtain ⟨⟨x, i⟩, hx, rfl⟩ := hb
  have hmem : x ∈ r.sites := List.fst_mem_of_mem_zipIdx (List.mem_of_getElem? hx)
  refine ⟨newBoard_sound (hs.1 n r hr x hmem) i _, fun m hm => ?_⟩
  obtain ⟨q, _, hq, -⟩ := board_of_marksIn hm
  exact nomatch hfree.symm.trans hq

theorem panelAdmit_follow (id : Word) (recipe fixture : Byte) (s : State) : BoardsFollow s (panelAdmit id recipe fixture s).1 := by
  unfold panelAdmit
  split
  · exact .refl s
  · exact .refl s
  split
  · exact .refl s
  next r hr =>
    split
    · exact .refl s
    split
    · exact .refl s
    split
    · exact .refl s
    next e he => exact admitInto_follow s e id _ _ r (panel_of_freeEntry he) (slot_of_offered hr)

theorem advanceQueue_same (s : State) (f : Fin 2) : SameBoards s (s.advanceQueue f) := by
  rw [advanceQueue_eq]
  cases hh : s.queueHead f with
  | none => exact .of_panels rfl rfl
  | some ep =>
    obtain ⟨e, p⟩ := ep
    obtain ⟨hp, -, hst⟩ := queueHead_spec hh
    exact ⟨rfl, marksIn_setPanel s e p { p with state := .aligning } hp rfl (by simp [Panel.hasRun, hst])⟩

theorem retire_follow (s : State) (e : Fin 4) (f : Fin 2) : BoardsFollow s (retire s e f) :=
  BoardsFollow.then_same (t := s.freed e)
    ((BoardsFollow.setPanel s e none fun _ _ _ _ h => nomatch h).then_same (.of_panels rfl rfl)) (advanceQueue_same _ f)

theorem panelRetire_follow (entry force : Byte) (s : State) : BoardsFollow s (panelRetire entry force s).1 := by
  unfold panelRetire
  split
  · exact .refl s
  split
  · exact .refl s
  split
  · exact .refl s
  · exact retire_follow s _ _

/-! ### Host commands: the restarts (R53, R82, R184, R185) -/

theorem early_warm {a : BoardState} (h : EarlyState a) : a.warm = a := by
  rcases h with rfl | rfl | rfl | rfl | rfl <;> rfl

theorem steps_warm (a : BoardState) : a.Steps a.warm := by
  cases a
  case targeted | held | free => exact .inr rfl
  all_goals exact .inl rfl

/-- A board of a panel in a warm restart: no tab stays ASSIGNED. -/
theorem warmBoard_sound (p : Panel) (b : BoardRecord) (a : Bool) (hb : (b.marks p.hasRun).Sound)
    (ha : a = false → p.hasRun = false) : ((p.warmBoard b).marks a).Sound := by
  have hstate : (p.warmBoard b).state = b.state.warm := by rw [warmBoard_eq]
  refine ⟨?_, fun y hy _ hassigned => ?_, fun hna => ?_⟩
  · have hone := hb.oneRelease
    simpa [BoardRecord.marks, tabs_warmBoard, Function.comp_def] using hone
  · simp only [BoardRecord.marks, tabs_warmBoard, List.mem_map] at hy
    obtain ⟨x, -, rfl⟩ := hy
    dsimp only at hassigned
    split at hassigned
    · cases hassigned
    split at hassigned
    · split at hassigned <;> cases hassigned
    · contradiction
  · change EarlyState (p.warmBoard b).state
    have hearly : EarlyState b.state := hb.early (ha hna)
    rw [hstate, early_warm hearly]
    exact hearly

theorem hasRun_warm (p : Panel) : p.warm.hasRun = p.hasRun := by
  unfold Panel.warm
  split
  · next h => simp [Panel.hasRun, h]
  · rfl

theorem warmRestart_slots (s : State) : (warmRestart s).slots = s.slots := (samePanels_warmBays s).1

theorem warmRestart_follow (s : State) : BoardsFollow s (warmRestart s) := by
  intro hs
  refine ⟨by simpa [OneReleasePerSite, warmRestart_slots] using hs.1, fun h n hn => ?_⟩
  have hpanel := panel_warmRestart s h.entry
  change ((warmRestart s).panel h.entry).bind _ = some n at hn
  rw [hpanel, Option.bind_eq_some_iff] at hn
  obtain ⟨q, hq, hn⟩ := hn
  obtain ⟨p, hp, rfl⟩ := Option.map_eq_some_iff.1 hq
  obtain ⟨c, hc, rfl⟩ := Option.map_eq_some_iff.1 hn
  rw [boards_warmRestart, Option.map_eq_some_iff] at hc
  obtain ⟨b, hb, rfl⟩ := hc
  have hrun : ((p.unreservedAt h.entry s.targetedBoards).warm).hasRun = p.hasRun := hasRun_warm _
  have hboard : s.board h = some b := by simpa [State.board, State.boardsOf, hp] using hb
  have hmarks := marksIn_of_board hp hboard
  have hunreserved : ∀ a, (if (⟨h.entry, h.site⟩ : BoardHandle) ∈ s.targetedBoards then b.unreserved else b).marks a = b.marks a :=
    fun a => by split <;> rfl
  have hsound := ((interlocked_iff s).1 hs).2 h _ hmarks
  refine ⟨warmBoard_sound p _ _ (by rwa [hunreserved]) fun ha => hrun ▸ ha, fun m hm => ?_⟩
  obtain rfl := Option.some.inj (hmarks.symm.trans hm)
  have hstate := congrArg BoardMarks.state (hunreserved p.hasRun)
  change b.state.Steps (p.warmBoard _).state
  rw [warmBoard_eq]
  change b.state.Steps (BoardState.warm _)
  rw [show (if (⟨h.entry, h.site⟩ : BoardHandle) ∈ s.targetedBoards then b.unreserved else b).state = b.state from hstate]
  exact steps_warm b.state

/-- After a cold restart the Recipe Store is EMPTY and no panel is LIVE (R36, R19). -/
theorem coldValues_follow (s : State) : BoardsFollow s (coldValues s) := by
  refine fun _ => ⟨fun n r hr => ?_, fun h m hm => ?_⟩
  · simp [coldValues, State.reset] at hr
  · obtain ⟨p, _, hp, -⟩ := board_of_marksIn hm
    simp [State.panel, coldValues, State.reset] at hp

theorem restart_follow (form : Byte) (s : State) : BoardsFollow s (restart form s).1 := by
  unfold restart restartWarm
  split
  · split
    · exact .refl s
    · exact warmRestart_follow s
  split
  · exact (coldValues_follow s).then_same (.of_panels rfl rfl)
  · exact .refl s

/-! ### Every host command -/

theorem recipeDrop_oneRelease (number : Byte) (s : State) (h : OneReleasePerSite s) : OneReleasePerSite (recipeDrop number s).1 := by
  unfold recipeDrop
  split
  · exact h
  split
  · exact h
  · intro m r hr
    refine h m r ?_
    change (s.slots.set _ none)[m] = some r at hr
    next n _ _ =>
      by_cases hn : n = m
      · simp [hn] at hr
      · rwa [vector_set_ne s.slots n m none hn] at hr

/-- The Recipe Store after a command that writes no record: RECIPE-DROP alone changes it. -/
theorem commandOn_slots (name : CommandName) (p : List Byte) (s : State) (h : name.writesRecords = false)
    (hdrop : name ≠ .recipeDrop) : (commandOn name p s).1.slots = s.slots := by
  cases name
  case recipeDrop => exact absurd rfl hdrop
  case panelAdmit | panelRetire | decide | tabResolve | boardResolve | restart => cases h
  case recipeBegin => exact (samePanels_recipeBegin _ s).1
  case recipeSite => exact (samePanels_recipeSite _ s).1
  case recipeZone => exact (samePanels_recipeZone _ s).1
  case recipeEnd => exact (samePanels_recipeEnd s).1
  case recipeRead => exact (samePanels_recipeRead _ s).1
  case panelRead => exact (samePanels_panelRead _ s).1
  case boardRead => exact (samePanels_boardRead _ _ s).1
  case tabRead => exact (samePanels_tabRead _ _ _ s).1
  case bitChange => exact (samePanels_bitChange _ _ _ s).1
  case stationClear => exact (samePanels_stationClear _ s).1
  case zoneSet => exact (samePanels_zoneSet _ _ _ _ _ s).1
  case magStage => exact (samePanels_magStage _ _ _ _ _ s).1
  case magGo => exact (samePanels_magGo _ s).1
  case magUnstage => exact (samePanels_magUnstage _ s).1
  case magRead => exact (samePanels_magRead _ _ _ s).1
  case magRelease => exact (samePanels_magRelease _ s).1
  case bayRoute => exact (samePanels_bayRoute _ s).1
  case bayExchange => exact (samePanels_bayExchange _ s).1
  case bayClear => exact (samePanels_bayClear _ _ s).1
  case configSet => exact (samePanels_configSet _ _ s).1
  case configRead => exact (samePanels_configRead _ s).1
  case noticeRead => exact (samePanels_noticeRead s).1
  case noticeWrite => exact (samePanels_noticeWrite _ _ s).1
  case faultRead => exact (samePanels_faultRead s).1
  case faultAck => exact (samePanels_faultAck s).1
  case pause => exact (samePanels_pauseCommand s).1
  case resume => exact (samePanels_resumeCommand s).1

theorem commandOn_follow (name : CommandName) (p : List Byte) (s : State) : BoardsFollow s (commandOn name p s).1 := by
  by_cases hw : name.writesRecords = true
  · cases name
    case panelAdmit => exact panelAdmit_follow _ _ _ s
    case panelRetire => exact panelRetire_follow _ _ s
    case decide => exact decideVerdict_follow _ _ _ s
    case tabResolve => exact tabResolve_follow _ _ _ _ s
    case boardResolve => exact boardResolve_follow _ _ _ s
    case restart => exact restart_follow _ s
    all_goals cases hw
  · have hw' : name.writesRecords = false := by simpa using hw
    refine .of_marks ?_ (congrArg marksIn (commandOn_panels name p s hw'))
    by_cases hdrop : name = .recipeDrop
    · subst hdrop
      exact recipeDrop_oneRelease _ s
    · simp only [OneReleasePerSite, commandOn_slots name p s hw' hdrop, imp_self]

end Sys2Proof.Machine
end

section
/-! Every request, event and arrival follows the table of R59 and keeps the release interlock (R59, R66), and with them every step. -/

namespace Sys2Proof.Machine

/-! ### The spindles (R104, R110, R111, R114) -/

/-- A candidate's tab may become ASSIGNED: a release tab stands on a HELD board (R66, R101). -/
theorem assign_follow (s : State) (sp : Spindle) (c : Candidate) (hc : c ∈ s.candidates) : BoardsFollow s (assign s sp c).1 := by
  obtain ⟨_, b, _, _, _, hb, hx, -, -, hkind⟩ := (mem_candidates s c.handle c.tab c.mid).1 hc
  have htab : BoardsFollow s (s.modifyTab c.handle (fun x => { x with state := .assigned, lastSpindle := some sp })) := by
    refine BoardsFollow.modifyTab s c.handle _ (fun _ => rfl) fun b' x hb' hx' _ hr => ?_
    obtain rfl := Option.some.inj (hb.symm.trans hb')
    obtain rfl := Option.some.inj (((tab_of_board s c.handle b hb).symm.trans hx).symm.trans hx')
    rcases hkind with ⟨hrel, -⟩ | ⟨-, hheld⟩
    · exact absurd hr (by simp [hrel])
    · exact .inr (.inl hheld)
  refine htab.then_same (.of_panels ?_ (assign_panels s sp c))
  simp only [assign]
  split <;> simp

theorem offerTab_follow (sp : Spindle) (s : State) : BoardsFollow s (offerTab sp s).1 := by
  unfold offerTab
  split
  · next c hc => exact assign_follow s sp c (List.mem_of_find?_eq_some hc)
  · split <;> exact .refl s

theorem nextTab_follow (sp : Spindle) (s : State) : BoardsFollow s (nextTab sp s).1 := by
  unfold nextTab
  split
  · exact .refl s
  split
  · exact .refl s
  split
  · exact .refl s
  split
  · exact .refl s
  split
  · refine SameBoards.follow ?_
    simp only [State.wear]
    split <;> simp [SameBoards]
  · exact offerTab_follow sp s

theorem tabDone_follow (sp : Spindle) (entry site tab : Byte) (s : State) : BoardsFollow s (tabDone sp entry site tab s).1 := by
  unfold tabDone
  split
  · split
    · exact SameBoards.then_follow (by simp [SameBoards]) (BoardsFollow.cutTab _ _)
    · exact .refl s
  · exact .refl s

theorem loseTab_follow (s : State) (sp : Spindle) (h : TabHandle) (st : SpindleState) : BoardsFollow s (s.loseTab sp h st) :=
  (BoardsFollow.setTabState s h (st := .suspect) (by simp)).then_same (by simp [SameBoards, State.loseTab])

theorem tabFault_follow (sp : Spindle) (entry site tab reason : Byte) (s : State) :
    BoardsFollow s (tabFault sp entry site tab reason s).1 := by
  unfold tabFault failTab
  split
  · split
    · next h _ _ =>
      dsimp only
      split
      · exact (loseTab_follow s sp h .broken).then_same (by simp [SameBoards])
      · exact (loseTab_follow s sp h (s.spindle sp).state).then_same (by simp [SameBoards])
    · exact .refl s
  · exact .refl s

theorem expireSpindle_follow (sp : Spindle) (s : State) : BoardsFollow s (expireSpindle sp s) := by
  unfold expireSpindle
  split
  · split
    · next c _ => exact (loseTab_follow s sp c.handle .stalled).then_same (by simp [SameBoards])
    · exact SameBoards.follow (by simp [SameBoards])
  · exact .refl s

/-! ### NEXT-PICK (R125 to R128) -/

theorem mem_pickCandidates (s : State) (h : BoardHandle) : h ∈ s.pickCandidates ↔
    ∃ p b, s.panel h.entry = some p ∧ p.state = .aligned ∧ s.clampLevel p.fixture = true ∧ s.board h = some b
      ∧ b.state = .ready := by
  have hready : ∀ e, h ∈ ((s.boardsOf e).zipIdx.filter (fun bi => decide (bi.1.state = .ready))).map
      (fun bi => (⟨e, bi.2⟩ : BoardHandle)) ↔ h.entry = e ∧ ∃ b, s.board h = some b ∧ b.state = .ready := by
    intro e
    simp only [List.mem_map, List.mem_filter, Prod.exists, List.mem_zipIdx_iff_getElem?, decide_eq_true_eq]
    constructor
    · rintro ⟨b, i, ⟨hb, hst⟩, rfl⟩
      exact ⟨rfl, b, hb, hst⟩
    · rintro ⟨rfl, b, hb, hst⟩
      exact ⟨b, h.site, ⟨hb, hst⟩, rfl⟩
  have hentry : (∃ f ∈ [(0 : Fin 2), 1], h.entry ∈ s.workableOn f) ↔ s.entryWorkable h.entry = true := by
    simp [entryWorkable_iff_mem]
  simp only [State.pickCandidates, List.mem_flatMap, hready]
  constructor
  · rintro ⟨f, hf, e, he, rfl, b, hb, hst⟩
    obtain ⟨p, hp, hal, hcl⟩ := (entryWorkable_iff s _).1 (hentry.1 ⟨f, hf, he⟩)
    exact ⟨p, b, hp, hal, hcl, hb, hst⟩
  · rintro ⟨p, b, hp, hal, hcl, hb, hst⟩
    obtain ⟨f, hf, he⟩ := hentry.2 ((entryWorkable_iff s _).2 ⟨p, hp, hal, hcl⟩)
    exact ⟨f, hf, h.entry, he, rfl, b, hb, hst⟩

theorem marksIn_setAside (s : State) (cands : List BoardHandle) : marksIn (setAside s cands).panels = marksIn s.panels := by
  induction cands generalizing s with
  | nil => rfl
  | cons h rest ih =>
    rw [setAside, ih]
    split <;> simp

theorem marksIn_walkBay (b : Fin 4) (m : Magazine) (s : State) (cands : List BoardHandle) :
    marksIn (walkBay b m s cands).1.panels = marksIn s.panels := by
  induction cands generalizing s with
  | nil => rfl
  | cons h rest ih =>
    simp only [walkBay]
    split
    · exact ih s
    split
    · rw [ih, marksIn_noteUnfit]
    split <;> simp [State.fillUp]

theorem marksIn_walkBays (cands : List BoardHandle) (s : State) (bays : List (Fin 4)) :
    marksIn (walkBays cands s bays).1.panels = marksIn s.panels := by
  induction bays generalizing s with
  | nil => rfl
  | cons b rest ih =>
    simp only [walkBays]
    split
    · exact ih s
    next m hm =>
      have hwalk := marksIn_walkBay b m s (cands.filter (fun h => decide (s.destinationOf h = some b)))
      split
      · next t c ht => rw [ht] at hwalk; exact hwalk
      · next t ht => rw [ht] at hwalk; exact (ih t).trans hwalk

/-- The board chosen in a bay is one of its candidates (R127). -/
theorem walkBay_mem (b : Fin 4) (m : Magazine) (s : State) (cands : List BoardHandle) {t : State} {c : Choice}
    (h : walkBay b m s cands = (t, some c)) : c.board ∈ cands := by
  induction cands generalizing s with
  | nil => cases h
  | cons g rest ih =>
    simp only [walkBay] at h
    split at h
    · exact List.mem_cons_of_mem g (ih s h)
    split at h
    · exact List.mem_cons_of_mem g (ih _ h)
    split at h
    · cases h
    · obtain ⟨-, hc⟩ := Prod.mk.inj h
      obtain rfl := Option.some.inj hc
      exact List.mem_cons_self

theorem walkBays_mem (cands : List BoardHandle) (s : State) (bays : List (Fin 4)) {t : State} {c : Choice}
    (h : walkBays cands s bays = (t, some c)) : c.board ∈ cands := by
  induction bays generalizing s with
  | nil => cases h
  | cons b rest ih =>
    simp only [walkBays] at h
    split at h
    · exact ih s h
    split at h
    · next u d hu =>
      obtain ⟨-, hc⟩ := Prod.mk.inj h
      obtain rfl := Option.some.inj hc
      exact (List.mem_filter.1 (walkBay_mem b _ s _ hu)).1
    · exact ih _ h

/-- A READY board of an aligned panel becomes TARGETED (R128). -/
theorem givePick_follow (s : State) (c : Choice) (m : Magazine)
    (hc : ∀ k, marksIn s.panels c.board = some k → k.state = .ready ∧ k.aligned = true) : BoardsFollow s (givePick s c m).1 := by
  let t := s.setBay c.bay (s.bays[c.bay].reserve m c.board c.span)
  have hset : SameBoards s t := by simp [t, SameBoards]
  have htarget : BoardsFollow t
      (t.modifyBoard c.board (fun b => { b with state := .targeted, reservation := some ⟨c.bay, m.fill⟩ })) := by
    refine BoardsFollow.modifyBoard t c.board _ fun b a _ hmarks hsound => ?_
    obtain ⟨hst, ha⟩ := hc _ (hset.2 ▸ hmarks)
    have hmove : BoardMove b.state .targeted = true := by rw [show b.state = .ready from hst]; rfl
    refine ⟨hsound.setState (m := b.marks a) hmove (fun hheld => ?_) (fun _ => ha), .inr hmove⟩
    rw [hst] at hheld
    simp at hheld
  exact (hset.then_follow htarget).then_same (.of_panels rfl rfl)

theorem offerPick_follow (s : State) : BoardsFollow s (offerPick s).1 := by
  have hsame : SameBoards s (walkBays s.pickCandidates (setAside s s.pickCandidates)
      (setAside s s.pickCandidates).bayOrder).1 :=
    ⟨((samePanels_setAside s _).trans (samePanels_walkBays _ _ _)).1,
      (marksIn_walkBays _ _ _).trans (marksIn_setAside s _)⟩
  simp only [offerPick]
  split
  · next t c ht =>
    have hcand := (mem_pickCandidates s c.board).1 (walkBays_mem _ _ _ ht)
    rw [ht] at hsame
    split
    · refine hsame.then_follow (givePick_follow t c _ fun k hk => ?_)
      obtain ⟨p, b, hp, hal, -, hb, hst⟩ := hcand
      rw [hsame.2, marksIn_of_board hp hb, Option.some_inj] at hk
      subst hk
      exact ⟨hst, by simp [BoardRecord.marks, Panel.hasRun, hal]⟩
    · exact hsame.follow
  · next t ht => rw [ht] at hsame; exact hsame.follow

theorem nextPick_follow (s : State) : BoardsFollow s (nextPick s).1 := by
  unfold nextPick
  split
  · exact .refl s
  split
  · exact .refl s
  split
  · exact .refl s
  split
  · exact .refl s
  · exact offerPick_follow s

/-! ### The gripper's board (R131 to R137) -/

/-- The board a request names is the gripper's current board. -/
theorem gripperNames_eq_some {s : State} {entry site : Byte} {h : BoardHandle} {b : BoardRecord} :
    s.gripperNames entry site = some (h, b) ↔
      boardHandleOf entry site = some h ∧ s.gripper.current = some h ∧ s.board h = some b := by
  unfold State.gripperNames
  cases boardHandleOf entry site with
  | none => simp
  | some g =>
    by_cases hg : s.gripper.current = some g
    · simp only [hg, if_true, Option.map_eq_some_iff, Prod.mk.injEq, Option.some_inj]
      constructor
      · rintro ⟨b, hb, rfl, rfl⟩
        exact ⟨rfl, rfl, hb⟩
      · rintro ⟨rfl, -, hb⟩
        exact ⟨b, hb, rfl, rfl⟩
    · simp only [hg, if_false, Option.some_inj, false_iff, reduceCtorEq]
      rintro ⟨rfl, hcur, -⟩
      exact hg hcur

theorem holdOn_follow (entry site : Byte) (s : State) : BoardsFollow s (holdOn entry site s).1 := by
  unfold holdOn
  split
  · next h b hn =>
    obtain ⟨-, -, hb⟩ := gripperNames_eq_some.1 hn
    split
    · next hst =>
      exact BoardsFollow.setBoardState (t := s) (.of_panels rfl rfl) hb (by rw [hst]; rfl) (by simp [hst]) (by simp)
    · exact .refl s
  · exact .refl s

theorem placeBoard_follow (s : State) {h : BoardHandle} (r : Reservation) {b : BoardRecord} (hb : s.board h = some b)
    (hst : b.state = .free) : BoardsFollow s (placeBoard s h r).1 := by
  have hdone : BoardsFollow s ((s.occupySlot h).releaseGripper.setBoardTerminal h .placed) :=
    follow_setBoardTerminal (by simp [SameBoards]) hb (by rw [hst]; rfl) (by simp [hst]) (by simp)
  exact hdone.then_same (by simp [SameBoards, placeBoard])

theorem placed_follow (entry site bay slot : Byte) (s : State) : BoardsFollow s (placed entry site bay slot s).1 := by
  have hfault : ∀ c, BoardsFollow s (s.reportFault c) := fun c => SameBoards.follow (by simp [SameBoards])
  unfold placed
  split
  · next h b hn =>
    obtain ⟨-, -, hb⟩ := gripperNames_eq_some.1 hn
    split
    · next hst =>
      split
      · split
        · exact placeBoard_follow s _ hb hst
        · exact hfault _
      · exact hfault _
    · exact .refl s
  · exact .refl s

/-- What a drop does to the gripper's board (R68, R134). -/
theorem dropBoard_follow (s : State) {h : BoardHandle} {b : BoardRecord} (hb : s.board h = some b) :
    BoardsFollow s (dropBoard s h b) := by
  have hsame : SameBoards s s.releaseGripper := .of_panels rfl rfl
  have hb' : s.releaseGripper.board h = some b := hb
  unfold dropBoard
  split
  · next hst => exact hsame.then_follow (follow_abandonPick _ h hb' (by rw [hst]; rfl) (by simp [hst]))
  · next hst =>
    split
    · next hrel => exact hsame.then_follow (follow_abandonPick _ h hb' (by rw [hst]; rfl) (by simp [hrel]))
    · exact (BoardsFollow.setBoardState hsame hb (by rw [hst]; rfl) (fun _ => .inl rfl) (by simp)).then_same
        (by simp [SameBoards])
  · next hst =>
    exact hsame.then_follow ((follow_loseBoard _ h hb' (by rw [hst]; rfl) (by simp [hst])).then_same (by simp [SameBoards]))
  all_goals exact hsame.follow

theorem dropped_follow (entry site : Byte) (s : State) : BoardsFollow s (dropped entry site s).1 := by
  unfold dropped
  split
  · next h b hn => exact dropBoard_follow s (gripperNames_eq_some.1 hn).2.2
  · exact .refl s

/-- What an expiry of the gripper watchdog does to the gripper's board (R137). -/
theorem expireBoard_follow (s : State) {h : BoardHandle} {b : BoardRecord} (hb : s.board h = some b) :
    BoardsFollow s (expireBoard s h b) := by
  unfold expireBoard
  split
  · next hst => exact (follow_abandonPick s h hb (by rw [hst]; rfl) (by simp [hst])).then_same (by simp [SameBoards])
  case h_2 hst | h_3 hst =>
    exact (BoardsFollow.setBoardState (t := s) (.of_panels rfl rfl) hb (by rw [hst]; rfl) (fun _ => .inl rfl) (by simp)).then_same
      (by simp [SameBoards])
  all_goals exact .refl s

theorem expireGripper_follow (s : State) : BoardsFollow s (expireGripper s) := by
  unfold expireGripper
  split
  · split
    · next h b hcur hb =>
      have hboard : s.board h = some b := by simpa [State.gripperBoard, hcur] using hb
      have hlost := expireBoard_follow { s with gripper := ⟨.stalled, none, none⟩ } (h := h) (b := b) hboard
      exact SameBoards.then_follow (.of_panels rfl rfl) (hlost.then_same (by simp [SameBoards]))
    · exact SameBoards.follow (.of_panels rfl rfl)
  · exact .refl s

/-! ### The vision line (R43, R63, R75) -/

theorem siteMark_follow (entry site verdict : Byte) (s : State) : BoardsFollow s (siteMark entry site verdict s).1 := by
  unfold siteMark
  split
  · exact .refl s
  split
  · exact .refl s
  next b hb =>
    split
    · exact .refl s
    split
    · next hst =>
      split
      · exact follow_beginHold s _ _ hb hst
      · exact follow_applyVerdict s _ _ hb (.inl hst)
    split
    · exact SameBoards.follow (by simp [SameBoards])
    · exact .refl s

theorem fiducial_follow (entry : Byte) (f1m f2m : Point) (s : State) : BoardsFollow s (fiducial entry f1m f2m s).1 := by
  unfold fiducial
  split
  · exact .refl s
  next e _ =>
    split
    · exact .refl s
    next p hp =>
      split
      · exact .refl s
      split
      · exact .refl s
      next hst =>
        split
        · exact .refl s
        split
        · exact .refl s
        have haligning : p.state = .aligning := not_not.1 hst
        simp only [checkFiducial, rejectRange]
        repeat' split
        case isFalse.isFalse.isFalse.isFalse =>
          exact SameBoards.follow
            ⟨rfl, marksIn_setPanel s e p { p with state := .correcting } hp rfl (by simp [Panel.hasRun, haligning])⟩
        all_goals exact SameBoards.follow (by simp [SameBoards])

/-! ### Every request -/

/-- The Recipe Store after a request that writes no record. -/
theorem requestBlock_slots (l : LineId) (name : RequestName) (f : List Byte) (s : State) (h : name.leavesRecords = true) :
    (requestBlock l name f s).1.slots = s.slots := by
  cases name
  case progress => cases l <;> rfl
  case placeCheck => exact (samePanels_placeCheck _ _ s).1
  case bayPoll => exact (samePanels_bayPoll s).1
  case bayDone =>
    change (bayDone _ _ _ s).1.slots = s.slots
    unfold bayDone
    split
    · exact (samePanels_bayDoneIndex _ _ s).1
    split
    · exact (samePanels_bayDoneExchange _ _ s).1
    · rfl
  all_goals cases h

theorem onSpindle_follow (l : LineId) (r : Spindle → Request) (s : State) (hr : ∀ sp, BoardsFollow s (r sp s).1) :
    BoardsFollow s (onSpindle l r s).1 := by
  cases l
  case spindleA => exact hr .a
  case spindleB => exact hr .b
  all_goals exact .refl s

theorem requestBlock_follow (l : LineId) (name : RequestName) (f : List Byte) (s : State) :
    BoardsFollow s (requestBlock l name f s).1 := by
  by_cases hw : name.leavesRecords = true
  · exact SameBoards.follow (.of_panels (requestBlock_slots l name f s hw) (requestBlock_panels l name f s hw))
  cases name
  case nextTab => exact onSpindle_follow l _ s fun sp => nextTab_follow sp s
  case tabDone => exact onSpindle_follow l _ s fun sp => tabDone_follow sp _ _ _ s
  case tabFault => exact onSpindle_follow l _ s fun sp => tabFault_follow sp _ _ _ _ s
  case nextPick => exact nextPick_follow s
  case holdOn => exact holdOn_follow _ _ s
  case placed => exact placed_follow _ _ _ _ s
  case dropped => exact dropped_follow _ _ s
  case fiducial => exact fiducial_follow _ _ _ s
  case siteMark => exact siteMark_follow _ _ _ s
  all_goals exact absurd rfl hw

end Sys2Proof.Machine
end

section
/-! Every event, every arrival and every step follows the table of R59 and keeps the release interlock (R59, R66). -/

namespace Sys2Proof.Machine

/-! ### Events of the part -/

/-- A recipe is committed only when each of its sites has one release tab (R12, R13). -/
theorem endValidation_oneRelease (s : State) (hs : OneReleasePerSite s) : OneReleasePerSite (endValidation s) := by
  unfold endValidation
  split
  · next number r _ =>
    split
    · next recipe hok =>
      obtain ⟨-, -, -, hsites, -⟩ := (validate_eq_ok r recipe).1 hok
      intro m q hq
      change (s.slots.set number (some recipe))[m] = some q at hq
      by_cases hm : number = m
      · subst hm
        obtain rfl : recipe = q := by simpa using hq
        exact fun x hx => (hsites x hx).2
      · exact hs m q (by rwa [vector_set_ne s.slots number m _ hm] at hq)
    · exact hs
  · exact hs
  · exact hs

theorem endValidation_follow (s : State) : BoardsFollow s (endValidation s) :=
  .of_marks (endValidation_oneRelease s) (congrArg marksIn (endValidation_panels s))

theorem visitZone_follow (e : Fin 4) (s : State) : BoardsFollow s (visitZone e s) := by
  refine SameBoards.follow (.of_panels ?_ (visitZone_panels e s))
  unfold visitZone
  repeat' split
  all_goals rfl

theorem visitPickPoint_follow (e : Fin 4) (s : State) : BoardsFollow s (visitPickPoint e s) := by
  refine SameBoards.follow ?_
  unfold visitPickPoint
  repeat' split
  all_goals simp [SameBoards]

theorem visitTab_follow (e : Fin 4) (s : State) : BoardsFollow s (visitTab e s) := by
  simp only [visitTab]
  split
  · next v p r _ =>
    split
    · exact (BoardsFollow.modifyTab s _ (visitedTab v r.header.f1) (fun _ => rfl) fun _ x _ _ hst _ =>
        .inl ((visitedTab_assigned v r.header.f1 x).1 hst)).then_same (.of_panels rfl rfl)
    all_goals exact .refl s
  · exact .refl s

/-! ### The end of a correction run (R49) -/

/-- R59 lets every early board that is not terminal be STRANDED. -/
theorem early_move_stranded {a : BoardState} (ha : EarlyState a) (hopen : a.terminal = false) : BoardMove a .stranded = true := by
  rcases ha with rfl | rfl | rfl | rfl | rfl
  case inr.inr.inr.inr => cases hopen
  all_goals rfl

theorem strandBoard_steps (b : BoardRecord) (hb : EarlyState b.state) : b.state.Steps (strandBoard b).state := by
  unfold strandBoard
  split
  · next hst =>
    simp only [strands, Bool.and_eq_true, Bool.not_eq_true'] at hst
    exact .inr (early_move_stranded hb hst.1)
  · exact .refl _

/-- A board of a panel that becomes ALIGNED. -/
theorem strandBoard_sound (b : BoardRecord) (hb : (b.marks false).Sound) : ((strandBoard b).marks true).Sound := by
  have hearly : EarlyState b.state := hb.early rfl
  refine ⟨?_, fun x hx hr hst => ?_, fun h => nomatch h⟩
  · change releaseCount ((strandBoard b).tabs.map (·.release)) = 1
    rw [strandBoard_tabs]
    exact hb.oneRelease
  · change x ∈ (strandBoard b).tabs at hx
    rw [strandBoard_tabs] at hx
    have hlate := hb.interlocked x hx hr hst
    rcases hearly with h | h | h | h | h <;> simp [BoardRecord.marks, h] at hlate

theorem endRun_follow (e : Fin 4) (s : State) : BoardsFollow s (endRun e s) := by
  cases ha : s.activeRun e with
  | none => rw [endRun, ha]; exact .refl s
  | some vpr =>
    obtain ⟨v, p, r⟩ := vpr
    obtain ⟨-, hp, hst⟩ := activeRun_spec ha
    by_cases hv : v.position = .finished
    · rw [endRun_finished ha hv]
      have hset : BoardsFollow s (s.setPanel e (some (p.aligned v))) := by
        refine BoardsFollow.setPanel s e _ fun hs q site n hq hn => ?_
        obtain rfl := Option.some.inj hq
        simp only [Panel.marksAt, Panel.aligned, List.getElem?_map, Option.map_map, Option.map_eq_some_iff] at hn
        obtain ⟨b, hb, rfl⟩ := hn
        have hboard : s.board ⟨e, site⟩ = some b := by simpa [State.board, State.boardsOf, hp] using hb
        have hmarks := marksIn_of_board (h := ⟨e, site⟩) hp hboard
        rw [show p.hasRun = false by simp [Panel.hasRun, hst]] at hmarks
        have hsound := ((interlocked_iff s).1 hs).2 _ _ hmarks
        refine ⟨strandBoard_sound b hsound, fun m hm => ?_⟩
        obtain rfl := Option.some.inj (hmarks.symm.trans hm)
        exact strandBoard_steps b (hsound.early rfl)
      exact hset.then_same (by simp [SameBoards, State.alignedBy, State.raiseMask])
    · rw [endRun, ha]
      simp only [hv, if_false]
      exact .refl s

/-! ### The timers and the pins -/

theorem expireHold_follow (s : State) : BoardsFollow s (expireHold s) := by
  unfold expireHold
  split
  · next h timer _ =>
    split
    · exact (follow_settleVerdict s h s.settings.defaultVerdict).then_same (by simp [SameBoards])
    · exact .refl s
  · exact .refl s

/-! ### Arrivals at the port (R187) -/

theorem acceptFrame_follow (s : State) (name : CommandName) (p : List Byte) :
    BoardsFollow s (s.acceptFrame name (commandBlock name p)) := by
  simp only [State.acceptFrame, commandBlock]
  split
  · exact SameBoards.follow (.of_panels rfl rfl)
  split
  · next c hc =>
    obtain ⟨-, hc⟩ := Option.ite_none_right_eq_some.1 hc
    obtain rfl := Option.some.inj hc
    have hcmd := commandOn_follow name p { s with ovr := false }
    unfold State.deliver
    split
    · next t a ht => rw [ht] at hcmd; exact hcmd
    · next t ht => rw [ht] at hcmd; exact hcmd
  · exact SameBoards.follow (.of_panels rfl rfl)

theorem takeCommandOr_follow (s : State) (name : CommandName) (p : List Byte) :
    BoardsFollow s (s.takeCommandOr name (commandBlock name p)) := by
  unfold State.takeCommandOr
  split
  · exact .refl s
  split
  · exact SameBoards.follow (.of_panels rfl rfl)
  · exact acceptFrame_follow s name p

theorem transact_follow (bytes : List Byte) (s : State) : BoardsFollow s (transact bytes s) := by
  simp only [transact, examineFrame]
  repeat' split
  case h_2 name _ => exact acceptFrame_follow s name _
  all_goals exact SameBoards.follow (.of_panels rfl rfl)

/-! ### Arrivals on the station lines (R83 to R90) -/

theorem sendAnswer_same (s : State) (l : LineId) (f : Frame) : SameBoards s (s.sendAnswer l f) := by simp [SameBoards]

theorem frameComplete_same (s : State) (l : LineId) : SameBoards s (s.frameComplete l) := by simp [SameBoards]

theorem reloadWatchdog_same (s : State) (l : LineId) : SameBoards s (s.reloadWatchdog l) := by simp [SameBoards]

theorem examine_follow (s : State) (l : LineId) (code : Byte) (name : RequestName) (f : List Byte) :
    BoardsFollow s (s.examine l code (requestBlock l name f)) := by
  unfold State.examine
  split
  · exact .refl s
  split
  · exact (sendAnswer_same s l _).follow
  split
  · exact (sendAnswer_same s l _).follow
  have hreq := (reloadWatchdog_same s l).then_follow (requestBlock_follow l name f _)
  split
  · next t r ht => rw [ht] at hreq; exact hreq.then_same (sendAnswer_same t l _)
  · next t ht => rw [ht] at hreq; exact hreq

theorem takeRequest_follow (s : State) (l : LineId) (name : RequestName) (f : List Byte) :
    BoardsFollow s (s.takeRequest l name (requestBlock l name f)) := by
  unfold State.takeRequest
  split
  · exact .refl s
  · exact (frameComplete_same s l).then_follow (examine_follow _ l _ name f)

theorem examineBytes_follow (s : State) (l : LineId) (bytes : List Byte) : BoardsFollow s (s.examineBytes l bytes) := by
  unfold State.examineBytes
  split
  · split
    · exact .refl s
    split
    · exact SameBoards.follow (by simp [SameBoards])
    split
    · exact .refl s
    · exact examine_follow s l _ _ _
  · exact .refl s
  · exact .refl s

theorem frameArrives_follow (l : LineId) (bytes : List Byte) (s : State) : BoardsFollow s (frameArrives l bytes s) := by
  unfold frameArrives
  split
  · exact (frameComplete_same s l).then_follow (examineBytes_follow _ l bytes)
  · exact .refl s

theorem receiveByte_follow (l : LineId) (byte : Byte) (framingError : Bool) (s : State) :
    BoardsFollow s (receiveByte l byte framingError s) := by
  have hdrop : BoardsFollow s (s.dropFrame l) := SameBoards.follow (by simp [SameBoards])
  have hline : ∀ r, BoardsFollow s (s.setLine l r) := fun r => SameBoards.follow (by simp [SameBoards])
  simp only [receiveByte]
  split
  · split
    · exact hline _
    · exact .refl s
  · split
    · exact hdrop
    · exact hline _
  · split
    · exact hdrop
    split
    · exact frameArrives_follow l _ s
    · exact hline _

theorem takeEvent_follow (s : State) {event : State → State} (he : BoardsFollow s (event s)) :
    BoardsFollow s (s.takeEvent event) := by
  unfold State.takeEvent
  split
  · exact .refl s
  · exact he

theorem takeEvent_same_follow (s : State) {event : State → State} (hsame : SamePanels s (event s))
    (hpanels : (event s).panels = s.panels) : BoardsFollow s (s.takeEvent event) :=
  takeEvent_follow s (SameBoards.follow (.of_panels hsame.1 hpanels))

/-! ### Every step -/

/-- A row that stands for a frame follows the table as its frame does. -/
theorem exec_frame_follow {c : Instr} (h : ((hostCommand c).isSome || (stationRequest c).isSome) = true) (s : State) :
    ∃ t, exec c s = .next t ∧ BoardsFollow s t := by
  rcases Bool.or_eq_true_iff.1 h with hhost | hstation
  · obtain ⟨name, hname⟩ := Option.isSome_iff_exists.1 hhost
    exact ⟨_, exec_host_frame hname s, takeCommandOr_follow s name _⟩
  · obtain ⟨⟨l, name, f⟩, hname⟩ := Option.isSome_iff_exists.1 hstation
    exact ⟨_, exec_station_frame hname s, takeRequest_follow s l name f⟩

theorem exec_follow (c : Instr) (s : State) : ∃ t, exec c s = .next t ∧ BoardsFollow s t := by
  cases c
  case validationEnd => exact ⟨_, rfl, takeEvent_follow s (endValidation_follow s)⟩
  case zoneVisit e => exact ⟨_, rfl, takeEvent_follow s (visitZone_follow e s)⟩
  case pickPointVisit e => exact ⟨_, rfl, takeEvent_follow s (visitPickPoint_follow e s)⟩
  case tabVisit e => exact ⟨_, rfl, takeEvent_follow s (visitTab_follow e s)⟩
  case correctionRunEnd e => exact ⟨_, rfl, takeEvent_follow s (endRun_follow e s)⟩
  case holdExpiry => exact ⟨_, rfl, takeEvent_follow s (expireHold_follow s)⟩
  case gapTimerExpiry l => exact ⟨_, rfl, takeEvent_same_follow s (samePanels_expireGap l s) (expireGap_panels l s)⟩
  case stationFrame l bytes => exact ⟨_, rfl, takeEvent_follow s (frameArrives_follow l bytes s)⟩
  case stationLineByte l byte framingError => exact ⟨_, rfl, takeEvent_follow s (receiveByte_follow l byte framingError s)⟩
  case frameTransmitted l =>
    exact ⟨_, rfl, takeEvent_same_follow s (samePanels_endTransmission l s) (by simp [endTransmission])⟩
  case progress l =>
    cases l
    case vision => exact ⟨_, rfl, takeEvent_follow s (SameBoards.follow (by simp [SameBoards]))⟩
    case elevator => exact ⟨_, rfl, takeEvent_follow s (SameBoards.follow (by simp [SameBoards]))⟩
    all_goals exact exec_frame_follow rfl s
  case spindleWatchdogExpiry sp => exact ⟨_, rfl, takeEvent_follow s (expireSpindle_follow sp s)⟩
  case gripperWatchdogExpiry => exact ⟨_, rfl, takeEvent_follow s (expireGripper_follow s)⟩
  case actionTimerExpiry b => exact ⟨_, rfl, takeEvent_same_follow s (samePanels_expireAction b s) (expireAction_panels b s)⟩
  case settleTimerExpiry b => exact ⟨_, rfl, takeEvent_same_follow s (samePanels_expireSettle b s) (expireSettle_panels b s)⟩
  case confirmWindowExpiry b => exact ⟨_, rfl, takeEvent_same_follow s (samePanels_expireWindow b s) (expireWindow_panels b s)⟩
  case sample raw => exact ⟨_, rfl, takeEvent_same_follow s (samePanels_samplePins raw s) (samplePins_panels raw s)⟩
  case commandFrame bytes => exact ⟨_, rfl, takeEvent_follow s (transact_follow bytes s)⟩
  case resetAssert => exact ⟨_, rfl, .refl s⟩
  case resetRelease => exact ⟨_, rfl, coldValues_follow s⟩
  case powerOn => exact ⟨_, rfl, coldValues_follow s⟩
  all_goals exact exec_frame_follow rfl s

theorem step_follow (s t : State) (hstep : step s = .next t) : BoardsFollow s t := by
  unfold step at hstep
  split at hstep
  · next c rest _ =>
    obtain ⟨u, hu, hfollow⟩ := exec_follow c { s with pending := rest }
    obtain rfl := Host.Outcome.next.inj (hu.symm.trans hstep)
    exact SameBoards.then_follow (.of_panels rfl rfl) hfollow
  · exact Host.Outcome.next.inj hstep ▸ (SameBoards.of_panels (samePanels_tick s).1 (tick_panels s)).follow

/-- Settles O57: every board that a step leaves is interlocked. -/
theorem releaseInterlockHolds : Obligations.ReleaseInterlockHolds := by
  intro s t hs hstep
  obtain ⟨hone, hall⟩ := step_follow s t hstep hs
  exact (interlocked_iff t).2 ⟨hone, fun h m hm => (hall h m hm).1⟩

/-- Settles O58: a board that stands before and after a step has moved by the table of R59. -/
theorem boardsMoveByTheTable : Obligations.BoardsMoveByTheTable := by
  intro s t h b c hs hstep hb hc
  obtain ⟨p, hp⟩ := panel_of_board hb
  obtain ⟨q, hq⟩ := panel_of_board hc
  obtain ⟨-, hall⟩ := step_follow s t hstep hs
  exact (hall h _ (marksIn_of_board hq hc)).2 _ (marksIn_of_board hp hb)

end Sys2Proof.Machine
end

section
/-! SITE-MARK row by row (R63, R75): what each refusal, each verdict and the hold answer and leave. -/

namespace Sys2Proof.Machine

/-! ### Handles read from bytes -/

theorem boardHandleOf_ofNat (e : Fin 4) (site : Byte) : boardHandleOf (BitVec.ofNat 8 e) site = some ⟨e, site.toNat⟩ := by
  rw [boardHandleOf, fin?_ofNat e (by decide)]
  rfl

/-- An entry above 3 names no board. -/
theorem boardHandleOf_above {above : Byte} (site : Byte) (h : 3 < above.toNat) : boardHandleOf above site = none := by
  rw [boardHandleOf, fin?_eq_none.2 h]
  rfl

@[simp] theorem board_received (s : State) (l : LineId) (h : BoardHandle) : (s.received l).board h = s.board h := by
  simp [State.board, State.boardsOf]

/-! ### Verdicts read from a byte (R194) -/

theorem verdictOf_eq_none (b : Byte) : verdictOf b = none ↔ 3 ≤ b.toNat := by
  unfold verdictOf
  split_ifs with h0 h1 h2
  case neg => exact iff_of_true rfl (by bv_omega)
  all_goals
    subst b
    decide

/-! ### SITE-MARK at the Record Array (R63) -/

section

variable (s : State) (e : Fin 4) (site verdict : Byte)

theorem siteMark_above {above : Byte} (h : 3 < above.toNat) : siteMark above site verdict s = (s, some (.bare .state)) := by
  simp [siteMark, boardHandleOf_above site h]

theorem siteMark_noBoard (h : s.board ⟨e, site.toNat⟩ = none) :
    siteMark (BitVec.ofNat 8 e) site verdict s = (s, some (.bare .state)) := by
  simp [siteMark, boardHandleOf_ofNat, h]

variable {s e site verdict} {b : BoardRecord} {v : Verdict} (hb : s.board ⟨e, site.toNat⟩ = some b)

include hb

theorem siteMark_noVerdict (hv : verdictOf verdict = none) :
    siteMark (BitVec.ofNat 8 e) site verdict s = (s, some ⟨.reject, [0]⟩) := by
  simp [siteMark, boardHandleOf_ofNat, hb, hv, u8]

theorem siteMark_notAwaited (hv : verdictOf verdict = some v) (hawait : b.state ≠ .awaitMark)
    (hstranded : ¬ (b.state = .stranded ∧ b.verdict = .none)) :
    siteMark (BitVec.ofNat 8 e) site verdict s = (s, some (.bare .state)) := by
  simp only [siteMark, boardHandleOf_ofNat, hb, hv, hawait, hstranded, if_false]

theorem siteMark_applies (hv : verdictOf verdict = some v) (hsure : v ≠ .unsure) (hawait : b.state = .awaitMark) :
    siteMark (BitVec.ofNat 8 e) site verdict s = (s.applyVerdict ⟨e, site.toNat⟩ v,
      some ⟨.ok, (s.applyVerdict ⟨e, site.toNat⟩ v).boardStateBytes ⟨e, site.toNat⟩⟩) := by
  simp only [siteMark, boardHandleOf_ofNat, hb, hv, hawait, hsure, if_true, if_false]

theorem siteMark_holds (hv : verdictOf verdict = some .unsure) (hawait : b.state = .awaitMark) :
    siteMark (BitVec.ofNat 8 e) site verdict s =
      (s.beginHold ⟨e, site.toNat⟩ (siteMarkFrame (BitVec.ofNat 8 e) site verdict), none) := by
  simp only [siteMark, boardHandleOf_ofNat, hb, hv, hawait, if_true]

theorem siteMark_writes (hv : verdictOf verdict = some v) (hst : b.state = .stranded) (hnone : b.verdict = .none) :
    siteMark (BitVec.ofNat 8 e) site verdict s = (s.writeVerdict ⟨e, site.toNat⟩ v,
      some ⟨.ok, (s.writeVerdict ⟨e, site.toNat⟩ v).boardStateBytes ⟨e, site.toNat⟩⟩) := by
  simp only [siteMark, boardHandleOf_ofNat, hb, hv, hst, hnone, and_self, if_true, reduceCtorEq, if_false]

end

/-- The row of a delivered request that the owning block holds. -/
theorem exec_held {c : Instr} {s : State} (t : State) {l : LineId} {name : RequestName} {request : Request} (h : LineOpen s l)
    (hexec : exec c s = .next (s.takeRequest l name request)) (hr : request (s.received l) = (t, none)) : exec c s = .next t := by
  rw [hexec, takeRequest_delivered s l name request h, hr]

/-- Settles O33: the refusals, then each verdict on a board in AWAIT-MARK, and any verdict on a STRANDED board without one. -/
theorem siteMarkGivesAVerdict : Obligations.SiteMarkGivesAVerdict := by
  intro s e site verdict hopen h request r0 answer
  refine ⟨fun above habove => ?_, fun hnone => ?_, fun b hb => ?_⟩
  · exact exec_replied r0 hopen rfl (siteMark_above _ site verdict habove)
  · exact exec_replied r0 hopen rfl (siteMark_noBoard _ e site verdict (by simpa using hnone))
  have hb' : r0.board ⟨e, site.toNat⟩ = some b := by simpa [r0] using hb
  refine ⟨fun hv => ?_, fun hv hawait hstranded => ?_, ?_, ?_, ?_, fun v hv hst hnone => ?_⟩
  · exact exec_replied r0 hopen rfl (siteMark_noVerdict hb' ((verdictOf_eq_none verdict).2 hv))
  · obtain ⟨v, hv⟩ := Option.ne_none_iff_exists'.1 (mt (verdictOf_eq_none verdict).1 (Nat.not_le.2 (Nat.lt_succ_of_le hv)))
    exact exec_replied r0 hopen rfl (siteMark_notAwaited hb' hv hawait hstranded)
  · rintro rfl hawait
    exact exec_replied _ hopen rfl (siteMark_applies hb' rfl (by decide) hawait)
  · rintro rfl hawait
    exact exec_replied _ hopen rfl (siteMark_applies hb' rfl (by decide) hawait)
  · rintro rfl hawait
    exact exec_held _ hopen rfl (siteMark_holds hb' rfl hawait)
  · exact exec_replied _ hopen rfl (siteMark_writes hb' hv hst hnone)

end Sys2Proof.Machine
end

section
/-! The operations on the records do not read the port's OVR mark, which an accepted frame clears before its command is delivered
(R187). -/

namespace Sys2Proof.Machine

section

variable (s : State) (o : Bool)

theorem modifyBoard_ovr (h : BoardHandle) (f : BoardRecord → BoardRecord) :
    ({ s with ovr := o } : State).modifyBoard h f = { s.modifyBoard h f with ovr := o } := by
  have hpanel : ({ s with ovr := o } : State).panel h.entry = s.panel h.entry := rfl
  rw [State.modifyBoard, State.modifyBoard, hpanel]
  cases s.panel h.entry <;> rfl

theorem clearingTest_ovr (e : Fin 4) :
    ({ s with ovr := o } : State).clearingTest e = { s.clearingTest e with ovr := o } := by
  have hpanel : ({ s with ovr := o } : State).panel e = s.panel e := rfl
  rw [State.clearingTest, State.clearingTest, hpanel]
  cases s.panel e with
  | none => rfl
  | some p =>
    dsimp only
    split <;> rfl

theorem setBoardTerminal_ovr (h : BoardHandle) (st : BoardState) :
    ({ s with ovr := o } : State).setBoardTerminal h st = { s.setBoardTerminal h st with ovr := o } := by
  rw [State.setBoardTerminal, State.setBoardState, modifyBoard_ovr, clearingTest_ovr]
  rfl

theorem cutTab_ovr (h : TabHandle) : ({ s with ovr := o } : State).cutTab h = { s.cutTab h with ovr := o } := by
  have htab : ({ s with ovr := o } : State).tab h = s.tab h := rfl
  cases hx : s.tab h with
  | none => rw [State.cutTab, State.cutTab, htab, hx]
  | some x => rw [cutTab_eq hx, cutTab_eq (htab.trans hx), modifyBoard_ovr]

theorem cancelReservation_ovr (h : BoardHandle) :
    ({ s with ovr := o } : State).cancelReservation h = { s.cancelReservation h with ovr := o } := by
  have hboard : ({ s with ovr := o } : State).board h = s.board h := rfl
  rw [State.cancelReservation, State.cancelReservation, hboard]
  cases s.board h with
  | none => rfl
  | some b =>
    cases hr : b.reservation with
    | none => simp only [hr]
    | some r =>
      simp only [hr]
      exact modifyBoard_ovr (s.setBay r.bay _) o h _

theorem occupySlot_ovr (h : BoardHandle) :
    ({ s with ovr := o } : State).occupySlot h = { s.occupySlot h with ovr := o } := by
  have hpanel : ({ s with ovr := o } : State).panel h.entry = s.panel h.entry := rfl
  have hboard : ({ s with ovr := o } : State).board h = s.board h := rfl
  rw [State.occupySlot, State.occupySlot, hpanel, hboard]
  cases s.panel h.entry with
  | none => rfl
  | some p =>
    cases s.board h with
    | none => rfl
    | some b =>
      cases hr : b.reservation with
      | none => simp only [hr]
      | some r =>
        simp only [hr]
        exact modifyBoard_ovr (s.setBay r.bay _) o h _

theorem applyVerdict_ovr (h : BoardHandle) (v : Verdict) :
    ({ s with ovr := o } : State).applyVerdict h v = { s.applyVerdict h v with ovr := o } := by
  have hmode : ({ s with ovr := o } : State).xoutModeOf h.entry = s.xoutModeOf h.entry := rfl
  simp only [State.applyVerdict, modifyBoard_ovr, clearingTest_ovr, hmode]
  split
  · split <;> rfl
  · rfl

theorem settleVerdict_ovr (h : BoardHandle) (v : Verdict) :
    ({ s with ovr := o } : State).settleVerdict h v = { s.settleVerdict h v with ovr := o } := by
  have hboard : ({ s with ovr := o } : State).board h = s.board h := rfl
  simp only [State.settleVerdict, State.writeVerdict, applyVerdict_ovr, modifyBoard_ovr, hboard]
  cases s.board h with
  | none => rfl
  | some b =>
    dsimp only
    split
    · rfl
    · split <;> rfl

theorem releaseHeld_ovr (h : BoardHandle) (code : StationCode) (v : Verdict) :
    ({ s with ovr := o } : State).releaseHeld h code v = { s.releaseHeld h code v with ovr := o } := rfl

end

end Sys2Proof.Machine
end

section
/-! DECIDE and HOLD-EXPIRY row by row (R76, R77): the refusals of DECIDE, and how either settles an UNSURE board. -/

namespace Sys2Proof.Machine

/-! ### Bytes that name a site -/

/-- A site index in range is carried by its byte. -/
theorem toNat_ofNat_site {n : Nat} (h : n ≤ 63) : (BitVec.ofNat 8 n).toNat = n := by
  rw [BitVec.toNat_ofNat]
  omega

theorem decidedVerdict_eq_none (code : Byte) : decidedVerdict code = none ↔ 1 < code.toNat := by
  unfold decidedVerdict
  split_ifs with h0 h1
  case neg => exact iff_of_true rfl (by bv_omega)
  all_goals
    subst code
    decide

/-! ### DECIDE at the Record Array (R76) -/

section

variable (s : State) (site code : Byte)

theorem decideVerdict_range (entry : Byte) (h : 3 < entry.toNat ∨ 63 < site.toNat ∨ 1 < code.toNat) :
    decideVerdict entry site code s = (s, some (.bare .range)) := by
  unfold decideVerdict
  split
  · next e v he hv =>
    have hentry : ¬ 3 < entry.toNat := fun hlow => by simp [fin?_eq_none.2 hlow] at he
    have hcode : ¬ 1 < code.toNat := fun hlow => by simp [(decidedVerdict_eq_none code).2 hlow] at hv
    rw [if_pos (by omega)]
  · rfl

variable {s site code} {h : BoardHandle} {v : Verdict} (hv : decidedVerdict code = some v) (hsite : site.toNat = h.site)
  (hlow : h.site ≤ 63)

include hv hsite hlow

theorem decideVerdict_noPanel (hp : s.panel h.entry = none) :
    decideVerdict (BitVec.ofNat 8 h.entry) site code s = (s, some (.bare .noPanel)) := by
  rw [decideVerdict, fin?_ofNat h.entry (by decide), hv]
  simp [hsite, Nat.not_lt.2 hlow, hp]

theorem decideVerdict_noRecord (hp : s.panel h.entry ≠ none) (hb : s.board h = none) :
    decideVerdict (BitVec.ofNat 8 h.entry) site code s = (s, some (.bare .noRecord)) := by
  rw [decideVerdict, fin?_ofNat h.entry (by decide), hv]
  simp [hsite, Nat.not_lt.2 hlow, hp, hb]

variable {b : BoardRecord} (hb : s.board h = some b)

include hb

theorem decideVerdict_late (hst : b.undecided = false) :
    decideVerdict (BitVec.ofNat 8 h.entry) site code s = (s, some (.bare .late)) := by
  obtain ⟨p, hp⟩ := panel_of_board hb
  rw [decideVerdict, fin?_ofNat h.entry (by decide), hv]
  simp [hsite, Nat.not_lt.2 hlow, hp, hb, hst]

/-- A board without a verdict is settled, and a request held for it is answered. -/
theorem decideVerdict_settles (hst : b.undecided = true) :
    decideVerdict (BitVec.ofNat 8 h.entry) site code s =
      let t := if s.hold.holds h then (s.settleVerdict h v).releaseHeld h .ok v else s.settleVerdict h v
      (t, some (.ok (t.boardStateBytes h ++ flag (s.hold.holds h)))) := by
  obtain ⟨p, hp⟩ := panel_of_board hb
  rw [decideVerdict, fin?_ofNat h.entry (by decide), hv]
  simp [hsite, Nat.not_lt.2 hlow, hp, hb, hst]

end

theorem undecided_iff (b : BoardRecord) :
    b.undecided = true ↔ b.state = .unsure ∨ (b.state = .stranded ∧ b.verdict = .unsure) := decide_eq_true_iff

theorem holds_eq_false {v : VerdictHold} {h : BoardHandle} (hv : ∀ t, v ≠ .holding h t) : v.holds h = false := by
  cases v with
  | empty => rfl
  | holding g t => exact decide_eq_false fun hg => hv t (by rw [hg])

/-! ### The hold timer (R77) -/

theorem expireHold_notDue (s : State)
    (h : s.hold = .empty ∨ (∃ h, s.hold = .holding h none) ∨ (∃ h n, s.hold = .holding h (some (n + 2)))) :
    expireHold s = s := by
  rcases h with h | ⟨g, h⟩ | ⟨g, n, h⟩ <;> simp [expireHold, h, Timer.due]

theorem expireHold_due (s : State) (h : BoardHandle) (hh : s.hold = .holding h (some 1)) :
    expireHold s = ((s.settleVerdict h s.settings.defaultVerdict).releaseHeld h .timedOut s.settings.defaultVerdict).raise
      .verdictDefaulted := by
  rw [expireHold, hh]
  rfl

/-- Settles O34: the hold timer not due, the refusals of DECIDE, then the settling of a board by either. -/
theorem unsureBoardsAreDecided : Obligations.UnsureBoardsAreDecided := by
  refine ⟨?_, ?_, ?_⟩
  · intro s hreset hnone
    rw [exec_event hreset (rfl : exec .holdExpiry s = _), expireHold_notDue s hnone]
  · intro s entry site code ⟨hopen, hnormal⟩ refused
    refine ⟨fun hrange => ?_, fun e hsite hcode => ?_⟩
    · exact exec_answered hopen (.inl hnormal) rfl (decideVerdict_range _ site code entry hrange)
    obtain ⟨v, hv⟩ := Option.ne_none_iff_exists'.1 (mt (decidedVerdict_eq_none code).1 (Nat.not_lt.2 hcode))
    refine ⟨fun hp => ?_, fun hp hb => ?_⟩
    · exact exec_answered hopen (.inl hnormal) rfl (decideVerdict_noPanel (h := ⟨e, site.toNat⟩) hv rfl hsite hp)
    · exact exec_answered hopen (.inl hnormal) rfl (decideVerdict_noRecord (h := ⟨e, site.toNat⟩) hv rfl hsite hp hb)
  intro s h b hb hlow released decide answer
  refine ⟨fun ⟨hopen, hnormal⟩ code v hcode => ?_, fun hreset hh => ?_⟩
  · have hv : decidedVerdict code = some v := by rcases hcode with ⟨rfl, rfl⟩ | ⟨rfl, rfl⟩ <;> rfl
    have hsite := toNat_ofNat_site hlow
    have hb' : ({ s with ovr := false } : State).board h = some b := hb
    refine ⟨fun hunsure hstranded => ?_, fun hst => ?_⟩
    · refine exec_answered hopen (.inl hnormal) rfl (decideVerdict_late hv hsite hlow hb' ?_)
      exact Bool.eq_false_iff.2 (mt (undecided_iff b).1 (not_or.2 ⟨hunsure, hstranded⟩))
    have hsettles := decideVerdict_settles hv hsite hlow hb' ((undecided_iff b).2 hst)
    refine ⟨fun hnone => ?_, fun t hh => ?_⟩
    · rw [show ({ s with ovr := false } : State).hold.holds h = false from holds_eq_false hnone, settleVerdict_ovr] at hsettles
      exact exec_changes _ hopen (.inl hnormal) rfl hsettles
    · rw [show ({ s with ovr := false } : State).hold.holds h = true by simp [hh, VerdictHold.holds], settleVerdict_ovr,
        releaseHeld_ovr] at hsettles
      exact exec_changes _ hopen (.inl hnormal) rfl hsettles
  · rw [exec_event hreset (rfl : exec .holdExpiry s = _), expireHold_due s h hh]
    rfl

end Sys2Proof.Machine
end

section
/-! TAB-RESOLVE and BOARD-RESOLVE row by row (R70, R72, R73): their refusals, and how either settles a SUSPECT record. -/

namespace Sys2Proof.Machine

/-! ### TAB-RESOLVE at the Record Array (R70) -/

theorem tabResolve_range (s : State) (entry site tab outcome : Byte)
    (h : 3 < entry.toNat ∨ 63 < site.toNat ∨ 7 < tab.toNat ∨ 1 < outcome.toNat) :
    tabResolve entry site tab outcome s = (s, some (.bare .range)) := by
  cases he : fin? 4 entry.toNat with
  | none => rw [tabResolve, he]
  | some e =>
    have hentry : ¬ 3 < entry.toNat := fun hlow => by simp [fin?_eq_none.2 hlow] at he
    rw [tabResolve, he]
    exact if_pos (h.resolve_left hentry)

/-- What TAB-RESOLVE makes of a SUSPECT tab (R70). -/
def State.resolveTab (s : State) (h : TabHandle) (outcome : Byte) : State :=
  if outcome = 0 then s.cutTab h else s.setTabState h .intact

theorem resolveTab_ovr (s : State) (h : TabHandle) (outcome : Byte) (o : Bool) :
    ({ s with ovr := o } : State).resolveTab h outcome = { s.resolveTab h outcome with ovr := o } := by
  simp only [State.resolveTab, State.setTabState, State.modifyTab, cutTab_ovr, modifyBoard_ovr]
  split <;> rfl

section

variable {s : State} {e : Fin 4} {site tab outcome : Byte} (hsite : site.toNat ≤ 63) (htab : tab.toNat ≤ 7)
  (hout : outcome.toNat ≤ 1)

include hsite htab hout

theorem tabResolve_noPanel (hp : s.panel e = none) :
    tabResolve (BitVec.ofNat 8 e) site tab outcome s = (s, some (.bare .noPanel)) := by
  rw [tabResolve, fin?_ofNat e (by decide)]
  simp [Nat.not_lt.2 hsite, Nat.not_lt.2 htab, Nat.not_lt.2 hout, hp]

theorem tabResolve_noRecord (hp : s.panel e ≠ none) (hx : s.tab ⟨e, site.toNat, tab.toNat⟩ = none) :
    tabResolve (BitVec.ofNat 8 e) site tab outcome s = (s, some (.bare .noRecord)) := by
  rw [tabResolve, fin?_ofNat e (by decide)]
  simp [Nat.not_lt.2 hsite, Nat.not_lt.2 htab, Nat.not_lt.2 hout, hp, hx]

variable {x : TabRecord} (hp : s.panel e ≠ none) (hx : s.tab ⟨e, site.toNat, tab.toNat⟩ = some x)

include hp hx

theorem tabResolve_notSuspect (hst : x.state ≠ .suspect) :
    tabResolve (BitVec.ofNat 8 e) site tab outcome s = (s, some (.bare .state)) := by
  rw [tabResolve, fin?_ofNat e (by decide)]
  simp [Nat.not_lt.2 hsite, Nat.not_lt.2 htab, Nat.not_lt.2 hout, hp, hx, hst]

/-- A SUSPECT tab is found cut, or not. -/
theorem tabResolve_settles (hst : x.state = .suspect) :
    tabResolve (BitVec.ofNat 8 e) site tab outcome s =
      let h : TabHandle := ⟨e, site.toNat, tab.toNat⟩
      let t := s.resolveTab h outcome
      (t, some (.ok (opt8 ((t.tab h).map (fun t => t.state.code)) ++ t.boardStateBytes h.board
        ++ opt8 ((t.board h.board).map (·.remaining))))) := by
  rw [tabResolve, fin?_ofNat e (by decide)]
  simp [Nat.not_lt.2 hsite, Nat.not_lt.2 htab, Nat.not_lt.2 hout, hp, hx, hst, State.resolveTab]

end

/-! ### BOARD-RESOLVE at the Record Array (R72, R73) -/

theorem boardResolve_range (s : State) (entry site outcome : Byte)
    (h : 3 < entry.toNat ∨ 63 < site.toNat ∨ 2 < outcome.toNat) :
    boardResolve entry site outcome s = (s, some (.bare .range)) := by
  cases he : fin? 4 entry.toNat with
  | none => rw [boardResolve, he]
  | some e =>
    have hentry : ¬ 3 < entry.toNat := fun hlow => by simp [fin?_eq_none.2 hlow] at he
    rw [boardResolve, he]
    exact if_pos (h.resolve_left hentry)

/-- What BOARD-RESOLVE makes of a board that it may resolve (R73). -/
def State.resolveBoard (s : State) (h : BoardHandle) (outcome : Byte) : State :=
  if outcome = 0 then s.abandonPick h else if outcome = 1 then s.loseBoard h else (s.occupySlot h).setBoardTerminal h .placed

theorem resolveBoard_ovr (s : State) (h : BoardHandle) (outcome : Byte) (o : Bool) :
    ({ s with ovr := o } : State).resolveBoard h outcome = { s.resolveBoard h outcome with ovr := o } := by
  simp only [State.resolveBoard, State.abandonPick, State.loseBoard, State.setBoardState, cancelReservation_ovr, occupySlot_ovr,
    setBoardTerminal_ovr, modifyBoard_ovr]
  split
  · rfl
  · split <;> rfl

section

variable {s : State} {e : Fin 4} {site outcome : Byte} (hsite : site.toNat ≤ 63) (hout : outcome.toNat ≤ 2)

include hsite hout

theorem boardResolve_noPanel (hp : s.panel e = none) :
    boardResolve (BitVec.ofNat 8 e) site outcome s = (s, some (.bare .noPanel)) := by
  rw [boardResolve, fin?_ofNat e (by decide)]
  simp [Nat.not_lt.2 hsite, Nat.not_lt.2 hout, hp]

theorem boardResolve_noRecord (hp : s.panel e ≠ none) (hb : s.board ⟨e, site.toNat⟩ = none) :
    boardResolve (BitVec.ofNat 8 e) site outcome s = (s, some (.bare .noRecord)) := by
  rw [boardResolve, fin?_ofNat e (by decide)]
  simp [Nat.not_lt.2 hsite, Nat.not_lt.2 hout, hp, hb]

variable {b : BoardRecord} (hb : s.board ⟨e, site.toNat⟩ = some b)

include hb

/-- A board that is found meets the tests of its state and its release tab. -/
theorem boardResolve_found : boardResolve (BitVec.ofNat 8 e) site outcome s =
    if b.state ≠ .suspect then (s, some (.bare .state))
    else if b.releaseState = some .assigned ∨ b.releaseState = some .suspect then (s, some (.bare .busy))
    else if outcome = 0 ∧ b.releaseState = some .cut then (s, some (.bare .releaseCut))
    else (s.resolveBoard ⟨e, site.toNat⟩ outcome,
      some (.ok ((s.resolveBoard ⟨e, site.toNat⟩ outcome).boardStateBytes ⟨e, site.toNat⟩))) := by
  obtain ⟨p, hp⟩ := panel_of_board hb
  have hrange : ¬ (63 < site.toNat ∨ 2 < outcome.toNat) := by omega
  rw [boardResolve, fin?_ofNat e (by decide)]
  simp only [hrange, show s.panel e = some p from hp, hb, if_false, Option.isNone_some, Bool.false_eq_true]
  rfl

end

/-- A board is settled when its release tab is neither being cut nor SUSPECT, nor CUT for IN-FRAME. -/
theorem boardResolve_settles {s : State} {e : Fin 4} {site outcome : Byte} (hsite : site.toNat ≤ 63) (hout : outcome.toNat ≤ 2)
    {b : BoardRecord} (hb : s.board ⟨e, site.toNat⟩ = some b) (hst : b.state = .suspect)
    (hfree : b.releaseState ≠ some .assigned ∧ b.releaseState ≠ some .suspect) (hcut : outcome = 0 → b.releaseState ≠ some .cut) :
    boardResolve (BitVec.ofNat 8 e) site outcome s = (s.resolveBoard ⟨e, site.toNat⟩ outcome,
      some (.ok ((s.resolveBoard ⟨e, site.toNat⟩ outcome).boardStateBytes ⟨e, site.toNat⟩))) := by
  rw [boardResolve_found hsite hout hb, if_neg (not_not.2 hst), if_neg (not_or.2 hfree), if_neg (not_and.2 hcut)]

/-- Settles O35: the refusals for want of a record, then TAB-RESOLVE and BOARD-RESOLVE on a record that is there. -/
theorem suspectRecordsAreResolved : Obligations.SuspectRecordsAreResolved := by
  refine ⟨?_, ?_⟩
  · intro s entry site tab outcome ⟨hopen, hnormal⟩ refusedTab refusedBoard
    refine ⟨fun h => ?_, fun h => ?_, fun e hsite => ⟨fun htab hout => ⟨fun hp => ?_, fun hp hx => ?_⟩,
      fun hout => ⟨fun hp => ?_, fun hp hb => ?_⟩⟩⟩
    · exact exec_answered hopen (.inl hnormal) rfl (tabResolve_range _ entry site tab outcome h)
    · exact exec_answered hopen (.inl hnormal) rfl (boardResolve_range _ entry site outcome h)
    · exact exec_answered hopen (.inl hnormal) rfl (tabResolve_noPanel hsite htab hout hp)
    · exact exec_answered hopen (.inl hnormal) rfl (tabResolve_noRecord hsite htab hout hp hx)
    · exact exec_answered hopen (.inl hnormal) rfl (boardResolve_noPanel hsite hout hp)
    · exact exec_answered hopen (.inl hnormal) rfl (boardResolve_noRecord hsite hout hp hb)
  intro s e site tab b ⟨hopen, hnormal⟩ hsite htab hb h ht e8 resolved done free
  obtain ⟨p, hp⟩ := panel_of_board hb
  have hpanel : ({ s with ovr := false } : State).panel e ≠ none := by
    rw [show ({ s with ovr := false } : State).panel e = some p from hp]
    simp
  have hboard : ({ s with ovr := false } : State).board ⟨e, site.toNat⟩ = some b := hb
  refine ⟨fun x hx => ?_, fun hst o ho => ?_, fun hst hbusy o ho => ?_, fun hst hcut => ?_, fun hst hfree => ?_⟩
  · have htabx : ({ s with ovr := false } : State).tab ⟨e, site.toNat, tab.toNat⟩ = some x := (tab_of_board s ht b hb).trans hx
    have settles : ∀ o : Byte, o.toNat ≤ 1 → x.state = .suspect →
        exec (.tabResolve e8 site tab o) s = .next (done (s.resolveTab ht o)) := fun o ho hst => by
      have hsettles := tabResolve_settles hsite htab ho hpanel htabx hst
      simp only [resolveTab_ovr] at hsettles
      exact exec_changes _ hopen (.inl hnormal) rfl hsettles
    refine ⟨fun hst => ⟨settles 0 (by decide) hst, settles 1 (by decide) hst⟩, fun hst o ho => ?_⟩
    exact exec_answered hopen (.inl hnormal) rfl (tabResolve_notSuspect hsite htab ho hpanel htabx hst)
  · exact exec_answered hopen (.inl hnormal) rfl ((boardResolve_found hsite ho hboard).trans (if_pos hst))
  · have hbusy' : b.releaseState = some .assigned ∨ b.releaseState = some .suspect := by simpa [free, or_iff_not_imp_left] using hbusy
    exact exec_answered hopen (.inl hnormal) rfl
      ((boardResolve_found hsite ho hboard).trans ((if_neg (not_not.2 hst)).trans (if_pos hbusy')))
  · have hidle : ¬ (b.releaseState = some .assigned ∨ b.releaseState = some .suspect) := by simp [hcut]
    exact exec_answered hopen (.inl hnormal) rfl ((boardResolve_found hsite (by decide) hboard).trans
      ((if_neg (not_not.2 hst)).trans ((if_neg hidle).trans (if_pos ⟨rfl, hcut⟩))))
  · have settles : ∀ o : Byte, o.toNat ≤ 2 → (o = 0 → b.releaseState ≠ some .cut) →
        exec (.boardResolve e8 site o) s = .next (resolved (s.resolveBoard h o)) := fun o ho hcut => by
      have hsettles := boardResolve_settles hsite ho hboard hst hfree hcut
      rw [resolveBoard_ovr] at hsettles
      exact exec_changes _ hopen (.inl hnormal) rfl hsettles
    exact ⟨fun hcut => settles 0 (by decide) fun _ => hcut, settles 1 (by decide) (absurd · (by decide)),
      settles 2 (by decide) (absurd · (by decide))⟩

end Sys2Proof.Machine
end

section
/-! HOLD-ON, PLACE-CHECK, PLACED and DROPPED row by row (R131 to R134). -/

namespace Sys2Proof.Machine

/-! ### The board a request names -/

theorem gripperNames_other {s : State} {e : Fin 4} {site : Byte} (h : s.gripper.current ≠ some ⟨e, site.toNat⟩) :
    s.gripperNames (BitVec.ofNat 8 e) site = none := by
  simp [State.gripperNames, boardHandleOf_ofNat, h]

theorem gripperNames_above (s : State) {above : Byte} (site : Byte) (h : 3 < above.toNat) : s.gripperNames above site = none := by
  simp [State.gripperNames, boardHandleOf_above site h]

theorem gripperNames_current {s : State} {e : Fin 4} {site : Byte} {b : BoardRecord}
    (hcur : s.gripper.current = some ⟨e, site.toNat⟩) (hb : s.board ⟨e, site.toNat⟩ = some b) :
    s.gripperNames (BitVec.ofNat 8 e) site = some (⟨e, site.toNat⟩, b) :=
  gripperNames_eq_some.2 ⟨boardHandleOf_ofNat e site, hcur, hb⟩

theorem stateReply_ofNat (s : State) (e : Fin 4) (site : Byte) :
    s.stateReply (BitVec.ofNat 8 e) site = ⟨.state, s.boardStateBytes ⟨e, site.toNat⟩⟩ := by
  rw [State.stateReply, boardHandleOf_ofNat]
  rfl

theorem stateReply_above (s : State) {above : Byte} (site : Byte) (h : 3 < above.toNat) :
    s.stateReply above site = ⟨.state, [0xFF]⟩ := by
  rw [State.stateReply, boardHandleOf_above site h]
  rfl

theorem boardStateBytes_of_board {s : State} {h : BoardHandle} {b : BoardRecord} (hb : s.board h = some b) :
    s.boardStateBytes h = u8 b.state.code := by
  rw [State.boardStateBytes, hb]
  rfl

/-! ### The requests at the Pick Scheduler -/

section

variable {s : State} {entry site : Byte} (bay slot : Byte) (hn : s.gripperNames entry site = none)

include hn

theorem holdOn_unnamed : holdOn entry site s = (s, some (s.stateReply entry site)) := by
  simp only [holdOn, hn]

theorem placeCheck_unnamed : placeCheck entry site s = (s, some (s.stateReply entry site)) := by
  simp only [placeCheck, hn]

theorem placed_unnamed : placed entry site bay slot s = (s, some (.bare .state)) := by
  simp only [placed, hn]

theorem dropped_unnamed : dropped entry site s = (s, some (.bare .state)) := by
  simp only [dropped, hn]

end

section

variable {s : State} {entry site bay slot : Byte} {h : BoardHandle} {b : BoardRecord} {r : Reservation}
  (hn : s.gripperNames entry site = some (h, b))

include hn

theorem holdOn_targeted (hst : b.state = .targeted) : holdOn entry site s = (s.setBoardState h .held, some (.bare .ok)) := by
  simp only [holdOn, hn, hst, if_true]

theorem holdOn_notTargeted (hst : b.state ≠ .targeted) : holdOn entry site s = (s, some (s.stateReply entry site)) := by
  simp only [holdOn, hn, hst, if_false]

theorem placeCheck_notFree (hst : b.state ≠ .free) : placeCheck entry site s = (s, some (s.stateReply entry site)) := by
  simp only [placeCheck, hn, hst, if_false]

theorem placeCheck_free (hst : b.state = .free) (hr : b.reservation = some r) :
    placeCheck entry site s = (s, some ⟨if s.placeClear r then .ok else .wait,
      u8 s.bays[r.bay].state.code ++ opt8 s.bays[r.bay].target⟩) := by
  simp only [placeCheck, hn, hst, hr, if_true]

theorem placed_notFree (hst : b.state ≠ .free) : placed entry site bay slot s = (s, some (.bare .state)) := by
  simp only [placed, hn, hst, if_false]

theorem placed_reserved (hst : b.state = .free) (hr : b.reservation = some r)
    (hright : r.bay.val = bay.toNat ∧ r.slot = slot.toNat) : placed entry site bay slot s = placeBoard s h r := by
  simp only [placed, hn, hst, hr, if_true, if_pos hright]

theorem placed_mismatch (hst : b.state = .free) (hr : b.reservation = some r)
    (hwrong : ¬ (r.bay.val = bay.toNat ∧ r.slot = slot.toNat)) : placed entry site bay slot s =
      (s.reportFault (s.gripperContext .handling .mismatch h none true), some (.bare .mismatch)) := by
  simp only [placed, hn, hst, hr, if_true, if_neg hwrong]

theorem dropped_named : dropped entry site s = (dropBoard s h b, some ⟨.ok, (dropBoard s h b).boardStateBytes h⟩) := by
  simp only [dropped, hn]

end

/-! ### What a drop does to the board (R134) -/

section

variable (s : State) (h : BoardHandle) {b : BoardRecord}

theorem dropBoard_targeted (hst : b.state = .targeted) : dropBoard s h b = s.releaseGripper.abandonPick h := by
  simp only [dropBoard, hst]

theorem dropBoard_held (hst : b.state = .held) (hrel : b.releaseState = some .intact) :
    dropBoard s h b = s.releaseGripper.abandonPick h := by
  simp only [dropBoard, hst, hrel, if_true]

theorem dropBoard_underCut (hst : b.state = .held) {j : Nat} {x : TabRecord} (htab : b.releaseTab = some (j, x))
    (hx : x.state = .assigned ∨ x.state = .suspect) : dropBoard s h b =
      (s.releaseGripper.setBoardState h .suspect).reportFault (s.gripperContext .handling .dropUnderCut h (some j) false) := by
  have hcut : b.releaseState ≠ some .intact := by rcases hx with hx | hx <;> simp [BoardRecord.releaseState, htab, hx]
  simp only [dropBoard, hst, if_neg hcut, htab]
  rfl

theorem dropBoard_free (hst : b.state = .free) : dropBoard s h b =
    (s.releaseGripper.loseBoard h).reportFault (s.gripperContext .handling .drop h none false) := by
  simp only [dropBoard, hst]
  rfl

end

/-! ### The gripper's record -/

/-- The gripper's record once it has let go of its board, whatever its watchdog read before. -/
theorem releaseGripper_received (s : State) : (s.received .gripper).releaseGripper =
    { s.received .gripper with gripper := { s.gripper with current := none, watchdog := none } } := rfl

theorem releaseGripper_occupySlot (s : State) (h : BoardHandle) : ((s.received .gripper).occupySlot h).releaseGripper =
    { (s.received .gripper).occupySlot h with gripper := { s.gripper with current := none, watchdog := none } } := by
  simp only [State.releaseGripper, occupySlot_fields]
  rfl

/-- A placement names the board and the reserved slot in the answer, as the request did. -/
theorem handleBytes_placed {e : Fin 4} {site bay slot : Byte} {r : Reservation}
    (hright : r.bay.val = bay.toNat ∧ r.slot = slot.toNat) :
    boardHandleBytes ⟨e, site.toNat⟩ ++ u8 r.bay ++ u8 r.slot = [BitVec.ofNat 8 e, site, bay, slot] := by
  simp [boardHandleBytes, u8, hright]

/-- Settles O45: a request that names no board of the gripper, an entry above 3, then each state of the gripper's board. -/
theorem gripperRequestsAreTaken : Obligations.GripperRequestsAreTaken := by
  intro s e site bay slot hopen e8 h r0 off become stateOf dropped' context
  refine ⟨fun hcur => ?_, fun above habove => ?_, fun b hcur hb => ?_⟩
  · have hn : r0.gripperNames e8 site = none := gripperNames_other hcur
    have hstate : r0.stateReply e8 site = ⟨.state, stateOf s⟩ := by
      rw [stateReply_ofNat, State.boardStateBytes, board_received]
    exact ⟨exec_replied r0 hopen rfl ((holdOn_unnamed hn).trans (by rw [hstate])),
      exec_replied r0 hopen rfl ((placeCheck_unnamed hn).trans (by rw [hstate])),
      exec_replied r0 hopen rfl (placed_unnamed bay slot hn), exec_replied r0 hopen rfl (dropped_unnamed hn)⟩
  · have hn : r0.gripperNames above site = none := gripperNames_above r0 site habove
    have hstate : r0.stateReply above site = ⟨.state, [0xFF]⟩ := stateReply_above r0 site habove
    exact ⟨exec_replied r0 hopen rfl ((holdOn_unnamed hn).trans (by rw [hstate])),
      exec_replied r0 hopen rfl ((placeCheck_unnamed hn).trans (by rw [hstate])),
      exec_replied r0 hopen rfl (placed_unnamed bay slot hn), exec_replied r0 hopen rfl (dropped_unnamed hn)⟩
  have hb0 : r0.board h = some b := (board_received s .gripper h).trans hb
  have hn : r0.gripperNames e8 site = some (h, b) := gripperNames_current hcur hb0
  have hstate : r0.stateReply e8 site = ⟨.state, u8 b.state.code⟩ := by
    rw [stateReply_ofNat, boardStateBytes_of_board hb0]
  have hcontext : ∀ cause tab recoverable, r0.gripperContext .handling cause h tab recoverable = context cause tab recoverable := by
    intro cause tab recoverable
    simp [State.gripperContext, State.panelId, r0, context, h]
  have drops : ∀ t, dropBoard r0 h b = t → exec (.dropped e8 site) s = .next (dropped' t) := fun t ht =>
    exec_replied t hopen rfl (ht ▸ dropped_named hn)
  refine ⟨fun hst => ⟨?_, ?_⟩, fun hst => ?_, fun hst => ⟨?_, ?_⟩, fun hst hrel => ?_, fun j x hst htab hx => ?_, fun hst => ?_,
    fun r hst hr => ?_⟩
  · exact exec_replied _ hopen rfl (holdOn_targeted hn hst)
  · exact drops _ (dropBoard_targeted r0 h hst)
  · exact exec_replied r0 hopen rfl ((holdOn_notTargeted hn hst).trans (by rw [hstate]))
  · exact exec_replied r0 hopen rfl ((placeCheck_notFree hn hst).trans (by rw [hstate]))
  · exact exec_replied r0 hopen rfl (placed_notFree hn hst)
  · exact drops _ (dropBoard_held r0 h hst hrel)
  · exact drops _ (hcontext _ _ _ ▸ dropBoard_underCut r0 h hst htab hx)
  · exact drops _ (hcontext _ _ _ ▸ dropBoard_free r0 h hst)
  intro there report right t
  have hcheck : placeCheck e8 site r0 = (r0, some ⟨if r0.placeClear r then .ok else .wait, report⟩) :=
    placeCheck_free hn hst hr
  have hclear : r0.placeClear r = true ↔ there := decide_eq_true_iff
  refine ⟨fun hthere => ?_, fun hthere => ?_, fun hright => ?_, fun hwrong => ?_⟩
  · rw [if_pos (hclear.2 hthere)] at hcheck
    exact exec_replied r0 hopen rfl hcheck
  · rw [if_neg (mt hclear.1 hthere)] at hcheck
    exact exec_replied r0 hopen rfl hcheck
  · have hplaced := placed_reserved hn hst hr hright
    rw [placeBoard, releaseGripper_occupySlot, handleBytes_placed hright] at hplaced
    exact exec_replied _ hopen rfl hplaced
  · have hplaced := placed_mismatch hn hst hr hwrong
    rw [hcontext] at hplaced
    exact exec_replied _ hopen rfl hplaced

end Sys2Proof.Machine
end

section
/-! The bays in every step (R142, R150): what a change of a bay record keeps of its soundness and of the records about to go out,
and which operations on the part leave the station lines as they are and keep the bays sound. -/

namespace Sys2Proof.Machine

/-! ### Records about to go out (R150) -/

/-- The bay will send its CURRENT record out: EXCHANGING with one (R150). -/
def Bay.sends (b : Bay) : Bool := decide (b.state = .exchanging) && b.current.isSome

theorem sendingOut_eq_sum (s : State) :
    sendingOut s = s.bays[0].sends.toNat + s.bays[1].sends.toNat + s.bays[2].sends.toNat + s.bays[3].sends.toNat := by
  change (bayNumbers.filter fun b => s.bays[b].sends).length = _
  simp only [← List.countP_eq_length_filter, bayNumbers, List.countP_cons, List.countP_nil, Bool.toNat, cond_eq_ite]
  ac_rfl

/-- One bay written: the records about to go out change by that bay's. -/
theorem sendingOut_setBay (s : State) (b : Fin 4) (r : Bay) :
    sendingOut (s.setBay b r) + s.bays[b].sends.toNat = sendingOut s + r.sends.toNat := by
  simp only [sendingOut_eq_sum, setBay_fields]
  fin_cases b <;> simp <;> omega

/-- Where no bay begins to send a record out, no more records are about to go out. -/
theorem sendingOut_le {s t : State} (h : ∀ b : Fin 4, t.bays[b].sends = true → s.bays[b].sends = true) :
    sendingOut t ≤ sendingOut s :=
  (List.monotone_filter_right bayNumbers h).length_le

/-! ### One bay -/

/-- A changed bay record is sound where the old one was, and it sends a record out only where the old one did. -/
def BayKept (b c : Bay) : Prop := BaySound b → BaySound c ∧ (c.sends = true → b.sends = true)

theorem BayKept.refl (b : Bay) : BayKept b b := fun h => ⟨h, id⟩

theorem BayKept.trans {a b c : Bay} (h : BayKept a b) (k : BayKept b c) : BayKept a c := fun ha =>
  ⟨(k (h ha).1).1, (h ha).2 ∘ (k (h ha).1).2⟩

theorem bayKept_stopAction (b : Bay) : BayKept b b.stopAction := by
  rintro ⟨hindex, hexchange, -, hsettle, hempty⟩
  exact ⟨⟨hindex, hexchange, nofun, hsettle, hempty⟩, id⟩

/-- Counting leaves STOPPED timers STOPPED (R149). -/
theorem bayKept_countTimers (guarded : Bool) (b : Bay) : BayKept b (b.countTimers guarded) := by
  rintro ⟨hindex, hexchange, htimer, hsettle, hempty⟩
  refine ⟨⟨hindex, hexchange, fun h => htimer ?_, fun h => hsettle ?_, hempty⟩, id⟩
  · cases ht : b.actionTimer with
    | none => cases guarded <;> simp [Bay.countTimers, ht, Timer.countUnless, Timer.count] at h
    | some n => rfl
  · cases ht : b.settleTimer with
    | none => simp [Bay.countTimers, ht, Timer.count] at h
    | some n => rfl

/-- The CURRENT record of a bay rewritten. -/
theorem bayKept_mapCurrent (b : Bay) (f : Magazine → Magazine) : BayKept b { b with current := b.current.map f } := by
  rintro ⟨hindex, hexchange, htimer, hsettle, hempty⟩
  exact ⟨⟨hindex, hexchange, htimer, hsettle, fun h => by simp [hempty h]⟩, by simp [Bay.sends]⟩

/-- A bay in INDEX-WANTED goes back to ACTIVE (R145). -/
theorem bayKept_leaveIndexWanted (b : Bay) : BayKept b b.leaveIndexWanted := by
  unfold Bay.leaveIndexWanted
  split
  · grind [BayKept, BaySound, Bay.sends]
  · exact .refl b

/-- A confirm window closes: the settle timer is STOPPED where the bay leaves SETTLING (R147). -/
theorem bayKept_closeConfirm (b : Bay) : BayKept b b.closeConfirm := by
  unfold Bay.closeConfirm
  split
  · grind [BayKept, BaySound, Bay.sends]
  · exact fun h => ⟨h, id⟩

/-- The settle timer runs out: the bay was SETTLING (R151). -/
theorem bayKept_settled (b : Bay) (h : b.settleTimer.isSome = true) :
    BayKept b { b with settleTimer := none, state := .atSlot } := by
  grind [BayKept, BaySound, Bay.sends]

/-- A bay that neither acts nor settles takes another such state, with the target and the CURRENT record that go with it. -/
theorem bayKept_moved {b : Bay} (st : BayState) (target : Option Nat) (m : Option Magazine)
    (hb : b.state = .active ∨ b.state = .atSlot ∨ b.state = .faulted) (hst : st ≠ .indexing ∧ st ≠ .exchanging)
    (hempty : st = .empty → m = none) : BayKept b { b with current := m, state := st, target := target } := by
  grind [BayKept, BaySound, Bay.sends]

/-- A bay takes a board's reservation (R145). -/
theorem bayKept_reserve {b : Bay} (m : Magazine) (h : BoardHandle) (k : Nat) (hb : b.state = .active ∨ b.state = .atSlot) :
    BayKept b (b.reserve m h k) := by
  have hcurrent : ∀ st target, st ≠ .indexing ∧ st ≠ .exchanging → st ≠ .empty →
      BayKept b { b with current := some (m.reserve h k), state := st, target := target } := fun st target hst hempty =>
    bayKept_moved st target _ (hb.imp_right .inl) hst fun he => absurd he hempty
  unfold Bay.reserve
  split
  · next hat => exact hcurrent b.state b.target (by simp [hat.1]) (by simp [hat.1])
  · exact hcurrent .indexWanted _ (by simp) (by simp)

/-! ### Actions (R150 to R153) -/

theorem BaySound.exchanging {b : Bay} (h : BaySound b) (ha : b.action = some .exchange) : b.state = .exchanging :=
  h.2.1.2 ha

theorem BaySound.acts_of_timer {b : Bay} (h : BaySound b) (ht : b.actionTimer.isSome = true) : b.action.isSome = true :=
  h.2.2.1 ht

theorem BaySound.current_of_empty {b : Bay} (h : BaySound b) (hst : b.state = .empty) : b.current = none := h.2.2.2.2 hst

/-- A bay with an outstanding action is INDEXING or EXCHANGING. -/
theorem BaySound.acting {b : Bay} (h : BaySound b) (ha : b.action.isSome = true) :
    b.state = .indexing ∨ b.state = .exchanging := by
  obtain ⟨hindex, hexchange, -⟩ := h
  match hact : b.action with
  | some .index => exact .inl (hindex.2 hact)
  | some .exchange => exact .inr (hexchange.2 hact)
  | none => simp [hact] at ha

/-- An action that fails was outstanding (R153). -/
theorem bayKept_failed (b : Bay) (ha : b.action.isSome = true ∨ b.actionTimer.isSome = true) :
    BayKept b { b.endAction with state := .faulted } := by
  intro h
  have hacting := h.acting (ha.elim id h.acts_of_timer)
  grind [BaySound, Bay.sends, Bay.endAction]

/-- An INDEX is given to a bay that asks for it (R150). -/
theorem bayKept_startIndex {b : Bay} (h : b.state = .indexWanted) (n : Nat) : BayKept b (b.start .index n) := by
  grind [BayKept, BaySound, Bay.sends, Bay.start]

/-- An EXCHANGE is given to a bay that is FULL or EMPTY (R150). -/
theorem baySound_startExchange {b : Bay} (h : BaySound b) (hst : b.state = .full ∨ b.state = .empty) (n : Nat) :
    BaySound (b.start .exchange n) := by
  grind [BaySound, Bay.start]

/-- An INDEX ends (R151). -/
theorem bayKept_indexed {b : Bay} (h : b.action = some .index) (n : Nat) : BayKept b (b.indexed n) := by
  grind [BayKept, BaySound, Bay.sends, Bay.indexed, Bay.endAction]

/-- An EXCHANGE ends (R152). -/
theorem baySound_exchanged {b : Bay} (h : BaySound b) (ha : b.action = some .exchange) : BaySound b.exchanged := by
  grind [BaySound, Bay.exchanged, Bay.endAction]

/-- A bay in a warm restart, which may have left INDEX-WANTED with a reservation cancelled before (R162). -/
theorem baySound_warm {b : Bay} {before : BayState} (h : BaySound b) (head : Option Nat)
    (hb : b.state = before ∨ before = .indexWanted) : BaySound (b.warm before head) ∧ (b.warm before head).sends = false := by
  unfold Bay.warm
  cases before <;> grind [BaySound, Bay.sends]

/-! ### The bays of the part -/

/-- Where every bay is kept and no record goes out, the bays stay sound. -/
theorem baysSound_of_kept {s t : State} (h : ∀ b : Fin 4, BayKept s.bays[b] t.bays[b])
    (ho : t.outgoing.length ≤ s.outgoing.length) (hs : BaysSound s) : BaysSound t := by
  obtain ⟨hbays, hroom⟩ := hs
  refine ⟨fun b => (h b (hbays b)).1, ?_⟩
  have := sendingOut_le fun b => (h b (hbays b)).2
  omega

/-- A bay written. -/
theorem baysSound_setBay {s : State} {b : Fin 4} {r : Bay} (h : BayKept s.bays[b] r) (hs : BaysSound s) :
    BaysSound (s.setBay b r) := by
  refine baysSound_of_kept (s := s) (fun x => ?_) (Nat.le_refl _) hs
  by_cases hx : b = x
  · subst hx
    rwa [bay_setBay]
  · rw [bay_setBay_ne s b x r hx]
    exact .refl _

/-- A bay is written and the outgoing list changes; the room is counted over both (R150, R152, R157). -/
theorem baysSound_exchange {s t : State} {b : Fin 4} {r : Bay} (hs : BaysSound s) (hr : BaySound r) (ht : t.bays = s.bays)
    (hroom : t.outgoing.length + sendingOut s + r.sends.toNat ≤ 4 + s.bays[b].sends.toNat) : BaysSound (t.setBay b r) := by
  refine ⟨fun x => ?_, ?_⟩
  · by_cases hx : b = x
    · subst hx
      rwa [bay_setBay]
    · rw [bay_setBay_ne t b x r hx, ht]
      exact hs.1 x
  · have hcount := sendingOut_setBay t b r
    have hsame : sendingOut t = sendingOut s := by simp only [sendingOut, ht]
    rw [hsame, ht] at hcount
    change t.outgoing.length + _ ≤ 4
    omega

/-! ### What leaves the lines and keeps the bays -/

/-- The Verdict Hold is HOLDING (R74). -/
def VerdictHold.isHolding : VerdictHold → Bool
  | .empty => false
  | .holding _ _ => true

/-- The lines, the hold, the bays and the outgoing list are the same in two states. -/
def SameStations (s t : State) : Prop :=
  t.lines = s.lines ∧ t.hold = s.hold ∧ t.bays = s.bays ∧ t.outgoing = s.outgoing

/-- The lines stay, a hold neither begins nor ends, and sound bays stay sound. -/
structure KeepsStations (s t : State) : Prop where
  lines : t.lines = s.lines
  hold : t.hold.isHolding = s.hold.isHolding
  bays : BaysSound s → BaysSound t

theorem SameStations.keeps {s t : State} (h : SameStations s t) : KeepsStations s t := by
  obtain ⟨hlines, hhold, hbays, houtgoing⟩ := h
  exact ⟨hlines, congrArg _ hhold, by simp [BaysSound, sendingOut, hbays, houtgoing]⟩

theorem SameStations.refl (s : State) : SameStations s s := ⟨rfl, rfl, rfl, rfl⟩

theorem SameStations.trans {s t u : State} (h : SameStations s t) (k : SameStations t u) : SameStations s u :=
  ⟨k.1.trans h.1, k.2.1.trans h.2.1, k.2.2.1.trans h.2.2.1, k.2.2.2.trans h.2.2.2⟩

theorem KeepsStations.refl (s : State) : KeepsStations s s := ⟨rfl, rfl, id⟩

theorem KeepsStations.trans {s t u : State} (h : KeepsStations s t) (k : KeepsStations t u) : KeepsStations s u :=
  ⟨k.lines.trans h.lines, k.hold.trans h.hold, k.bays ∘ h.bays⟩

theorem KeepsStations.then_same {s t u : State} (h : KeepsStations s t) (k : SameStations t u) : KeepsStations s u :=
  h.trans k.keeps

theorem SameStations.then_keeps {s t u : State} (h : SameStations s t) (k : KeepsStations t u) : KeepsStations s u :=
  h.keeps.trans k

theorem sameStations_modifyBoard (s : State) (h : BoardHandle) (f : BoardRecord → BoardRecord) :
    SameStations s (s.modifyBoard h f) := by
  simp [SameStations]

theorem sameStations_setBoardState (s : State) (h : BoardHandle) (b : BoardState) : SameStations s (s.setBoardState h b) := by
  simp [SameStations]

theorem sameStations_setBoardTerminal (s : State) (h : BoardHandle) (b : BoardState) :
    SameStations s (s.setBoardTerminal h b) := by
  simp [SameStations]

theorem sameStations_raise (s : State) (n : Notice) : SameStations s (s.raise n) := ⟨rfl, rfl, rfl, rfl⟩

theorem keeps_setBay {s : State} {b : Fin 4} {r : Bay} (h : BayKept s.bays[b] r) : KeepsStations s (s.setBay b r) :=
  ⟨rfl, rfl, baysSound_setBay h⟩

/-- LOCKDOWN stops timers and ends no hold (R178). -/
theorem keeps_enterLockdown (s : State) (c : Context) : KeepsStations s (s.enterLockdown c) := by
  refine ⟨by simp, ?_, baysSound_of_kept (fun b => ?_) (by simp)⟩
  · rw [show (s.enterLockdown c).hold = s.hold.stop from rfl]
    cases s.hold <;> rfl
  · simpa using bayKept_stopAction s.bays[b]

theorem keeps_reportFault (s : State) (c : Context) : KeepsStations s (s.reportFault c) :=
  reportFault_keeps (KeepsStations s) s c (SameStations.keeps (by simp [SameStations]))
    (SameStations.keeps (by simp [SameStations])) (fun _ _ => SameStations.keeps (by simp [SameStations]))
    fun _ _ => keeps_enterLockdown s c

theorem keeps_cancelReservation (s : State) (h : BoardHandle) : KeepsStations s (s.cancelReservation h) := by
  unfold State.cancelReservation
  split
  · split
    · exact (keeps_setBay ((bayKept_mapCurrent _ _).trans (bayKept_leaveIndexWanted _))).then_same
        (sameStations_modifyBoard _ h _)
    · exact .refl s
  · exact .refl s

theorem keeps_occupySlot (s : State) (h : BoardHandle) : KeepsStations s (s.occupySlot h) := by
  unfold State.occupySlot
  split
  · split
    · exact (keeps_setBay ((bayKept_mapCurrent _ _).trans (bayKept_leaveIndexWanted _))).then_same
        (sameStations_modifyBoard _ h _)
    · exact .refl s
  · exact .refl s

theorem keeps_confirmPlacement (s : State) (b : Fin 4) : KeepsStations s (s.confirmPlacement b) :=
  keeps_setBay (bayKept_closeConfirm _)

theorem keeps_expireConfirm (s : State) (b : Fin 4) (slot : Nat) : KeepsStations s (s.expireConfirm b slot) :=
  (keeps_setBay ((bayKept_mapCurrent _ _).trans (bayKept_closeConfirm _))).trans (keeps_reportFault _ _)

theorem keeps_abandonPick (s : State) (h : BoardHandle) : KeepsStations s (s.abandonPick h) :=
  (keeps_cancelReservation s h).then_same (sameStations_setBoardState _ h _)

theorem keeps_loseBoard (s : State) (h : BoardHandle) : KeepsStations s (s.loseBoard h) :=
  (keeps_cancelReservation s h).then_same (sameStations_setBoardTerminal _ h _)

theorem keeps_judgePlacement (s : State) (b : Fin 4) (slot : Nat) : KeepsStations s (s.judgePlacement b slot) := by
  unfold State.judgePlacement
  split
  · exact keeps_confirmPlacement s b
  split
  · exact keeps_expireConfirm s b slot
  · exact keeps_setBay fun h => ⟨h, id⟩

/-- An outstanding action fails (R153). -/
theorem keeps_failAction (s : State) (b : Fin 4) (cause : FaultCause)
    (ha : s.bays[b].action.isSome = true ∨ s.bays[b].actionTimer.isSome = true) :
    KeepsStations s (s.failAction b cause) :=
  ((keeps_setBay (bayKept_failed _ ha)).trans (keeps_reportFault _ _)).then_same (sameStations_raise _ _)

end Sys2Proof.Machine
end

section
/-! Which commands, requests and events leave the station lines as they are and keep the bays sound (R142, R150). -/

namespace Sys2Proof.Machine

/-! ### Host commands that touch neither lines nor bays -/

/-- The commands that write a bay, the outgoing list, a line or the hold. -/
def CommandName.writesStations : CommandName → Bool
  | .decide | .boardResolve | .restart => true
  | .magStage | .magGo | .magUnstage | .magRelease | .bayExchange | .bayClear => true
  | _ => false

theorem sameStations_panelAdmit (id : Word) (recipe fixture : Byte) (s : State) :
    SameStations s (panelAdmit id recipe fixture s).1 := by
  simp only [panelAdmit, admitInto]
  repeat' split
  all_goals simp [SameStations]

theorem sameStations_panelRetire (entry force : Byte) (s : State) : SameStations s (panelRetire entry force s).1 := by
  simp only [panelRetire, retire, State.advanceQueue]
  repeat' split
  all_goals simp [SameStations]

theorem sameStations_configSet (item : Byte) (value : Word) (s : State) : SameStations s (configSet item value s).1 := by
  simp only [configSet]
  repeat' split
  all_goals simp [SameStations]

theorem sameStations_tabResolve (entry site tab outcome : Byte) (s : State) :
    SameStations s (tabResolve entry site tab outcome s).1 := by
  simp only [tabResolve]
  repeat' split
  all_goals simp [SameStations]

theorem commandOn_sameStations (name : CommandName) (p : List Byte) (s : State) (h : name.writesStations = false) :
    SameStations s (commandOn name p s).1 := by
  cases name
  case panelAdmit => exact sameStations_panelAdmit _ _ _ s
  case panelRetire => exact sameStations_panelRetire _ _ s
  case tabResolve => exact sameStations_tabResolve _ _ _ _ s
  case configSet => exact sameStations_configSet _ _ s
  case decide | boardResolve | restart | magStage | magGo | magUnstage | magRelease | bayExchange | bayClear => cases h
  all_goals
    simp only [commandOn, recipeBegin, recipeSite, recipeZone, recipeEnd, recipeDrop, recipeRead, panelRead, boardRead, tabRead,
      bitChange, stationClear, clearSpindle, clearGripper, zoneSet, magRead, bayRoute, pauseCommand, resumeCommand, configRead,
      noticeRead, noticeWrite, noticeAct, faultRead, faultAck]
    repeat' split
    all_goals simp [SameStations]

/-! ### Host commands to the bays (R154 to R158) -/

/-- A magazine staged, or the mark GO: no part of what a bay's soundness reads. -/
theorem keeps_writeNext (s : State) (b : Fin 4) (m : Option Magazine) (go : Bool) :
    KeepsStations s (s.setBay b { s.bays[b] with next := m, go := go }) :=
  keeps_setBay fun h => ⟨h, id⟩

theorem magStage_keeps (bay : Byte) (id : Word) (slots : Byte) (pitch clearance : Half) (s : State) :
    KeepsStations s (magStage bay id slots pitch clearance s).1 := by
  simp only [magStage]
  repeat' split
  case isFalse.isFalse.isFalse => exact keeps_writeNext s _ _ _
  all_goals exact .refl s

theorem magGo_keeps (bay : Byte) (s : State) : KeepsStations s (magGo bay s).1 := by
  unfold magGo
  split
  · exact .refl s
  split
  · exact .refl s
  · exact keeps_writeNext s _ _ _

theorem magUnstage_keeps (bay : Byte) (s : State) : KeepsStations s (magUnstage bay s).1 := by
  unfold magUnstage
  split
  · exact .refl s
  split
  · exact .refl s
  split
  · exact .refl s
  · exact keeps_writeNext s _ _ _

theorem magRelease_keeps (id : Word) (s : State) : KeepsStations s (magRelease id s).1 := by
  unfold magRelease
  split
  · exact ⟨rfl, rfl, baysSound_of_kept (fun _ => .refl _) (List.eraseP_sublist).length_le⟩
  · exact .refl s

theorem bayExchange_keeps (bay : Byte) (s : State) : KeepsStations s (bayExchange bay s).1 := by
  unfold bayExchange
  split
  · exact .refl s
  split
  · exact .refl s
  next hst =>
    split
    · exact .refl s
    · exact keeps_setBay (bayKept_moved .full none _ ((not_not.1 hst).imp_right .inl) (by simp) nofun)

/-- A record sent out takes a place of the outgoing list (R152, R157). -/
theorem outgoing_sendOut (s : State) (m : Option Magazine) :
    (s.sendOut m).outgoing.length = s.outgoing.length + m.isSome.toNat := by
  cases m <;> simp [State.sendOut]

theorem hasOutgoingRoom_iff (s : State) : s.hasOutgoingRoom = true ↔ s.outgoing.length + sendingOut s < 4 :=
  decide_eq_true_iff

/-- BAY-CLEAR sends a CURRENT record out only into outgoing room (R157). -/
theorem clearBay_keeps {s : State} {b : Fin 4} {loaded : Bool} (hst : s.bays[b].state = .faulted)
    (hok : s.clearRefusal b loaded = none) : KeepsStations s (clearBay s b loaded) := by
  unfold clearBay
  split
  · split
    · exact keeps_setBay (bayKept_moved .indexWanted s.bays[b].target _ (.inr (.inr hst)) (by simp) nofun)
    · exact keeps_setBay (bayKept_moved .active none _ (.inr (.inr hst)) (by simp) nofun)
  next hload =>
    refine ⟨by simp, by simp, fun hs => ?_⟩
    have hsound := (bayKept_moved (b := s.bays[b]) .empty none none (.inr (.inr hst)) (by simp) (fun _ => rfl) (hs.1 b)).1
    refine baysSound_exchange hs hsound (by simp) ?_
    have hroom : s.bays[b].current.isSome = true → s.outgoing.length + sendingOut s < 4 := by
      intro hcur
      rw [← hasOutgoingRoom_iff]
      grind [State.clearRefusal]
    have := hs.2
    rw [outgoing_sendOut]
    cases hcur : s.bays[b].current.isSome with
    | true =>
      have := hroom hcur
      simp [Bay.sends]
      omega
    | false =>
      simp [Bay.sends]
      omega

theorem bayClear_keeps (bay loaded : Byte) (s : State) : KeepsStations s (bayClear bay loaded s).1 := by
  unfold bayClear
  split
  · exact .refl s
  split
  · exact .refl s
  next hst =>
    split
    · exact .refl s
    next hok => exact clearBay_keeps (not_not.1 hst) hok

/-! ### BOARD-RESOLVE (R72, R73) -/

theorem boardResolve_keeps (entry site outcome : Byte) (s : State) : KeepsStations s (boardResolve entry site outcome s).1 := by
  have hplaced : ∀ h, KeepsStations s ((s.occupySlot h).setBoardTerminal h .placed) := fun h =>
    (keeps_occupySlot s h).then_same (sameStations_setBoardTerminal _ h _)
  simp only [boardResolve]
  repeat' split
  case h_2.isFalse.isFalse.isFalse.isTrue => exact keeps_abandonPick s _
  case h_2.isFalse.isFalse.isFalse.isFalse.isTrue => exact keeps_loseBoard s _
  case h_2.isFalse.isFalse.isFalse.isFalse.isFalse => exact hplaced _
  all_goals exact .refl s

/-! ### The spindles' requests (R104, R110, R111, R114) -/

theorem nextTab_sameStations (sp : Spindle) (s : State) : SameStations s (nextTab sp s).1 := by
  simp only [nextTab, State.wear, offerTab, assign]
  repeat' split
  all_goals simp [SameStations]

theorem tabDone_sameStations (sp : Spindle) (entry site tab : Byte) (s : State) :
    SameStations s (tabDone sp entry site tab s).1 := by
  simp only [tabDone, finishTab]
  repeat' split
  all_goals simp [SameStations]

theorem loseTab_sameStations (s : State) (sp : Spindle) (h : TabHandle) (st : SpindleState) :
    SameStations s (s.loseTab sp h st) := by
  simp [SameStations, State.loseTab]

theorem tabFault_keeps (sp : Spindle) (entry site tab reason : Byte) (s : State) :
    KeepsStations s (tabFault sp entry site tab reason s).1 := by
  unfold tabFault failTab
  split
  · split
    · next h _ _ =>
      have hfault : ∀ st c, KeepsStations s ((s.loseTab sp h st).reportFault c) := fun st c =>
        (loseTab_sameStations s sp h st).then_keeps (keeps_reportFault _ c)
      dsimp only
      split
      · exact (hfault _ _).then_same (sameStations_raise _ _)
      · exact hfault _ _
    · exact .refl s
  · exact .refl s

theorem expireSpindle_keeps (sp : Spindle) (s : State) : KeepsStations s (expireSpindle sp s) := by
  unfold expireSpindle
  split
  · split
    · next c _ =>
      exact ((loseTab_sameStations s sp c.handle .stalled).then_keeps (keeps_reportFault _ _)).then_same
        (sameStations_raise _ _)
    · exact SameStations.keeps (by simp [SameStations])
  · exact .refl s

/-! ### NEXT-PICK (R125 to R128) -/

theorem setAside_sameStations (s : State) (cands : List BoardHandle) : SameStations s (setAside s cands) := by
  induction cands generalizing s with
  | nil => exact .refl s
  | cons h rest ih =>
    refine SameStations.trans ?_ (ih _)
    split <;> simp [SameStations]

theorem accepts_state {b : Bay} {m : Magazine} (h : b.accepts = some m) : b.state = .active ∨ b.state = .atSlot :=
  (Option.ite_none_right_eq_some.1 h).1.1

/-- What a walk leaves (R127): the lines and the bays kept, and a chosen bay in a state that accepts a reservation. -/
def WalkKeeps (s : State) (r : State × Option Choice) : Prop :=
  KeepsStations s r.1 ∧ ∀ c, r.2 = some c → r.1.bays[c.bay].state = .active ∨ r.1.bays[c.bay].state = .atSlot

theorem KeepsStations.then_walk {s t : State} {r : State × Option Choice} (h : KeepsStations s t) (k : WalkKeeps t r) :
    WalkKeeps s r :=
  ⟨h.trans k.1, k.2⟩

theorem walkBay_keeps (b : Fin 4) (m : Magazine) (s : State) (cands : List BoardHandle)
    (hb : s.bays[b].state = .active ∨ s.bays[b].state = .atSlot) : WalkKeeps s (walkBay b m s cands) := by
  induction cands generalizing s with
  | nil => exact ⟨.refl s, nofun⟩
  | cons h rest ih =>
    simp only [walkBay]
    split
    · exact ih s hb
    split
    · exact KeepsStations.then_walk (SameStations.keeps (by simp [SameStations])) (ih (s.noteUnfit h) (by simpa using hb))
    split
    · exact ⟨keeps_setBay (bayKept_moved .full none _ (hb.imp_right .inl) (by simp) nofun), nofun⟩
    · refine ⟨.refl s, fun c hc => ?_⟩
      obtain rfl := Option.some.inj hc
      exact hb

theorem walkBays_keeps (cands : List BoardHandle) (s : State) (bays : List (Fin 4)) :
    WalkKeeps s (walkBays cands s bays) := by
  induction bays generalizing s with
  | nil => exact ⟨.refl s, nofun⟩
  | cons b rest ih =>
    simp only [walkBays]
    split
    · exact ih s
    next m hm =>
      have hwalk := walkBay_keeps b m s (cands.filter (fun h => decide (s.destinationOf h = some b))) (accepts_state hm)
      split
      · next t c ht => rwa [ht] at hwalk
      · next t ht =>
        rw [ht] at hwalk
        exact hwalk.1.then_walk (ih t)

theorem givePick_keeps {s : State} {c : Choice} (m : Magazine)
    (hst : s.bays[c.bay].state = .active ∨ s.bays[c.bay].state = .atSlot) : KeepsStations s (givePick s c m).1 :=
  (keeps_setBay (bayKept_reserve m c.board c.span hst)).then_same (by simp [SameStations, givePick])

theorem offerPick_keeps (s : State) : KeepsStations s (offerPick s).1 := by
  have hwalk := (setAside_sameStations s s.pickCandidates).keeps.then_walk
    (walkBays_keeps s.pickCandidates _ (setAside s s.pickCandidates).bayOrder)
  simp only [offerPick]
  split
  · next t c ht =>
    rw [ht] at hwalk
    split
    · exact hwalk.1.trans (givePick_keeps _ (hwalk.2 c rfl))
    · exact hwalk.1
  · next t ht => rw [ht] at hwalk; exact hwalk.1

theorem nextPick_keeps (s : State) : KeepsStations s (nextPick s).1 := by
  unfold nextPick
  repeat' split
  case h_2.isFalse.isFalse => exact offerPick_keeps s
  all_goals exact .refl s

/-! ### The gripper's board (R131 to R137) -/

theorem holdOn_sameStations (entry site : Byte) (s : State) : SameStations s (holdOn entry site s).1 := by
  simp only [holdOn]
  repeat' split
  all_goals simp [SameStations]

theorem placeCheck_sameStations (entry site : Byte) (s : State) : SameStations s (placeCheck entry site s).1 := by
  simp only [placeCheck]
  repeat' split
  all_goals simp [SameStations]

theorem releaseGripper_sameStations (s : State) : SameStations s s.releaseGripper := ⟨rfl, rfl, rfl, rfl⟩

theorem placeBoard_keeps (s : State) (h : BoardHandle) (r : Reservation) : KeepsStations s (placeBoard s h r).1 :=
  (((keeps_occupySlot s h).then_same (releaseGripper_sameStations _)).then_same
    (sameStations_setBoardTerminal _ h .placed)).trans (keeps_judgePlacement _ _ _)

theorem placed_keeps (entry site bay slot : Byte) (s : State) : KeepsStations s (placed entry site bay slot s).1 := by
  unfold placed
  split
  · split
    · split
      · split
        · exact placeBoard_keeps s _ _
        · exact keeps_reportFault s _
      · exact keeps_reportFault s _
    · exact .refl s
  · exact .refl s

theorem dropBoard_keeps (s : State) (h : BoardHandle) (b : BoardRecord) : KeepsStations s (dropBoard s h b) := by
  have hfree := releaseGripper_sameStations s
  unfold dropBoard
  split
  · exact hfree.then_keeps (keeps_abandonPick _ h)
  · split
    · exact hfree.then_keeps (keeps_abandonPick _ h)
    · exact (hfree.keeps.then_same (sameStations_setBoardState _ h .suspect)).trans (keeps_reportFault _ _)
  · exact hfree.then_keeps ((keeps_loseBoard _ h).trans (keeps_reportFault _ _))
  all_goals exact hfree.keeps

theorem dropped_keeps (entry site : Byte) (s : State) : KeepsStations s (dropped entry site s).1 := by
  unfold dropped
  split
  · exact dropBoard_keeps s _ _
  · exact .refl s

theorem expireBoard_keeps (s : State) (h : BoardHandle) (b : BoardRecord) : KeepsStations s (expireBoard s h b) := by
  have hsuspect := (sameStations_setBoardState s h .suspect).keeps
  unfold expireBoard
  split
  case h_1 => exact (keeps_abandonPick s h).trans (keeps_reportFault _ _)
  case h_2 => exact hsuspect.trans (keeps_reportFault _ _)
  case h_3 => exact hsuspect.trans (keeps_reportFault _ _)
  all_goals exact .refl s

theorem expireGripper_keeps (s : State) : KeepsStations s (expireGripper s) := by
  unfold expireGripper
  split
  · split
    · next h b _ _ =>
      have hstalled : SameStations s { s with gripper := ⟨.stalled, none, none⟩ } := ⟨rfl, rfl, rfl, rfl⟩
      exact (hstalled.then_keeps (expireBoard_keeps _ h b)).then_same (sameStations_raise _ _)
    · exact (releaseGripper_sameStations s).keeps
  · exact .refl s

/-! ### The vision line (R38, R63) -/

theorem checkFiducial_keeps (s : State) (e : Fin 4) (p : Panel) (r : Recipe) (f1m f2m : Point) :
    KeepsStations s (checkFiducial s e p r f1m f2m).1 := by
  simp only [checkFiducial, rejectRange]
  repeat' split
  case isFalse.isFalse.isFalse.isFalse => exact SameStations.keeps ⟨rfl, rfl, rfl, rfl⟩
  all_goals exact keeps_reportFault s _

theorem fiducial_keeps (entry : Byte) (f1m f2m : Point) (s : State) : KeepsStations s (fiducial entry f1m f2m s).1 := by
  unfold fiducial
  repeat' split
  case h_2 => exact checkFiducial_keeps s _ _ _ f1m f2m
  all_goals exact .refl s

/-- A SITE-MARK leaves the lines and the hold, or it begins a hold without an answer (R63, R75). -/
theorem siteMark_keeps (entry site verdict : Byte) (s : State) :
    KeepsStations s (siteMark entry site verdict s).1
      ∨ ∃ h request, siteMark entry site verdict s = (s.beginHold h request, none) := by
  have hsame : ∀ {r : State × Option Reply}, SameStations s r.1 →
      KeepsStations s r.1 ∨ ∃ h request, r = (s.beginHold h request, none) := fun h => .inl h.keeps
  unfold siteMark
  split
  · exact hsame (.refl s)
  split
  · exact hsame (.refl s)
  split
  · exact hsame (.refl s)
  split
  · split
    · exact .inr ⟨_, _, rfl⟩
    · exact hsame (by simp [SameStations])
  split
  · exact hsame (by simp [SameStations])
  · exact hsame (.refl s)

/-! ### The elevator (R150 to R153) -/

theorem giveIndex_keeps {s : State} {b : Fin 4} (hst : s.bays[b].state = .indexWanted) (report : BayReport) :
    KeepsStations s (s.giveAction b .index report).1 := by
  unfold State.giveAction
  split
  · exact .refl s
  · exact keeps_setBay (bayKept_startIndex hst _)

/-- An EXCHANGE is given to a FULL bay into outgoing room, and to an EMPTY one, which has nothing to send (R150). -/
theorem giveExchange_keeps {s : State} {b : Fin 4}
    (hst : (s.bays[b].state = .full ∧ s.hasOutgoingRoom = true) ∨ s.bays[b].state = .empty) (report : BayReport) :
    KeepsStations s (s.giveAction b .exchange report).1 := by
  unfold State.giveAction
  split
  · exact .refl s
  · refine ⟨rfl, rfl, fun hs => baysSound_exchange hs (baySound_startExchange (hs.1 b) (hst.imp_left And.left) _) rfl ?_⟩
    have hsends : (s.bays[b].start .exchange s.settings.actionTimeout).sends = s.bays[b].current.isSome := rfl
    rw [hsends]
    rcases hst with ⟨-, hroom⟩ | hempty
    · have := (hasOutgoingRoom_iff s).1 hroom
      have := Bool.toNat_le s.bays[b].current.isSome
      omega
    · rw [(hs.1 b).current_of_empty hempty]
      exact Nat.le_add_right_of_le hs.2

theorem pollBay_keeps (s : State) (b : Fin 4) : KeepsStations s (pollBay s b).1 := by
  unfold pollBay
  dsimp only
  split
  case h_1 hst => exact giveIndex_keeps hst _
  case h_4 hst =>
    split
    · exact (sameStations_raise s _).keeps
    split
    next hroom => exact giveExchange_keeps (.inl ⟨hst, hroom⟩) _
    · exact (sameStations_raise s _).keeps
  case h_5 hst =>
    split
    · exact (sameStations_raise s _).keeps
    · exact giveExchange_keeps (.inr hst) _
  all_goals exact .refl s

theorem pollAll_keeps (s : State) (bays : List (Fin 4)) : KeepsStations s (pollAll s bays).1 := by
  induction bays generalizing s with
  | nil => exact .refl s
  | cons b rest ih => exact (pollBay_keeps s b).trans (ih _)

theorem doneIndex_keeps {s : State} {b : Fin 4} (ok : Bool) (ha : s.bays[b].action = some .index) :
    KeepsStations s (doneIndex s b ok) := by
  unfold doneIndex
  split
  · exact keeps_setBay (bayKept_indexed ha _)
  · exact keeps_failAction s b _ (.inl (by rw [ha]; rfl))

/-- The record sent out was about to go out (R152). -/
theorem doneExchange_keeps {s : State} {b : Fin 4} (ha : s.bays[b].action = some .exchange) :
    KeepsStations s (doneExchange s b) := by
  refine ⟨by simp [doneExchange], by simp [doneExchange], fun hs => ?_⟩
  refine baysSound_exchange hs (baySound_exchanged (hs.1 b) ha) (by simp) ?_
  have hsent : s.bays[b].sends = s.bays[b].current.isSome := by
    rw [Bay.sends, (hs.1 b).exchanging ha]
    rfl
  have hnone : s.bays[b].exchanged.sends = false := rfl
  have := hs.2
  rw [outgoing_sendOut, hsent, hnone]
  simp only [Bool.toNat_false]
  omega

theorem bayDone_keeps (bay action ok : Byte) (s : State) : KeepsStations s (bayDone bay action ok s).1 := by
  unfold bayDone
  split
  · unfold bayDoneIndex
    split
    · exact .refl s
    split
    next ha => exact doneIndex_keeps _ ha
    · exact .refl s
  split
  · unfold bayDoneExchange
    split
    · exact .refl s
    split
    next ha =>
      split
      · exact doneExchange_keeps ha
      · exact keeps_failAction s _ _ (.inl (by rw [ha]; rfl))
    · exact .refl s
  · exact .refl s

/-! ### Every request -/

theorem onSpindle_keeps (l : LineId) (r : Spindle → Request) (s : State) (hr : ∀ sp, KeepsStations s (r sp s).1) :
    KeepsStations s (onSpindle l r s).1 := by
  cases l
  case spindleA => exact hr .a
  case spindleB => exact hr .b
  all_goals exact .refl s

/-- Every request leaves the lines and the hold, but for a SITE-MARK that begins a hold. -/
theorem requestBlock_keeps (l : LineId) (name : RequestName) (f : List Byte) (s : State) :
    KeepsStations s (requestBlock l name f s).1
      ∨ name = .siteMark ∧ ∃ h request, requestBlock l name f s = (s.beginHold h request, none) := by
  cases name
  case siteMark => exact (siteMark_keeps _ _ _ s).imp_right fun h => ⟨rfl, h⟩
  all_goals left
  case nextTab => exact onSpindle_keeps l _ s fun sp => (nextTab_sameStations sp s).keeps
  case tabDone => exact onSpindle_keeps l _ s fun sp => (tabDone_sameStations sp _ _ _ s).keeps
  case tabFault => exact onSpindle_keeps l _ s fun sp => tabFault_keeps sp _ _ _ _ s
  case progress => cases l <;> exact .refl s
  case nextPick => exact nextPick_keeps s
  case holdOn => exact (holdOn_sameStations _ _ s).keeps
  case placeCheck => exact (placeCheck_sameStations _ _ s).keeps
  case placed => exact placed_keeps _ _ _ _ s
  case dropped => exact dropped_keeps _ _ s
  case fiducial => exact fiducial_keeps _ _ _ s
  case bayPoll => exact pollAll_keeps s bayNumbers
  case bayDone => exact bayDone_keeps _ _ _ s

end Sys2Proof.Machine
end

section
/-! The station lines in every step (R84 to R87): the bound of each answer queue and where a request is held, through the
receiver, the answers and the holds. With the bays they stay sound through every arrival, every event and every step. -/

namespace Sys2Proof.Machine

/-! ### One line -/

/-- The answers a line's queue may hold: the vision line has a fifth place for the answer to the request it held (R87). -/
def queueBound (holding : Bool) (l : LineId) : Nat := if l = .vision ∧ holding = false then 5 else 4

theorem four_le_queueBound (holding : Bool) (l : LineId) : 4 ≤ queueBound holding l := by
  unfold queueBound
  split <;> omega

theorem queueBound_other (holding : Bool) {l : LineId} (hl : l ≠ .vision) : queueBound holding l = 4 := by
  simp [queueBound, hl]

theorem queueBound_vision (holding : Bool) : queueBound holding .vision = if holding then 4 else 5 := by
  cases holding <;> rfl

/-- What `LinesSound` asks of one line, with the Verdict Hold HOLDING or not (R84, R87). -/
def LineSound (holding : Bool) (l : LineId) (r : Line) : Prop :=
  r.queue.length ≤ queueBound holding l ∧ r.held.isSome = (decide (l = .vision) && holding)

theorem isHolding_iff (h : VerdictHold) : h.isHolding = true ↔ h ≠ .empty := by
  cases h <;> simp [VerdictHold.isHolding]

theorem linesSound_iff (s : State) : LinesSound s ↔ ∀ l, LineSound s.hold.isHolding l (s.line l) := by
  have hvision : LineSound s.hold.isHolding .vision (s.line .vision) ↔
      (s.line .vision).queue.length ≤ (if s.hold.isHolding then 4 else 5)
        ∧ (s.line .vision).held.isSome = s.hold.isHolding := by
    simp [LineSound, queueBound_vision]
  have hother : ∀ l, l ≠ .vision →
      (LineSound s.hold.isHolding l (s.line l) ↔ (s.line l).queue.length ≤ 4 ∧ (s.line l).held = none) := fun l hl => by
    simp [LineSound, queueBound_other _ hl, hl]
  constructor
  · rintro ⟨hfive, hfour, hheld, hothers⟩ l
    by_cases hl : l = .vision
    · subst hl
      rw [← isHolding_iff, ← Bool.eq_iff_iff] at hheld
      refine hvision.2 ⟨?_, hheld⟩
      split
      next hh => exact hfour (hheld.trans hh)
      · exact hfive
    · exact (hother l hl).2 (hothers l hl)
  · intro h
    obtain ⟨hqueue, hheld⟩ := hvision.1 (h .vision)
    refine ⟨hqueue.trans (by split <;> omega), fun hh => ?_, by rw [hheld, isHolding_iff], fun l hl => (hother l hl).1 (h l)⟩
    rwa [if_pos (hheld ▸ hh)] at hqueue

/-- A changed line with no more answers queued and the same request held. -/
theorem LineSound.of_le {holding : Bool} {l : LineId} {r q : Line} (h : LineSound holding l r)
    (hqueue : q.queue.length ≤ r.queue.length) (hheld : q.held = r.held) : LineSound holding l q :=
  ⟨hqueue.trans h.1, hheld ▸ h.2⟩

/-- An answer joins a queue of fewer than four (R86, R87). -/
theorem LineSound.append {holding : Bool} {l : LineId} {r : Line} (h : LineSound holding l r) (hqueue : r.queue.length < 4)
    (f : Frame) : LineSound holding l (r.append f) := by
  refine ⟨?_, h.2⟩
  have := four_le_queueBound holding l
  simp only [Line.append, List.length_append, List.length_singleton]
  omega

/-- Completing a frame leaves no more answers queued and holds the same request. -/
theorem LineSound.pump_idle {holding : Bool} {l : LineId} {r : Line} (h : LineSound holding l r) :
    LineSound holding l r.pump.receiverIdle :=
  h.of_le (pump_queue_le r) (pump_fields r).2.2.2

/-- The end of a transmission lets the next answer follow. -/
theorem LineSound.transmitted {holding : Bool} {l : LineId} {r : Line} (h : LineSound holding l r) :
    LineSound holding l ({ r.pump with tx := none } : Line).pump :=
  h.of_le ((pump_queue_le _).trans (pump_queue_le r)) ((pump_fields _).2.2.2.trans (pump_fields r).2.2.2)

/-! ### The lines of the part -/

/-- The lines and the bays are sound: the invariant of R84, R87, R142 and R150. -/
def StationsSound (s : State) : Prop := LinesSound s ∧ BaysSound s

theorem KeepsStations.linesSound {s t : State} (h : KeepsStations s t) (hs : LinesSound s) : LinesSound t := by
  rw [linesSound_iff] at hs ⊢
  rw [h.hold]
  simpa only [State.line, h.lines] using hs

theorem KeepsStations.sound {s t : State} (h : KeepsStations s t) (hs : StationsSound s) : StationsSound t :=
  ⟨h.linesSound hs.1, h.bays hs.2⟩

theorem SameStations.sound {s t : State} (h : SameStations s t) (hs : StationsSound s) : StationsSound t := h.keeps.sound hs

/-- A line written. -/
theorem sound_setLine {s : State} {l : LineId} {r : Line}
    (hr : LineSound s.hold.isHolding l (s.line l) → LineSound s.hold.isHolding l r) (hs : StationsSound s) :
    StationsSound (s.setLine l r) := by
  refine ⟨?_, hs.2⟩
  have hlines := (linesSound_iff s).1 hs.1
  refine (linesSound_iff _).2 fun m => ?_
  change LineSound s.hold.isHolding m _
  by_cases hm : l = m
  · subst hm
    rw [line_setLine]
    exact hr (hlines l)
  · rw [line_setLine_ne s l m r hm]
    exact hlines m

theorem sound_sendAnswer {s : State} {l : LineId} (f : Frame) (hqueue : (s.line l).queue.length < 4) (hs : StationsSound s) :
    StationsSound (s.sendAnswer l f) :=
  sound_setLine (fun h => h.append hqueue f) hs

theorem sound_frameComplete (s : State) (l : LineId) (hs : StationsSound s) : StationsSound (s.frameComplete l) :=
  sound_setLine LineSound.pump_idle hs

theorem sound_dropFrame (s : State) (l : LineId) (hs : StationsSound s) : StationsSound (s.dropFrame l) :=
  sound_setLine id hs

theorem sound_endTransmission (l : LineId) (s : State) (hs : StationsSound s) : StationsSound (endTransmission l s) :=
  sound_setLine LineSound.transmitted hs

theorem sound_expireGap (l : LineId) (s : State) (hs : StationsSound s) : StationsSound (expireGap l s) := by
  unfold expireGap
  split
  · split
    · exact sound_dropFrame s l hs
    · exact hs
  · exact hs

/-! ### Holds (R75 to R77, R89) -/

/-- A hold begins and ends on the vision line alone: the others are sound with it as without it. -/
theorem LineSound.other {holding : Bool} {l : LineId} {r : Line} (h : LineSound holding l r) (hl : l ≠ .vision) (b : Bool) :
    LineSound b l r := by
  refine ⟨?_, by simpa [hl] using h.2⟩
  rw [queueBound_other b hl, ← queueBound_other holding hl]
  exact h.1

/-- The hold and the vision line written together. -/
theorem sound_setHold {s t : State} {r : Line} (hlines : t.lines = s.lines.set LineId.vision.idx r)
    (hbays : t.bays = s.bays) (hout : t.outgoing = s.outgoing)
    (hr : LineSound s.hold.isHolding .vision (s.line .vision) → LineSound t.hold.isHolding .vision r)
    (hs : StationsSound s) : StationsSound t := by
  have hline : ∀ m, t.line m = (s.setLine .vision r).line m := fun m => by simp only [State.line, hlines, setLine_fields]
  refine ⟨(linesSound_iff t).2 fun m => ?_, by simpa only [BaysSound, sendingOut, hbays, hout] using hs.2⟩
  have hsound := (linesSound_iff s).1 hs.1 m
  rw [hline]
  by_cases hm : m = .vision
  · subst hm
    rw [line_setLine]
    exact hr hsound
  · rw [line_setLine_ne s _ _ _ (Ne.symm hm)]
    exact hsound.other hm _

/-- A request is held where fewer than four answers are queued (R86, R89). -/
theorem sound_beginHold {s : State} (h : BoardHandle) (request : Frame) (hqueue : (s.line .vision).queue.length < 4)
    (hs : StationsSound s) : StationsSound (s.beginHold h request) := by
  refine sound_setHold (s := s) (r := { s.line .vision with held := some request }) ?_ (by simp [State.beginHold])
    (by simp [State.beginHold]) (fun _ => ⟨hqueue.le.trans (four_le_queueBound _ _), rfl⟩) hs
  simp [State.beginHold, State.line]

/-- The held request's answer takes the fifth place (R87, R89). -/
theorem sound_releaseHeld {s : State} (h : BoardHandle) (code : StationCode) (v : Verdict) (hh : s.hold.isHolding = true)
    (hs : StationsSound s) : StationsSound (s.releaseHeld h code v) := by
  refine sound_setHold (s := s)
    (r := ({ s.line .vision with held := none } : Line).append
      (Reply.frame RequestName.siteMark.byte ⟨code, boardHandleBytes h ++ u8 v.code⟩)) ?_ (by simp) (by simp)
    (fun hvision => ⟨?_, rfl⟩) hs
  · simp [State.releaseHeld, State.sendAnswer]
  · have hfour := hvision.1
    rw [hh, queueBound_vision] at hfour
    change _ ≤ 5
    simpa [Line.append, Nat.lt_succ_iff] using hfour

/-! ### DECIDE and the hold timer (R76, R77) -/

theorem settleVerdict_sameStations (s : State) (h : BoardHandle) (v : Verdict) : SameStations s (s.settleVerdict h v) := by
  simp [SameStations]

theorem isHolding_of_holds {v : VerdictHold} {h : BoardHandle} (hh : v.holds h = true) : v.isHolding = true := by
  cases v with
  | empty => cases hh
  | holding _ _ => rfl

theorem decideVerdict_sound (entry site verdict : Byte) (s : State) (hs : StationsSound s) :
    StationsSound (decideVerdict entry site verdict s).1 := by
  have hsettled : ∀ h v, StationsSound (s.settleVerdict h v) := fun h v => (settleVerdict_sameStations s h v).sound hs
  simp only [decideVerdict]
  repeat' split
  case h_2.isFalse.isTrue hheld => exact sound_releaseHeld _ _ _ (by simpa using isHolding_of_holds hheld) (hsettled _ _)
  case h_2.isFalse.isFalse => exact hsettled _ _
  all_goals exact hs

theorem expireHold_sound (s : State) (hs : StationsSound s) : StationsSound (expireHold s) := by
  unfold expireHold
  split
  · next h timer hhold =>
    split
    · refine (sameStations_raise _ _).sound (sound_releaseHeld _ _ _ ?_ ((settleVerdict_sameStations s h _).sound hs))
      simp [hhold, VerdictHold.isHolding]
    · exact hs
  · exact hs

/-! ### The restarts (R94, R95, R141, R162) -/

/-- A hold that is over and lines with nothing held. -/
theorem linesSound_of_idle {s : State} (hhold : s.hold = .empty) (h : ∀ l, (s.line l).queue = [] ∧ (s.line l).held = none) :
    LinesSound s := by
  refine (linesSound_iff s).2 fun l => ?_
  obtain ⟨hqueue, hheld⟩ := h l
  simp [LineSound, hqueue, hheld, hhold, VerdictHold.isHolding]

theorem baySound_cold : BaySound Bay.cold := by simp [BaySound, Bay.cold]

theorem coldValues_sound (s : State) : StationsSound (coldValues s) := by
  have hroom : State.reset.outgoing.length + sendingOut State.reset ≤ 4 := by decide
  refine ⟨linesSound_of_idle rfl fun l => ?_, fun b => ?_, hroom⟩
  · cases l <;> exact ⟨rfl, rfl⟩
  · have hb : (coldValues s).bays[b] = Bay.cold := by simp [coldValues, State.reset]
    exact hb ▸ baySound_cold

theorem coldRestart_sound (s : State) : StationsSound (coldRestart s) :=
  ⟨linesSound_of_idle rfl fun l => by simp [State.line, coldRestart, Line.restarted, Line.cold], (coldValues_sound s).2⟩

/-- A cancelled reservation takes a bay from INDEX-WANTED at most (R145). -/
theorem cancelReservation_state (s : State) (h : BoardHandle) (b : Fin 4) :
    (s.cancelReservation h).bays[b].state = s.bays[b].state ∨ s.bays[b].state = .indexWanted := by
  unfold State.cancelReservation
  split
  · split
    · next r _ =>
      by_cases hb : r.bay = b
      · subst hb
        simp only [modifyBoard_fields, bay_setBay, Bay.leaveIndexWanted]
        split
        next hwanted => exact .inr hwanted
        · exact .inl rfl
      · simp only [modifyBoard_fields, bay_setBay_ne _ _ _ _ hb, true_or]
    · exact .inl rfl
  · exact .inl rfl

theorem cancelTargeted_keeps (s : State) : KeepsStations s s.cancelTargeted
    ∧ ∀ b : Fin 4, s.cancelTargeted.bays[b].state = s.bays[b].state ∨ s.bays[b].state = .indexWanted := by
  unfold State.cancelTargeted
  induction s.targetedBoards generalizing s with
  | nil => exact ⟨.refl s, fun b => .inl rfl⟩
  | cons h rest ih =>
    obtain ⟨hkeeps, hstate⟩ := ih (s.cancelReservation h)
    refine ⟨(keeps_cancelReservation s h).trans hkeeps, fun b => ?_⟩
    have hb := cancelReservation_state s h b
    rcases hstate b with hrest | hrest
    · rwa [List.foldl_cons, hrest]
    · exact .inr (hb.elim (fun heq => heq.symm.trans hrest) id)

/-- Every bay of a warm restart (R162). -/
theorem bay_warmBays (s : State) (b : Fin 4) :
    s.warmBays.bays[b] = s.cancelTargeted.bays[b].warm s.bays[b].state (s.cancelTargeted.reservedHead b) := by
  fin_cases b <;> simp [State.warmBays, bayNumbers]

theorem warmRestart_sound (s : State) (hs : StationsSound s) : StationsSound (warmRestart s) := by
  obtain ⟨hkeeps, hstate⟩ := cancelTargeted_keeps s
  have hcancelled := hkeeps.bays hs.2
  have hwarm : ∀ b : Fin 4, BaySound (warmRestart s).bays[b] ∧ (warmRestart s).bays[b].sends = false := fun b => by
    change BaySound s.warmBays.bays[b] ∧ s.warmBays.bays[b].sends = false
    rw [bay_warmBays]
    exact baySound_warm (hcancelled.1 b) _ (hstate b)
  refine ⟨linesSound_of_idle rfl fun l => by simp [State.line, warmRestart, Line.restarted, Line.cold],
    fun b => (hwarm b).1, ?_⟩
  have hout : (warmRestart s).outgoing = s.cancelTargeted.outgoing := by
    simp [warmRestart, State.warmPanels, State.warmBays, bayNumbers]
  have hsent : sendingOut (warmRestart s) ≤ sendingOut s.cancelTargeted :=
    sendingOut_le fun b hb => nomatch (hwarm b).2.symm.trans hb
  have := hcancelled.2
  rw [hout]
  omega

theorem restart_sound (form : Byte) (s : State) (hs : StationsSound s) : StationsSound (restart form s).1 := by
  unfold restart restartWarm
  repeat' split
  case isTrue.isFalse => exact warmRestart_sound s hs
  case isFalse.isTrue => exact coldRestart_sound s
  all_goals exact hs

theorem assertReset_sound (s : State) (hs : StationsSound s) : StationsSound (assertReset s) := by
  refine ⟨(linesSound_iff _).2 fun l => ?_, hs.2⟩
  have hl : (assertReset s).line l = { s.line l with tx := none } := by simp [State.line, assertReset]
  rw [hl]
  exact (linesSound_iff s).1 hs.1 l

/-! ### Arrivals at the port (R187) -/

theorem commandOn_sound (name : CommandName) (p : List Byte) (s : State) (hs : StationsSound s) :
    StationsSound (commandOn name p s).1 := by
  by_cases hw : name.writesStations = true
  · cases name
    case decide => exact decideVerdict_sound _ _ _ s hs
    case restart => exact restart_sound _ s hs
    case boardResolve => exact (boardResolve_keeps _ _ _ s).sound hs
    case magStage => exact (magStage_keeps _ _ _ _ _ s).sound hs
    case magGo => exact (magGo_keeps _ s).sound hs
    case magUnstage => exact (magUnstage_keeps _ s).sound hs
    case magRelease => exact (magRelease_keeps _ s).sound hs
    case bayExchange => exact (bayExchange_keeps _ s).sound hs
    case bayClear => exact (bayClear_keeps _ _ s).sound hs
    all_goals cases hw
  · exact (commandOn_sameStations name p s (by simpa using hw)).sound hs

theorem acceptFrame_sound (s : State) (name : CommandName) (p : List Byte) (hs : StationsSound s) :
    StationsSound (s.acceptFrame name (commandBlock name p)) := by
  simp only [State.acceptFrame, commandBlock]
  split
  · exact hs
  split
  · next c hc =>
    obtain ⟨-, hc⟩ := Option.ite_none_right_eq_some.1 hc
    obtain rfl := Option.some.inj hc
    have hcmd := commandOn_sound name p { s with ovr := false } hs
    unfold State.deliver
    split
    · next t a ht => rw [ht] at hcmd; exact hcmd
    · next t ht => rw [ht] at hcmd; exact hcmd
  · exact hs

theorem takeCommandOr_sound (s : State) (name : CommandName) (p : List Byte) (hs : StationsSound s) :
    StationsSound (s.takeCommandOr name (commandBlock name p)) := by
  unfold State.takeCommandOr
  split
  · exact hs
  split
  · exact hs
  · exact acceptFrame_sound s name p hs

theorem transact_sound (bytes : List Byte) (s : State) (hs : StationsSound s) : StationsSound (transact bytes s) := by
  simp only [transact, examineFrame]
  repeat' split
  case h_2 name _ => exact acceptFrame_sound s name _ hs
  all_goals exact hs

/-! ### Arrivals on the station lines (R85 to R90) -/

/-- SITE-MARK is a code of the vision line (R88). -/
theorem line_of_siteMark {l : LineId} {code : Byte} (h : requestOf l code = some .siteMark) : l = .vision := by
  have hmem := List.mem_of_find?_eq_some h
  cases l <;> simp_all [lineRequests]

theorem line_of_siteMarkRow {c : Instr} {l : LineId} {f : List Byte} (h : stationRequest c = some (l, .siteMark, f)) :
    l = .vision := by
  cases c
  case progress l => cases l <;> cases h
  all_goals cases h <;> rfl

/-- A request examined (R86): an answer joins a queue with room, or the request is held. -/
theorem examine_sound (s : State) (l : LineId) (code : Byte) (name : RequestName) (f : List Byte)
    (hvision : name = .siteMark → l = .vision) (hs : StationsSound s) :
    StationsSound (s.examine l code (requestBlock l name f)) := by
  unfold State.examine
  split
  · exact hs
  next hfull =>
    have hqueue : (s.line l).queue.length < 4 := not_le.1 hfull
    split
    · exact sound_sendAnswer _ hqueue hs
    split
    · exact sound_sendAnswer _ hqueue hs
    have hreloaded : SameStations s (s.reloadWatchdog l) := by simp [SameStations]
    rcases requestBlock_keeps l name f (s.reloadWatchdog l) with hkeeps | ⟨rfl, h, request, heq⟩
    · have hreq := hreloaded.then_keeps hkeeps
      split
      · next t r ht =>
        rw [ht] at hreq
        have hlines : t.lines = s.lines := hreq.lines
        exact sound_sendAnswer _ (by simpa only [State.line, hlines] using hqueue) (hreq.sound hs)
      · next t ht => rw [ht] at hreq; exact hreq.sound hs
    · obtain rfl := hvision rfl
      rw [heq]
      exact sound_beginHold h request hqueue (hreloaded.sound hs)

theorem takeRequest_sound (s : State) (l : LineId) (name : RequestName) (f : List Byte)
    (hvision : name = .siteMark → l = .vision) (hs : StationsSound s) :
    StationsSound (s.takeRequest l name (requestBlock l name f)) := by
  unfold State.takeRequest
  split
  · exact hs
  · exact examine_sound _ l _ name f hvision (sound_frameComplete s l hs)

theorem answerUnknown_sound (s : State) (l : LineId) (code : Byte) (hs : StationsSound s) :
    StationsSound (s.answerUnknown l code) := by
  unfold State.answerUnknown
  split
  · exact hs
  next hfull => exact sound_sendAnswer _ (not_le.1 hfull) hs

theorem frameArrives_sound (l : LineId) (bytes : List Byte) (s : State) (hs : StationsSound s) :
    StationsSound (frameArrives l bytes s) := by
  have hcomplete := sound_frameComplete s l hs
  unfold frameArrives State.examineBytes
  split
  · split
    · split
      · exact hcomplete
      split
      · exact answerUnknown_sound _ l _ hcomplete
      next name hname =>
        split
        · exact hcomplete
        · exact examine_sound _ l _ name _ (fun h => line_of_siteMark (h ▸ hname)) hcomplete
    · exact hcomplete
    · exact hcomplete
  · exact hs

theorem receiveByte_sound (l : LineId) (byte : Byte) (framingError : Bool) (s : State) (hs : StationsSound s) :
    StationsSound (receiveByte l byte framingError s) := by
  have hline : ∀ r : Line, r.queue = (s.line l).queue → r.held = (s.line l).held → StationsSound (s.setLine l r) :=
    fun r hqueue hheld => sound_setLine (fun h => h.of_le (by rw [hqueue]) hheld) hs
  simp only [receiveByte]
  split
  · split
    · exact hline _ rfl rfl
    · exact hs
  · split
    · exact sound_dropFrame s l hs
    · exact hline _ rfl rfl
  · split
    · exact sound_dropFrame s l hs
    split
    · exact frameArrives_sound l _ s hs
    · exact hline _ rfl rfl

/-! ### Events inside the part -/

theorem endValidation_sameStations (s : State) : SameStations s (endValidation s) := by
  unfold endValidation
  repeat' split
  all_goals exact .refl s

theorem visitZone_sameStations (e : Fin 4) (s : State) : SameStations s (visitZone e s) := by
  unfold visitZone
  repeat' split
  all_goals exact .refl s

theorem visitPickPoint_sameStations (e : Fin 4) (s : State) : SameStations s (visitPickPoint e s) := by
  unfold visitPickPoint
  repeat' split
  all_goals simp [SameStations]

theorem visitTab_sameStations (e : Fin 4) (s : State) : SameStations s (visitTab e s) := by
  unfold visitTab
  repeat' split
  all_goals simp [SameStations]

theorem endRun_sameStations (e : Fin 4) (s : State) : SameStations s (endRun e s) := by
  unfold endRun
  split
  · split
    · simp only [SameStations, clearingTest_fields]
      split <;> simp
    · exact .refl s
  · exact .refl s

theorem isSome_of_due {t : Timer} (h : t.due = true) : t.isSome = true := by
  cases t with
  | none => cases h
  | some n => rfl

theorem expireAction_keeps (b : Fin 4) (s : State) : KeepsStations s (expireAction b s) := by
  unfold expireAction
  split
  next hdue => exact keeps_failAction s b _ (.inr (isSome_of_due hdue.1))
  · exact .refl s

theorem expireSettle_keeps (b : Fin 4) (s : State) : KeepsStations s (expireSettle b s) := by
  unfold expireSettle
  split
  next hdue => exact keeps_setBay (bayKept_settled _ (isSome_of_due hdue))
  · exact .refl s

theorem expireWindow_keeps (b : Fin 4) (s : State) : KeepsStations s (expireWindow b s) := by
  unfold expireWindow
  split
  · split
    · exact keeps_expireConfirm s b _
    · exact .refl s
  · exact .refl s

/-- Every edge goes to its block (R164): a clamp may report a fault, a bay sensor may confirm a placement. -/
theorem takeEdge_keeps (s : State) (i : Fin 7) (level : Bool) : KeepsStations s (s.takeEdge i level) := by
  have hclamp : ∀ f, KeepsStations s (s.clampEdge f level) := fun f => by
    unfold State.clampEdge State.clampFalls
    split
    · exact .refl s
    split
    · exact keeps_reportFault s _
    · exact (sameStations_raise s _).keeps
  have hsensor : ∀ b, KeepsStations s (s.sensorEdge b level) := fun b => by
    unfold State.sensorEdge
    split
    · exact keeps_confirmPlacement s b
    · exact .refl s
  match i with
  | 0 => exact SameStations.keeps ⟨rfl, rfl, rfl, rfl⟩
  | 1 | 2 => exact hclamp _
  | 3 | 4 | 5 | 6 => exact hsensor _

theorem takeEdges_keeps (s : State) (after : Vector FilterRecord 7) (found : List (Fin 7)) :
    KeepsStations s (s.takeEdges after found) := by
  induction found generalizing s with
  | nil => exact .refl s
  | cons i rest ih => exact (takeEdge_keeps s i _).trans (ih _)

theorem sampleInputs_keeps (s : State) : KeepsStations s (sampleInputs s) := by
  unfold sampleInputs
  refine SameStations.then_keeps ?_ (takeEdges_keeps _ _ _)
  exact ⟨rfl, rfl, rfl, rfl⟩

theorem samplePins_keeps (raw : BitVec 7) (s : State) : KeepsStations s (samplePins raw s) := by
  simp only [samplePins]
  split
  · refine SameStations.then_keeps ?_ (sampleInputs_keeps _)
    exact ⟨rfl, rfl, rfl, rfl⟩
  · exact SameStations.keeps ⟨rfl, rfl, rfl, rfl⟩

theorem takeEvent_sound {s : State} {event : State → State} (he : StationsSound s → StationsSound (event s))
    (hs : StationsSound s) : StationsSound (s.takeEvent event) := by
  unfold State.takeEvent
  split
  · exact hs
  · exact he hs

/-! ### A tick -/

theorem tick_sound (s : State) (hs : StationsSound s) : StationsSound (tick s) := by
  unfold tick
  split
  · exact hs
  refine ⟨(linesSound_iff _).2 fun l => ?_, ?_⟩
  · have hhold : s.hold.countTimer.isHolding = s.hold.isHolding := by cases s.hold <;> rfl
    change LineSound s.hold.countTimer.isHolding l (mapVec Line.tick s.lines)[l.idx]
    rw [hhold, mapVec_get]
    exact ((linesSound_iff s).1 hs.1 l).of_le (pump_queue_le _) (pump_fields _).2.2.2
  · refine baysSound_of_kept (s := s) (fun b => ?_) (Nat.le_refl _) hs.2
    change BayKept _ (mapVec (Bay.countTimers _) s.bays)[b]
    rw [mapVec_get]
    exact bayKept_countTimers _ _

/-! ### Every step -/

/-- A row that stands for a frame is taken as its frame is. -/
theorem exec_frame_sound {c : Instr} (h : ((hostCommand c).isSome || (stationRequest c).isSome) = true) (s : State)
    (hs : StationsSound s) : ∃ t, exec c s = .next t ∧ StationsSound t := by
  rcases Bool.or_eq_true_iff.1 h with hhost | hstation
  · obtain ⟨name, hname⟩ := Option.isSome_iff_exists.1 hhost
    exact ⟨_, exec_host_frame hname s, takeCommandOr_sound s name _ hs⟩
  · obtain ⟨⟨l, name, f⟩, hname⟩ := Option.isSome_iff_exists.1 hstation
    exact ⟨_, exec_station_frame hname s,
      takeRequest_sound s l name f (fun hmark => line_of_siteMarkRow (hmark ▸ hname)) hs⟩

/-- PROGRESS on a line that has no such code is answered UNKNOWN (R86, R88). -/
theorem foreignProgress_sound (s : State) (l : LineId) (hs : StationsSound s) :
    StationsSound ((s.frameComplete l).answerUnknown l RequestName.progress.byte) :=
  answerUnknown_sound _ l _ (sound_frameComplete s l hs)

theorem exec_sound (c : Instr) (s : State) (hs : StationsSound s) : ∃ t, exec c s = .next t ∧ StationsSound t := by
  cases c
  case validationEnd => exact ⟨_, rfl, takeEvent_sound (endValidation_sameStations s).sound hs⟩
  case zoneVisit e => exact ⟨_, rfl, takeEvent_sound (visitZone_sameStations e s).sound hs⟩
  case pickPointVisit e => exact ⟨_, rfl, takeEvent_sound (visitPickPoint_sameStations e s).sound hs⟩
  case tabVisit e => exact ⟨_, rfl, takeEvent_sound (visitTab_sameStations e s).sound hs⟩
  case correctionRunEnd e => exact ⟨_, rfl, takeEvent_sound (endRun_sameStations e s).sound hs⟩
  case holdExpiry => exact ⟨_, rfl, takeEvent_sound (expireHold_sound s) hs⟩
  case gapTimerExpiry l => exact ⟨_, rfl, takeEvent_sound (sound_expireGap l s) hs⟩
  case stationFrame l bytes => exact ⟨_, rfl, takeEvent_sound (frameArrives_sound l bytes s) hs⟩
  case stationLineByte l byte framingError => exact ⟨_, rfl, takeEvent_sound (receiveByte_sound l byte framingError s) hs⟩
  case frameTransmitted l => exact ⟨_, rfl, takeEvent_sound (sound_endTransmission l s) hs⟩
  case progress l =>
    cases l
    case vision => exact ⟨_, rfl, takeEvent_sound (foreignProgress_sound s .vision) hs⟩
    case elevator => exact ⟨_, rfl, takeEvent_sound (foreignProgress_sound s .elevator) hs⟩
    all_goals exact exec_frame_sound rfl s hs
  case spindleWatchdogExpiry sp => exact ⟨_, rfl, takeEvent_sound (expireSpindle_keeps sp s).sound hs⟩
  case gripperWatchdogExpiry => exact ⟨_, rfl, takeEvent_sound (expireGripper_keeps s).sound hs⟩
  case actionTimerExpiry b => exact ⟨_, rfl, takeEvent_sound (expireAction_keeps b s).sound hs⟩
  case settleTimerExpiry b => exact ⟨_, rfl, takeEvent_sound (expireSettle_keeps b s).sound hs⟩
  case confirmWindowExpiry b => exact ⟨_, rfl, takeEvent_sound (expireWindow_keeps b s).sound hs⟩
  case sample raw => exact ⟨_, rfl, takeEvent_sound (samplePins_keeps raw s).sound hs⟩
  case commandFrame bytes => exact ⟨_, rfl, takeEvent_sound (transact_sound bytes s) hs⟩
  case resetAssert => exact ⟨_, rfl, assertReset_sound s hs⟩
  case resetRelease => exact ⟨_, rfl, coldValues_sound s⟩
  case powerOn => exact ⟨_, rfl, coldValues_sound s⟩
  all_goals exact exec_frame_sound rfl s hs

/-- Settles O56: a frame, an event or a tick changes one line or some bays, each of which stays sound. -/
theorem linesAndBaysStaySound : Obligations.LinesAndBaysStaySound := by
  intro s t hs hstep
  change StationsSound t
  unfold step at hstep
  split at hstep
  · next c rest _ =>
    obtain ⟨u, hu, hsound⟩ := exec_sound c { s with pending := rest } hs
    exact Host.Outcome.next.inj (hu.symm.trans hstep) ▸ hsound
  · exact Host.Outcome.next.inj hstep ▸ tick_sound s hs

end Sys2Proof.Machine
end

section
/-! The station lines one event at a time (R85 to R90): the requests that a line turns away, what a byte does in each state of the
receiver, the gap timer and the transmitter. Before them the step itself (R88). -/

namespace Sys2Proof.Machine

/-! ### The front of the queue -/

/-- Settles O1: the step of a queue that is not empty. -/
theorem stepTakesFrontCommand : Obligations.StepTakesFrontCommand := by
  intro c rest s hq
  rw [step, hq]

/-! ### A line written -/

@[simp] theorem setLine_setLine (s : State) (l : LineId) (r q : Line) : (s.setLine l r).setLine l q = s.setLine l q := by
  simp [State.setLine]

@[simp] theorem setLine_line_self (s : State) (l : LineId) : s.setLine l (s.line l) = s := by
  simp [State.setLine, State.line]

/-! ### Requests turned away (R86) -/

theorem queue_frameComplete (s : State) (l : LineId) : ((s.frameComplete l).line l).queue = (s.line l).pump.queue := by
  rw [line_frameComplete]

/-- Test 4: with four answers queued the frame is dropped. -/
theorem takeRequest_full (s : State) (l : LineId) (name : RequestName) (request : Request) (hr : s.resetAsserted = false)
    (hq : 4 ≤ (s.line l).pump.queue.length) : s.takeRequest l name request = s.frameComplete l := by
  have hfull : Config.queueRoom ≤ ((s.frameComplete l).line l).queue.length := queue_frameComplete s l ▸ hq
  simp [State.takeRequest, hr, State.examine, hfull]

/-- Test 5: behind a held request the line answers BUSY HELD (R89). -/
theorem takeRequest_held (s : State) (l : LineId) (name : RequestName) (request : Request) (hr : s.resetAsserted = false)
    (hq : (s.line l).pump.queue.length < 4) (hh : (s.line l).held ≠ none) :
    s.takeRequest l name request = (s.frameComplete l).sendAnswer l (busyHeld.frame name.byte) := by
  have hroom : ¬ Config.queueRoom ≤ ((s.frameComplete l).line l).queue.length := queue_frameComplete s l ▸ not_le.2 hq
  have hheld : ((s.frameComplete l).line l).held.isSome = true := by
    simpa [line_frameComplete, Option.isSome_iff_ne_none] using hh
  simp [State.takeRequest, hr, State.examine, hroom, hheld]

/-- Settles O9: tests 4 to 6 of R86 on the frame of the row. -/
theorem stationRequestsTurnedAway : Obligations.StationRequestsTurnedAway := by
  intro c l name fields s hrow hr
  rw [exec_station_frame hrow s]
  refine ⟨fun hq => ?_, fun hq hh => ?_, fun hq hh hl => ?_⟩
  · rw [takeRequest_full s l name _ hr hq]
  · rw [takeRequest_held s l name _ hr hq hh]
    rfl
  · rw [takeRequest_locked s l name _ hr hq hh hl]
    rfl

/-! ### The receiver (R85) -/

/-- A byte on a line while RESET is negated (R85). -/
theorem exec_byte {s : State} (hr : s.resetAsserted = false) (l : LineId) (byte : Byte) (err : Bool) :
    exec (.stationLineByte l byte err) s = .next (receiveByte l byte err s) :=
  congrArg Host.Outcome.next (takeEvent_taken s _ hr)

section

variable {s : State} {l : LineId}

theorem receiveByte_start (h : (s.line l).receiver = .hunt) : receiveByte l Config.startByte false s =
    s.setLine l { s.line l with receiver := .length, partialFrame := [], gap := some 0 } := by
  simp [receiveByte, h]

theorem receiveByte_noise {byte : Byte} {err : Bool} (h : (s.line l).receiver = .hunt)
    (hbyte : byte ≠ Config.startByte ∨ err = true) : receiveByte l byte err s = s := by
  simp only [receiveByte, h]
  exact if_neg (by rcases hbyte with hb | hb <;> simp [hb])

theorem badLength_iff (byte : Byte) : badLength byte = true ↔ byte.toNat = 0 ∨ 32 < byte.toNat := by
  simp [badLength, BitVec.toNat_eq]

theorem receiveByte_length {byte : Byte} (h : (s.line l).receiver = .length) (hlow : 1 ≤ byte.toNat)
    (hhigh : byte.toNat ≤ 32) : receiveByte l byte false s =
      s.setLine l { s.line l with receiver := .body, partialFrame := [byte], gap := some 0 } := by
  have hgood : ¬ (false = true ∨ badLength byte = true) := by
    rw [badLength_iff]
    simp
    omega
  simp only [receiveByte, h]
  exact if_neg hgood

theorem receiveByte_badLength {byte : Byte} {err : Bool} (h : (s.line l).receiver = .length)
    (hbad : err = true ∨ byte.toNat = 0 ∨ 32 < byte.toNat) : receiveByte l byte err s = s.dropFrame l := by
  simp only [receiveByte, h]
  exact if_pos (hbad.imp_right (badLength_iff byte).2)

theorem receiveByte_framingError {byte : Byte} (h : (s.line l).receiver = .body) :
    receiveByte l byte true s = s.dropFrame l := by
  simp [receiveByte, h]

theorem receiveByte_collects {byte : Byte} (h : (s.line l).receiver = .body)
    (hopen : bytesComplete ((s.line l).partialFrame ++ [byte]) = false) : receiveByte l byte false s =
      s.setLine l { s.line l with partialFrame := (s.line l).partialFrame ++ [byte], gap := some 0 } := by
  simp [receiveByte, h, hopen]

theorem receiveByte_completes {byte : Byte} (h : (s.line l).receiver = .body)
    (hdone : bytesComplete ((s.line l).partialFrame ++ [byte]) = true) :
    receiveByte l byte false s = frameArrives l ((s.line l).partialFrame ++ [byte]) s := by
  simp [receiveByte, h, hdone]

/-! ### The gap timer (R85) -/

theorem expireGap_last (h : (s.line l).gap = some 2) : expireGap l s = s.dropFrame l := by
  simp [expireGap, h, Config.gapTicks]

theorem expireGap_stopped (h : (s.line l).gap = none) : expireGap l s = s := by
  simp [expireGap, h]

theorem expireGap_early {n : Nat} (hn : n < 2) (h : (s.line l).gap = some n) : expireGap l s = s := by
  simp only [expireGap, h]
  exact if_neg (by simp [Config.gapTicks]; omega)

/-! ### The transmitter (R87) -/

theorem endTransmission_next {f g : Frame} {rest : List Frame} (ht : (s.line l).tx = some f)
    (hq : (s.line l).queue = g :: rest) : endTransmission l s = s.setLine l { s.line l with tx := some g, queue := rest } := by
  rw [endTransmission, pump_waits (s.line l) f ht]
  exact congrArg (s.setLine l) (pump_begins _ g rest rfl hq)

theorem endTransmission_last {f : Frame} (ht : (s.line l).tx = some f) (hq : (s.line l).queue = []) :
    endTransmission l s = s.setLine l { s.line l with tx := none } := by
  rw [endTransmission, pump_waits (s.line l) f ht]
  exact congrArg (s.setLine l) (pump_empty _ hq)

theorem endTransmission_idle (ht : (s.line l).tx = none) (hq : (s.line l).queue = []) : endTransmission l s = s := by
  have hself : ({ s.line l with tx := none } : Line) = s.line l := by rw [← ht]
  rw [endTransmission, pump_empty (s.line l) hq, hself, pump_empty (s.line l) hq, setLine_line_self]

/-- An answer that waits is taken as one that is being sent (log entry 29). -/
theorem endTransmission_begins {f : Frame} {rest : List Frame} (ht : (s.line l).tx = none) (hq : (s.line l).queue = f :: rest) :
    endTransmission l s = endTransmission l (s.setLine l { s.line l with tx := some f, queue := rest }) := by
  have hsending : ({ s.line l with tx := some f, queue := rest } : Line).pump = { s.line l with tx := some f, queue := rest } :=
    pump_waits _ f rfl
  rw [endTransmission, endTransmission, pump_begins (s.line l) f rest ht hq, line_setLine, hsending, setLine_setLine]

theorem frameComplete_begins {f : Frame} {rest : List Frame} (ht : (s.line l).tx = none) (hq : (s.line l).queue = f :: rest) :
    s.frameComplete l = s.setLine l ⟨.hunt, [], none, (s.line l).held, rest, some f⟩ := by
  rw [State.frameComplete, pump_begins _ f rest ht hq]
  rfl

theorem frameComplete_waits (h : (s.line l).tx ≠ none ∨ (s.line l).queue = []) :
    s.frameComplete l = s.setLine l ⟨.hunt, [], none, (s.line l).held, (s.line l).queue, (s.line l).tx⟩ := by
  have hpump : (s.line l).pump = s.line l := h.elim
    (fun ht => by
      obtain ⟨f, hf⟩ := Option.ne_none_iff_exists'.1 ht
      exact pump_waits _ f hf)
    (pump_empty _)
  rw [State.frameComplete, hpump]
  rfl

end

/-- Settles O13: the receiver by its states, the gap timer by its ticks, the transmitter by what is sent and what waits. -/
theorem linesReceiveAndTransmit : Obligations.LinesReceiveAndTransmit := by
  refine ⟨?_, fun l s hr => ?_⟩
  · intro l byte err s hr idle
    rw [exec_byte hr]
    refine ⟨?_, fun h hb => ?_, ?_, fun h hb => ?_, ?_, ?_, ?_⟩
    · rintro h rfl rfl
      exact congrArg _ (receiveByte_start h)
    · exact congrArg _ (receiveByte_noise h hb)
    · rintro h rfl hlow hhigh
      exact congrArg _ (receiveByte_length h hlow hhigh)
    · exact congrArg _ (receiveByte_badLength h hb)
    · rintro h rfl
      exact congrArg _ (receiveByte_framingError h)
    · rintro h rfl hopen
      exact congrArg _ (receiveByte_collects h hopen)
    · rintro h rfl hdone
      rw [receiveByte_completes h hdone]
      exact congrArg _ (takeEvent_taken s _ hr).symm
  · have hgap : exec (.gapTimerExpiry l) s = .next (expireGap l s) := congrArg _ (takeEvent_taken s _ hr)
    have hsent : ∀ t : State, t.resetAsserted = false → exec (.frameTransmitted l) t = .next (endTransmission l t) :=
      fun t ht => congrArg _ (takeEvent_taken t _ ht)
    rw [hgap, hsent s hr]
    refine ⟨fun h => ?_, fun h => ?_, fun n hn h => ?_, fun f g rest ht hq => ?_, fun f ht hq => ?_, fun ht hq => ?_,
      fun f rest ht hq => ?_, fun f => rfl, fun f rest ht hq => frameComplete_begins ht hq, frameComplete_waits⟩
    · exact congrArg _ (expireGap_last h)
    · exact congrArg _ (expireGap_stopped h)
    · exact congrArg _ (expireGap_early hn h)
    · exact congrArg _ (endTransmission_next ht hq)
    · exact congrArg _ (endTransmission_last ht hq)
    · exact congrArg _ (endTransmission_idle ht hq)
    · rw [hsent (s.setLine l _) hr]
      exact congrArg _ (endTransmission_begins ht hq)

end Sys2Proof.Machine
end

section
/-! Station frames (R85, R86, R194): the frame of a request is complete, its sum is 0 and its code and length are its row's, so that
it acts as its row whole or byte by byte; and what tests 1 to 3 of R86 drop or answer. -/

namespace Sys2Proof.Machine

/-! ### Check bytes (R86) -/

theorem sumBytes_append (bytes : List Byte) (b : Byte) : sumBytes (bytes ++ [b]) = sumBytes bytes + b := by
  simp [sumBytes]

/-- A frame with its check byte sums to 0. -/
theorem sumBytes_checkByte (bytes : List Byte) : sumBytes (bytes ++ [checkByte bytes]) = 0 := by
  rw [sumBytes_append, checkByte]
  exact BitVec.add_right_neg _

/-! ### Complete frames (R85) -/

theorem bytesComplete_cons (len : Byte) (rest : List Byte) :
    bytesComplete (len :: rest) = true ↔ 1 ≤ len.toNat ∧ len.toNat ≤ 32 ∧ rest.length = len.toNat + 1 :=
  decide_eq_true_iff

/-- A complete frame is examined once the receiver is back in HUNT. -/
theorem exec_stationFrame {s : State} (hr : s.resetAsserted = false) (l : LineId) {bytes : List Byte}
    (h : bytesComplete bytes = true) : exec (.stationFrame l bytes) s = .next ((s.frameComplete l).examineBytes l bytes) := by
  refine congrArg Host.Outcome.next ((takeEvent_taken s _ hr).trans ?_)
  rw [frameArrives, if_pos h]

section

variable {s : State} {l : LineId} {len code : Byte} {rest : List Byte}

/-- Test 1 of R86. -/
theorem examineBytes_badSum (hsum : sumBytes (len :: code :: rest) ≠ 0) : s.examineBytes l (len :: code :: rest) = s := by
  rw [State.examineBytes, if_pos hsum]

/-- Test 2 of R86. -/
theorem examineBytes_foreign (hsum : sumBytes (len :: code :: rest) = 0) (hcode : requestOf l code = none) :
    s.examineBytes l (len :: code :: rest) = s.answerUnknown l code := by
  simp only [State.examineBytes, hsum, hcode]
  rfl

/-- Test 3 of R86. -/
theorem examineBytes_badLength {name : RequestName} (hsum : sumBytes (len :: code :: rest) = 0)
    (hcode : requestOf l code = some name) (hlen : len.toNat ≠ name.length) : s.examineBytes l (len :: code :: rest) = s := by
  simp only [State.examineBytes, hsum, hcode]
  simp [hlen]

/-- A frame that passes tests 1 to 3. -/
theorem examineBytes_request {name : RequestName} (hsum : sumBytes (len :: code :: rest) = 0)
    (hcode : requestOf l code = some name) (hlen : len.toNat = name.length) :
    s.examineBytes l (len :: code :: rest) = s.examine l code (requestBlock l name rest.dropLast) := by
  simp only [State.examineBytes, hsum, hcode]
  simp [hlen]

end

/-! ### The frame of a row (R88, R194) -/

/-- A row's code is one of its line, and its fields have its code's length. -/
theorem row_layout {c : Instr} {l : LineId} {name : RequestName} {f : List Byte} (h : stationRequest c = some (l, name, f)) :
    requestOf l name.byte = some name ∧ f.length + 1 = name.length := by
  cases c
  case nextTab sp => cases sp <;> cases h <;> exact ⟨rfl, rfl⟩
  case tabDone sp entry site tab => cases sp <;> cases h <;> exact ⟨rfl, rfl⟩
  case tabFault sp entry site tab reason => cases sp <;> cases h <;> exact ⟨rfl, rfl⟩
  case progress l => cases l <;> cases h <;> exact ⟨rfl, rfl⟩
  all_goals cases h <;> exact ⟨rfl, rfl⟩

theorem requestLength_le (name : RequestName) : name.length ≤ 32 := by
  cases name <;> decide

/-- The bytes of a frame: its length byte, then its code, its fields and its check byte. -/
theorem frameBody_eq (f : Frame) : ∃ check,
    frameBody f = BitVec.ofNat 8 (f.fields.length + 1) :: f.code :: (f.fields ++ [check]) ∧ sumBytes (frameBody f) = 0 :=
  ⟨_, rfl, sumBytes_checkByte _⟩

section

variable {c : Instr} {l : LineId} {name : RequestName} {f : List Byte}

theorem row_lengthByte (h : stationRequest c = some (l, name, f)) : (BitVec.ofNat 8 (f.length + 1)).toNat = name.length := by
  have hlen := (row_layout h).2
  have hle := requestLength_le name
  rw [hlen, BitVec.toNat_ofNat]
  omega

theorem row_complete (h : stationRequest c = some (l, name, f)) : bytesComplete (frameBody ⟨name.byte, f⟩) = true := by
  obtain ⟨check, hbody, -⟩ := frameBody_eq ⟨name.byte, f⟩
  have hbyte := row_lengthByte h
  have hlen := (row_layout h).2
  have hle := requestLength_le name
  rw [hbody, bytesComplete_cons, hbyte]
  refine ⟨by omega, hle, ?_⟩
  simp only [List.length_cons, List.length_append, List.length_nil]
  omega

/-- The frame of a row is delivered as the row is (R86). -/
theorem frameArrives_row (h : stationRequest c = some (l, name, f)) {s : State} (hr : s.resetAsserted = false) :
    frameArrives l (frameBody ⟨name.byte, f⟩) s = s.takeRequest l name (requestBlock l name f) := by
  obtain ⟨check, hbody, hsum⟩ := frameBody_eq ⟨name.byte, f⟩
  have hcomplete := row_complete h
  rw [frameArrives, if_pos hcomplete, State.takeRequest, if_neg (by simp [hr])]
  rw [hbody] at hsum ⊢
  rw [examineBytes_request hsum (row_layout h).1 (row_lengthByte h), List.dropLast_concat]

/-- While RESET is asserted neither has an effect (R95). -/
theorem exec_row_reset (h : stationRequest c = some (l, name, f)) {s : State} (hr : s.resetAsserted = true) :
    exec c s = .next s := by
  rw [exec_station_frame h s, State.takeRequest, if_pos hr]

end

/-! ### The frame of a row byte by byte (R85) -/

/-- The next byte of a run of bytes on a line. -/
def takeByte (l : LineId) (o : Result) (byte : Byte) : Result :=
  match o with
  | .next t => exec (.stationLineByte l byte false) t
  | .fault r => .fault r
  | .refused r => .refused r

/-- While RESET is asserted bytes have no effect (R95). -/
theorem bytes_reset (l : LineId) (bytes : List Byte) {s : State} (hr : s.resetAsserted = true) :
    bytes.foldl (takeByte l) (.next s) = .next s := by
  have hbyte : ∀ byte, takeByte l (.next s) byte = .next s := fun byte => congrArg Host.Outcome.next (if_pos hr)
  induction bytes with
  | nil => rfl
  | cons byte rest ih => rw [List.foldl_cons, hbyte, ih]

/-- A line in the body of a frame, with the bytes that are in after the start byte. -/
def Line.inBody (r : Line) (bytes : List Byte) : Line := { r with receiver := .body, partialFrame := bytes, gap := some 0 }

/-- A frame completed on a line that was in its body leaves what it would have left in HUNT. -/
theorem frameArrives_inBody (s : State) (l : LineId) (got : List Byte) {bytes : List Byte} (h : bytesComplete bytes = true) :
    frameArrives l bytes (s.setLine l ((s.line l).inBody got)) = frameArrives l bytes s := by
  have hpump : ((s.line l).inBody got).pump.receiverIdle = (s.line l).pump.receiverIdle := by
    unfold Line.pump
    simp only [Line.inBody]
    split <;> rfl
  have hcomplete : (s.setLine l ((s.line l).inBody got)).frameComplete l = s.frameComplete l := by
    simp only [State.frameComplete, line_setLine, setLine_setLine, hpump]
  rw [frameArrives, frameArrives, if_pos h, if_pos h, hcomplete]

/-- The bytes of a body that does not end the frame are collected (R85). -/
theorem bytes_collected (s : State) (l : LineId) (hr : s.resetAsserted = false) (len : Byte) (got rest : List Byte)
    (hopen : got.length + rest.length ≤ len.toNat) :
    rest.foldl (takeByte l) (.next (s.setLine l ((s.line l).inBody (len :: got)))) =
      .next (s.setLine l ((s.line l).inBody (len :: (got ++ rest)))) := by
  induction rest generalizing got with
  | nil => simp
  | cons byte rest ih =>
    have hlength := List.length_cons (a := byte) (as := rest)
    have hgoes : bytesComplete (len :: got ++ [byte]) = false := by
      rw [Bool.eq_false_iff, Ne, List.cons_append, bytesComplete_cons, List.length_append, List.length_singleton]
      omega
    have hbyte : takeByte l (.next (s.setLine l ((s.line l).inBody (len :: got)))) byte =
        .next (s.setLine l ((s.line l).inBody (len :: (got ++ [byte])))) := by
      refine (exec_byte (by simpa using hr) l byte false).trans (congrArg _ ?_)
      rw [receiveByte_collects (by rw [line_setLine]; rfl) (by rw [line_setLine]; exact hgoes), line_setLine, setLine_setLine]
      rfl
    rw [List.foldl_cons, hbyte, ih (got ++ [byte]) (by rw [List.length_append, List.length_singleton]; omega),
      List.append_assoc, List.singleton_append]

/-- A complete frame after its start byte, on a line in HUNT, arrives as a whole (R85). -/
theorem bytes_arrive (s : State) (l : LineId) (hr : s.resetAsserted = false) (hunt : (s.line l).receiver = .hunt)
    {bytes : List Byte} (h : bytesComplete bytes = true) :
    (Config.startByte :: bytes).foldl (takeByte l) (.next s) = .next (frameArrives l bytes s) := by
  match bytes, h with
  | len :: rest, h =>
    obtain ⟨hlow, hhigh, hlength⟩ := (bytesComplete_cons len rest).1 h
    have hne : rest ≠ [] := fun he => by simp [he] at hlength
    obtain ⟨middle, last, rfl⟩ : ∃ middle last, rest = middle ++ [last] :=
      ⟨_, _, (List.dropLast_append_getLast hne).symm⟩
    rw [List.length_append, List.length_singleton] at hlength
    have hstart : takeByte l (.next s) Config.startByte =
        .next (s.setLine l { s.line l with receiver := .length, partialFrame := [], gap := some 0 }) :=
      (exec_byte hr l _ false).trans (congrArg _ (receiveByte_start hunt))
    have hlen : takeByte l (.next (s.setLine l { s.line l with receiver := .length, partialFrame := [], gap := some 0 })) len =
        .next (s.setLine l ((s.line l).inBody [len])) := by
      refine (exec_byte (by simpa using hr) l len false).trans (congrArg _ ?_)
      rw [receiveByte_length (by rw [line_setLine]) hlow hhigh, line_setLine, setLine_setLine]
      rfl
    have hlast : takeByte l (.next (s.setLine l ((s.line l).inBody (len :: middle)))) last =
        .next (frameArrives l (len :: (middle ++ [last])) s) := by
      refine (exec_byte (by simpa using hr) l last false).trans (congrArg _ ?_)
      rw [receiveByte_completes (by rw [line_setLine]; rfl) (by rw [line_setLine]; exact h), line_setLine]
      exact frameArrives_inBody s l _ h
    rw [List.foldl_cons, hstart, List.foldl_cons, hlen, List.foldl_append,
      bytes_collected s l hr len [] middle (by simp; omega)]
    exact hlast

/-- Settles O12: a row's frame passes tests 1 to 3 of R86, whole or byte by byte; the three tests on other frames. -/
theorem stationFramesActAsTheirRows : Obligations.StationFramesActAsTheirRows := by
  refine ⟨fun c l name fields s hrow => ?_, ?_⟩
  · cases hr : s.resetAsserted with
    | true =>
      rw [exec_row_reset hrow hr]
      exact ⟨congrArg Host.Outcome.next (if_pos hr), fun _ => bytes_reset l _ hr⟩
    | false =>
      rw [exec_station_frame hrow s, ← frameArrives_row hrow hr]
      exact ⟨congrArg _ (takeEvent_taken s _ hr), fun hunt => bytes_arrive s l hr hunt (row_complete hrow)⟩
  · intro l len code rest s hr hlow hhigh hlength bytes
    have hcomplete : bytesComplete bytes = true := (bytesComplete_cons _ _).2 ⟨hlow, hhigh, by rw [List.length_cons, hlength]⟩
    have hqueue := queue_frameComplete s l
    rw [exec_stationFrame hr l hcomplete]
    refine ⟨fun hsum => ?_, fun hsum hcode hq => ?_, fun hsum hcode hq => ?_, fun name hsum hcode hlen => ?_⟩
    · exact congrArg _ (examineBytes_badSum hsum)
    · rw [examineBytes_foreign hsum hcode, State.answerUnknown, if_pos (by rw [hqueue]; exact hq)]
    · rw [examineBytes_foreign hsum hcode, State.answerUnknown, if_neg (by rw [hqueue]; exact not_le.2 hq)]
      rfl
    · exact congrArg _ (examineBytes_badLength hsum hcode hlen)

end Sys2Proof.Machine
end

section
/-! A spindle takes a tab by NEXT-TAB alone, and only at the clearance or more from the other spindle's tab (R97, R102 to R104):
every command, request, event and arrival, and with them every step. -/

namespace Sys2Proof.Machine

/-! ### The current tabs of the spindles (R97) -/

/-- Both spindles have the same current tab in two states. -/
def SameCurrents (s t : State) : Prop :=
  t.spindleA.current = s.spindleA.current ∧ t.spindleB.current = s.spindleB.current

/-- A spindle without a current tab in the first state has none in the second. -/
def NoTabTaken (s t : State) : Prop := ∀ sp, (s.spindle sp).current = none → (t.spindle sp).current = none

theorem SameCurrents.refl (s : State) : SameCurrents s s := ⟨rfl, rfl⟩

theorem SameCurrents.trans {s t u : State} (h : SameCurrents s t) (k : SameCurrents t u) : SameCurrents s u :=
  ⟨k.1.trans h.1, k.2.trans h.2⟩

theorem SameCurrents.current {s t : State} (h : SameCurrents s t) (sp : Spindle) :
    (t.spindle sp).current = (s.spindle sp).current := by
  cases sp
  · exact h.1
  · exact h.2

theorem SameCurrents.noTabTaken {s t : State} (h : SameCurrents s t) : NoTabTaken s t :=
  fun sp hs => (h.current sp).trans hs

theorem NoTabTaken.then_same {s t u : State} (h : NoTabTaken s t) (k : SameCurrents t u) : NoTabTaken s u :=
  fun sp hs => (k.current sp).trans (h sp hs)

/-! ### The shared operations leave the current tabs -/

/-- A spindle record written with its current tab as it was. -/
theorem sameCurrents_setSpindle {s : State} {sp : Spindle} {r : SpindleRecord} (h : r.current = (s.spindle sp).current) :
    SameCurrents s (s.setSpindle sp r) := by
  cases sp
  · exact ⟨h, rfl⟩
  · exact ⟨rfl, h⟩

theorem eq_or_eq_other (q sp : Spindle) : q = sp ∨ q = sp.other := by
  cases q <;> cases sp <;> simp [Spindle.other]

/-- A spindle record written without a current tab. -/
theorem noTabTaken_setSpindle (s : State) (sp : Spindle) {r : SpindleRecord} (h : r.current = none) :
    NoTabTaken s (s.setSpindle sp r) := by
  intro q hq
  obtain rfl | rfl := eq_or_eq_other q sp
  · rw [spindle_setSpindle]
    exact h
  · rw [spindle_setSpindle_other]
    exact hq

/-- LOCKDOWN stops the watchdogs and leaves the current tabs (R178). -/
theorem sameCurrents_reportFault (s : State) (c : Context) : SameCurrents s (s.reportFault c) :=
  reportFault_keeps (SameCurrents s) s c (.refl s) (.refl s) (fun _ _ => .refl s) (fun _ _ => .refl s)

@[simp] theorem current_reportFault (s : State) (c : Context) :
    (s.reportFault c).spindleA.current = s.spindleA.current ∧ (s.reportFault c).spindleB.current = s.spindleB.current :=
  sameCurrents_reportFault s c

@[simp] theorem current_reloadWatchdog (s : State) (l : LineId) :
    (s.reloadWatchdog l).spindleA.current = s.spindleA.current
      ∧ (s.reloadWatchdog l).spindleB.current = s.spindleB.current := by
  cases l <;> exact ⟨rfl, rfl⟩

@[simp] theorem current_expireConfirm (s : State) (b : Fin 4) (slot : Nat) :
    (s.expireConfirm b slot).spindleA.current = s.spindleA.current
      ∧ (s.expireConfirm b slot).spindleB.current = s.spindleB.current := by
  simp [State.expireConfirm]

@[simp] theorem current_judgePlacement (s : State) (b : Fin 4) (slot : Nat) :
    (s.judgePlacement b slot).spindleA.current = s.spindleA.current
      ∧ (s.judgePlacement b slot).spindleB.current = s.spindleB.current := by
  unfold State.judgePlacement
  split
  · simp
  split <;> simp

@[simp] theorem current_failAction (s : State) (b : Fin 4) (cause : FaultCause) :
    (s.failAction b cause).spindleA.current = s.spindleA.current
      ∧ (s.failAction b cause).spindleB.current = s.spindleB.current := by
  simp [State.failAction]

/-! ### Host commands -/

theorem configSet_sameCurrents (item : Byte) (value : Word) (s : State) : SameCurrents s (configSet item value s).1 := by
  simp only [configSet]
  repeat' split
  all_goals simp [SameCurrents]

theorem panelAdmit_sameCurrents (id : Word) (recipe fixture : Byte) (s : State) :
    SameCurrents s (panelAdmit id recipe fixture s).1 := by
  simp only [panelAdmit, admitInto]
  repeat' split
  all_goals simp [SameCurrents]

theorem panelRetire_sameCurrents (entry force : Byte) (s : State) : SameCurrents s (panelRetire entry force s).1 := by
  simp only [panelRetire, retire, State.advanceQueue]
  repeat' split
  all_goals simp [SameCurrents]

/-- A new bit and a STALLED spindle cleared leave the current tab (R116, R117). -/
theorem bitChange_sameCurrents (spindle : Byte) (limit total : Word) (s : State) :
    SameCurrents s (bitChange spindle limit total s).1 := by
  unfold bitChange
  split
  · exact .refl s
  split
  · exact .refl s
  · exact sameCurrents_setSpindle rfl

theorem stationClear_sameCurrents (station : Byte) (s : State) : SameCurrents s (stationClear station s).1 := by
  unfold stationClear clearSpindle clearGripper
  split
  · split
    · exact sameCurrents_setSpindle rfl
    · exact .refl s
  · repeat' split
    all_goals exact .refl s

/-- A restart takes every current tab away (R120, R121). -/
theorem restart_noTabTaken (form : Byte) (s : State) : NoTabTaken s (restart form s).1 := by
  unfold restart restartWarm
  split
  · split
    · exact (SameCurrents.refl s).noTabTaken
    · exact fun sp _ => by cases sp <;> rfl
  split
  · exact fun sp _ => by cases sp <;> rfl
  · exact (SameCurrents.refl s).noTabTaken

theorem commandOn_noTabTaken (name : CommandName) (p : List Byte) (s : State) : NoTabTaken s (commandOn name p s).1 := by
  cases name
  case restart => exact restart_noTabTaken _ s
  all_goals refine SameCurrents.noTabTaken ?_
  case configSet => exact configSet_sameCurrents _ _ s
  case panelAdmit => exact panelAdmit_sameCurrents _ _ _ s
  case panelRetire => exact panelRetire_sameCurrents _ _ s
  case bitChange => exact bitChange_sameCurrents _ _ _ s
  case stationClear => exact stationClear_sameCurrents _ s
  all_goals
    simp only [commandOn, recipeBegin, recipeSite, recipeZone, recipeEnd, recipeDrop, recipeRead, panelRead, boardRead, tabRead,
      decideVerdict, tabResolve, boardResolve, zoneSet, magStage, magGo, magUnstage, magRead, magRelease, bayRoute, bayExchange,
      bayClear, clearBay, pauseCommand, resumeCommand, configRead, noticeRead, noticeWrite, noticeAct, faultRead, faultAck]
    repeat' split
    all_goals simp [SameCurrents]

/-! ### Requests other than NEXT-TAB -/

/-- A TAB-DONE that is taken leaves its spindle without a current tab (R110). -/
theorem finishTab_noTabTaken (s : State) (sp : Spindle) (h : TabHandle) : NoTabTaken s (finishTab s sp h).1 := by
  have hcut : ∀ t : State, SameCurrents t (t.cutTab h) := fun t => by simp [SameCurrents]
  refine NoTabTaken.then_same (noTabTaken_setSpindle s sp ?_) (hcut _)
  rfl

theorem tabDone_noTabTaken (sp : Spindle) (entry site tab : Byte) (s : State) :
    NoTabTaken s (tabDone sp entry site tab s).1 := by
  have hsame := (SameCurrents.refl s).noTabTaken
  unfold tabDone
  split
  · split
    · next h _ _ => exact finishTab_noTabTaken s sp h
    · exact hsame
  · exact hsame

theorem loseTab_noTabTaken (s : State) (sp : Spindle) (h : TabHandle) (st : SpindleState) :
    NoTabTaken s (s.loseTab sp h st) := by
  have hset : SameCurrents s (s.setTabState h .suspect) := by simp [SameCurrents]
  intro q hq
  exact noTabTaken_setSpindle _ sp rfl q ((hset.current q).trans hq)

/-- A TAB-FAULT that is taken leaves its spindle without a current tab (R111). -/
theorem tabFault_noTabTaken (sp : Spindle) (entry site tab reason : Byte) (s : State) :
    NoTabTaken s (tabFault sp entry site tab reason s).1 := by
  have hsame := (SameCurrents.refl s).noTabTaken
  unfold tabFault failTab
  split
  · split
    · dsimp only
      split
      · exact ((loseTab_noTabTaken s sp _ _).then_same (sameCurrents_reportFault _ _)).then_same (.refl _)
      · exact (loseTab_noTabTaken s sp _ _).then_same (sameCurrents_reportFault _ _)
    · exact hsame
  · exact hsame

theorem setAside_sameCurrents (s : State) (cands : List BoardHandle) : SameCurrents s (setAside s cands) := by
  induction cands generalizing s with
  | nil => exact .refl s
  | cons h rest ih =>
    refine SameCurrents.trans ?_ (ih _)
    split <;> simp [SameCurrents]

theorem walkBay_sameCurrents (b : Fin 4) (m : Magazine) (s : State) (cands : List BoardHandle) :
    SameCurrents s (walkBay b m s cands).1 := by
  induction cands generalizing s with
  | nil => exact .refl s
  | cons h rest ih =>
    simp only [walkBay]
    split
    · exact ih s
    split
    · exact SameCurrents.trans (by simp [SameCurrents]) (ih _)
    split <;> simp [SameCurrents, State.fillUp]

theorem walkBays_sameCurrents (cands : List BoardHandle) (s : State) (bays : List (Fin 4)) :
    SameCurrents s (walkBays cands s bays).1 := by
  induction bays generalizing s with
  | nil => exact .refl s
  | cons b rest ih =>
    simp only [walkBays]
    split
    · exact ih s
    next m _ =>
      have hwalk := walkBay_sameCurrents b m s (cands.filter (fun h => decide (s.destinationOf h = some b)))
      split
      · next t c ht => rw [ht] at hwalk; exact hwalk
      · next t ht => rw [ht] at hwalk; exact hwalk.trans (ih t)

theorem offerPick_sameCurrents (s : State) : SameCurrents s (offerPick s).1 := by
  have hwalk := (setAside_sameCurrents s s.pickCandidates).trans
    (walkBays_sameCurrents s.pickCandidates _ (setAside s s.pickCandidates).bayOrder)
  simp only [offerPick]
  split
  · next t c ht =>
    rw [ht] at hwalk
    split
    · exact hwalk.trans (by simp [givePick, SameCurrents])
    · exact hwalk
  · next t ht => rw [ht] at hwalk; exact hwalk

theorem nextPick_sameCurrents (s : State) : SameCurrents s (nextPick s).1 := by
  unfold nextPick
  repeat' split
  case h_2.isFalse.isFalse => exact offerPick_sameCurrents s
  all_goals exact .refl s

theorem fiducial_sameCurrents (entry : Byte) (f1m f2m : Point) (s : State) : SameCurrents s (fiducial entry f1m f2m s).1 := by
  simp only [fiducial, checkFiducial, rejectRange, acceptFiducial]
  repeat' split
  all_goals simp [SameCurrents]

theorem pollAll_sameCurrents (s : State) (bays : List (Fin 4)) : SameCurrents s (pollAll s bays).1 := by
  have hpoll : ∀ (t : State) b, SameCurrents t (pollBay t b).1 := by
    intro t b
    simp only [pollBay, State.giveAction]
    repeat' split
    all_goals simp [SameCurrents]
  induction bays generalizing s with
  | nil => exact .refl s
  | cons b rest ih => exact (hpoll s b).trans (ih _)

theorem bayDone_sameCurrents (bay action ok : Byte) (s : State) : SameCurrents s (bayDone bay action ok s).1 := by
  unfold bayDone
  split
  · simp only [bayDoneIndex, doneIndex]
    repeat' split
    all_goals simp [SameCurrents]
  split
  · simp only [bayDoneExchange, doneExchange]
    repeat' split
    all_goals simp [SameCurrents]
  · exact .refl s

theorem onSpindle_noTabTaken (l : LineId) (r : Spindle → Request) (s : State) (hr : ∀ sp, NoTabTaken s (r sp s).1) :
    NoTabTaken s (onSpindle l r s).1 := by
  cases l
  case spindleA => exact hr .a
  case spindleB => exact hr .b
  all_goals exact (SameCurrents.refl s).noTabTaken

/-- No request but NEXT-TAB gives a spindle a tab. -/
theorem requestBlock_noTabTaken (l : LineId) (name : RequestName) (f : List Byte) (s : State) (h : name ≠ .nextTab) :
    NoTabTaken s (requestBlock l name f s).1 := by
  cases name
  case nextTab => exact absurd rfl h
  case tabDone => exact onSpindle_noTabTaken l _ s fun sp => tabDone_noTabTaken sp _ _ _ s
  case tabFault => exact onSpindle_noTabTaken l _ s fun sp => tabFault_noTabTaken sp _ _ _ _ s
  all_goals refine SameCurrents.noTabTaken ?_
  case progress => cases l <;> exact .refl s
  case nextPick => exact nextPick_sameCurrents s
  case fiducial => exact fiducial_sameCurrents _ _ _ s
  case bayPoll => exact pollAll_sameCurrents s bayNumbers
  case bayDone => exact bayDone_sameCurrents _ _ _ s
  all_goals
    simp only [requestBlock, holdOn, placeCheck, placed, placeBoard, dropped, dropBoard, siteMark, State.beginHold]
    repeat' split
    all_goals simp [SameCurrents]

/-! ### Tabs taken at the clearance (R102 to R104) -/

/-- A spindle that has taken a tab stands at the clearance or more from the other spindle's tab. -/
def TakesApart (s t : State) : Prop :=
  ∀ (sp : Spindle) (c d : CurrentTab) (x y : TabRecord) (m n : Point), (s.spindle sp).current = none →
    (t.spindle sp).current = some c → (t.spindle sp.other).current = some d → t.tab c.handle = some x → x.corrected = some m →
    t.tab d.handle = some y → y.corrected = some n → s.settings.clearance ≤ chebyshev n m

theorem NoTabTaken.apart {s t : State} (h : NoTabTaken s t) : TakesApart s t := by
  intro sp c d x y m n hs hc
  rw [h sp hs] at hc
  cases hc

theorem SameCurrents.apart {s t : State} (h : SameCurrents s t) : TakesApart s t := h.noTabTaken.apart

/-- What leaves the current tabs and the settings may come before. -/
theorem TakesApart.of_same {s t u : State} (h : SameCurrents s t) (hset : t.settings = s.settings) (k : TakesApart t u) :
    TakesApart s u := by
  intro sp c d x y m n hs
  rw [← hset]
  exact k sp c d x y m n ((h.current sp).trans hs)

/-- What leaves the current tabs and the Panel Table may follow. -/
theorem TakesApart.then_same {s t u : State} (h : TakesApart s t) (k : SameCurrents t u) (hpanels : u.panels = t.panels) :
    TakesApart s u := by
  have htab : ∀ g, u.tab g = t.tab g := fun g => by
    simp only [State.tab, State.board, State.boardsOf, State.panel, hpanels]
  intro sp c d x y m n hs
  rw [k.current, k.current, htab, htab]
  exact h sp c d x y m n hs

/-- An assignment keeps every tab's corrected midpoint. -/
theorem corrected_assign (s : State) (sp : Spindle) (c : Candidate) (g : TabHandle) :
    ((assign s sp c).1.tab g).bind (·.corrected) = (s.tab g).bind (·.corrected) := by
  have htab : (assign s sp c).1.tab g =
      (s.modifyTab c.handle (fun x => { x with state := .assigned, lastSpindle := some sp })).tab g := by
    simp only [State.tab, State.board, State.boardsOf, State.panel, assign_panels]
  rw [htab]
  by_cases hg : c.handle = g
  · rw [← hg, tab_modifyTab]
    cases s.tab c.handle <;> rfl
  · rw [tab_modifyTab_ne s c.handle g _ hg]

/-- The current tabs after an assignment (R104). -/
theorem current_assign (s : State) (sp : Spindle) (c : Candidate) :
    ((assign s sp c).1.spindle sp).current.map (·.handle) = some c.handle
      ∧ ((assign s sp c).1.spindle sp.other).current = (s.spindle sp.other).current := by
  unfold assign
  cases sp <;> simp [State.spindle, Spindle.other, State.setSpindle, apply_ite State.spindleA, apply_ite State.spindleB]

/-- The midpoint of a spindle's current tab, where the tab's record has one. -/
theorem currentMid_eq_some {s : State} {sp : Spindle} {d : CurrentTab} {n : Point} (hd : (s.spindle sp).current = some d)
    (hn : (s.tab d.handle).bind (·.corrected) = some n) : s.currentMid sp = some n := by
  simp [State.currentMid, hd, hn]

/-- A candidate that is given out is none that R102 passes over. -/
theorem assign_takesApart (s : State) (sp : Spindle) (c : Candidate) (hc : c ∈ s.candidates)
    (hfar : s.tooClose sp c.mid = false) : TakesApart s (assign s sp c).1 := by
  obtain ⟨hown, hother⟩ := current_assign s sp c
  have hmid : (s.tab c.handle).bind (·.corrected) = some c.mid := by
    obtain ⟨-, -, -, -, -, -, htab, hcorrected, -⟩ := (mem_candidates s c.handle c.tab c.mid).1 hc
    rw [htab]
    exact hcorrected
  intro q c' d x y m n hs hc' hd hx hm hy hn
  obtain rfl | rfl := eq_or_eq_other q sp
  · have hhandle : c'.handle = c.handle := by simpa [hc'] using hown
    have hm' := corrected_assign s q c c'.handle
    have hn' := corrected_assign s q c d.handle
    rw [hx, hhandle, hmid] at hm'
    rw [hy] at hn'
    obtain rfl : m = c.mid := Option.some.inj (hm.symm.trans hm')
    have hcur : s.currentMid q.other = some n := currentMid_eq_some (hother.symm.trans hd) (hn'.symm.trans hn)
    simpa [State.tooClose, hcur] using hfar
  · rw [hother, hs] at hc'
    cases hc'

/-! ### NEXT-TAB (R100 to R102) -/

theorem offerTab_takesApart (sp : Spindle) (s : State) : TakesApart s (offerTab sp s).1 := by
  unfold offerTab
  split
  · next c hfind =>
    have hpassed : s.passedOver sp c = false := by simpa using List.find?_some hfind
    exact assign_takesApart s sp c (List.mem_of_find?_eq_some hfind) (Bool.or_eq_false_iff.1 hpassed).2
  · split <;> exact (SameCurrents.refl s).apart

theorem nextTab_takesApart (sp : Spindle) (s : State) : TakesApart s (nextTab sp s).1 := by
  have hsame := (SameCurrents.refl s).apart
  unfold nextTab State.wear
  repeat' split
  case h_2.isFalse.isFalse.isFalse => exact offerTab_takesApart sp s
  case h_2.isFalse.isFalse.isTrue.isTrue =>
    exact SameCurrents.apart (sameCurrents_setSpindle (r := { s.spindle sp with state := .worn }) rfl)
  all_goals exact hsame

theorem requestBlock_takesApart (l : LineId) (name : RequestName) (f : List Byte) (s : State) :
    TakesApart s (requestBlock l name f s).1 := by
  by_cases hname : name = .nextTab
  · subst hname
    cases l
    case spindleA => exact nextTab_takesApart .a s
    case spindleB => exact nextTab_takesApart .b s
    all_goals exact (SameCurrents.refl s).apart
  · exact (requestBlock_noTabTaken l name f s hname).apart

/-! ### Events inside the part -/

theorem endRun_sameCurrents (e : Fin 4) (s : State) : SameCurrents s (endRun e s) := by
  cases ha : s.activeRun e with
  | none => rw [endRun, ha]; exact .refl s
  | some vpr =>
    by_cases hv : vpr.1.position = .finished
    · rw [endRun_finished ha hv]
      simp [SameCurrents, State.alignedBy, State.raiseMask]
    · simp only [endRun, ha, hv, if_false]
      exact .refl s

theorem expireSpindle_noTabTaken (sp : Spindle) (s : State) : NoTabTaken s (expireSpindle sp s) := by
  unfold expireSpindle
  split
  · split
    · exact ((loseTab_noTabTaken s sp _ _).then_same (sameCurrents_reportFault _ _)).then_same (.refl _)
    · exact noTabTaken_setSpindle s sp rfl
  · exact (SameCurrents.refl s).noTabTaken

theorem takeEdges_sameCurrents (s : State) (after : Vector FilterRecord 7) (found : List (Fin 7)) :
    SameCurrents s (s.takeEdges after found) := by
  have hedge : ∀ (t : State) (i : Fin 7) level, SameCurrents t (t.takeEdge i level) := by
    intro t i level
    fin_cases i
    all_goals
      simp only [State.takeEdge, State.guardEdge, State.clampEdge, State.clampFalls, State.sensorEdge]
      repeat' split
      all_goals simp [SameCurrents]
  induction found generalizing s with
  | nil => exact .refl s
  | cons i rest ih => exact (hedge s i _).trans (ih _)

theorem samplePins_sameCurrents (raw : BitVec 7) (s : State) : SameCurrents s (samplePins raw s) := by
  simp only [samplePins]
  split
  · exact (SameCurrents.refl s).trans (takeEdges_sameCurrents _ _ _)
  · exact .refl s

theorem tick_sameCurrents (s : State) : SameCurrents s (tick s) := by
  unfold tick
  split <;> exact .refl s

/-! ### Arrivals -/

theorem acceptFrame_noTabTaken (s : State) (name : CommandName) (p : List Byte) :
    NoTabTaken s (s.acceptFrame name (commandBlock name p)) := by
  simp only [State.acceptFrame, commandBlock]
  split
  · exact (SameCurrents.refl s).noTabTaken
  split
  · next c hc =>
    obtain ⟨-, hc⟩ := Option.ite_none_right_eq_some.1 hc
    obtain rfl := Option.some.inj hc
    have hcmd := commandOn_noTabTaken name p { s with ovr := false }
    unfold State.deliver
    split
    · next t a ht => rw [ht] at hcmd; exact hcmd
    · next t ht => rw [ht] at hcmd; exact hcmd
  · exact (SameCurrents.refl s).noTabTaken

theorem takeCommandOr_noTabTaken (s : State) (name : CommandName) (p : List Byte) :
    NoTabTaken s (s.takeCommandOr name (commandBlock name p)) := by
  unfold State.takeCommandOr
  split
  · exact (SameCurrents.refl s).noTabTaken
  split
  · exact (SameCurrents.refl s).noTabTaken
  · exact acceptFrame_noTabTaken s name p

theorem transact_noTabTaken (bytes : List Byte) (s : State) : NoTabTaken s (transact bytes s) := by
  simp only [transact, examineFrame]
  repeat' split
  case h_2 name _ => exact acceptFrame_noTabTaken s name _
  all_goals exact (SameCurrents.refl s).noTabTaken

theorem sendAnswer_sameCurrents (s : State) (l : LineId) (f : Frame) : SameCurrents s (s.sendAnswer l f) := by
  simp [SameCurrents]

theorem frameComplete_sameCurrents (s : State) (l : LineId) : SameCurrents s (s.frameComplete l) := by
  simp [SameCurrents]

theorem examine_takesApart (s : State) (l : LineId) (code : Byte) (name : RequestName) (f : List Byte) :
    TakesApart s (s.examine l code (requestBlock l name f)) := by
  unfold State.examine
  split
  · exact (SameCurrents.refl s).apart
  split
  · exact (sendAnswer_sameCurrents s l _).apart
  split
  · exact (sendAnswer_sameCurrents s l _).apart
  have hreq := TakesApart.of_same (current_reloadWatchdog s l) (by simp) (requestBlock_takesApart l name f _)
  split
  · next t r ht => rw [ht] at hreq; exact hreq.then_same (sendAnswer_sameCurrents t l _) (by simp)
  · next t ht => rw [ht] at hreq; exact hreq

theorem takeRequest_takesApart (s : State) (l : LineId) (name : RequestName) (f : List Byte) :
    TakesApart s (s.takeRequest l name (requestBlock l name f)) := by
  unfold State.takeRequest
  split
  · exact (SameCurrents.refl s).apart
  · exact .of_same (frameComplete_sameCurrents s l) (by simp) (examine_takesApart _ l _ name f)

theorem examineBytes_takesApart (s : State) (l : LineId) (bytes : List Byte) : TakesApart s (s.examineBytes l bytes) := by
  unfold State.examineBytes
  repeat' split
  case h_2.isFalse => exact examine_takesApart s l _ _ _
  all_goals exact SameCurrents.apart (by simp [SameCurrents])

theorem frameArrives_takesApart (l : LineId) (bytes : List Byte) (s : State) : TakesApart s (frameArrives l bytes s) := by
  unfold frameArrives
  split
  · exact .of_same (frameComplete_sameCurrents s l) (by simp) (examineBytes_takesApart _ l bytes)
  · exact (SameCurrents.refl s).apart

theorem receiveByte_takesApart (l : LineId) (byte : Byte) (framingError : Bool) (s : State) :
    TakesApart s (receiveByte l byte framingError s) := by
  simp only [receiveByte]
  repeat' split
  case h_3.isFalse.isTrue => exact frameArrives_takesApart l _ s
  all_goals exact SameCurrents.apart (by simp [SameCurrents])

theorem takeEvent_takesApart (s : State) {event : State → State} (he : TakesApart s (event s)) :
    TakesApart s (s.takeEvent event) := by
  unfold State.takeEvent
  split
  · exact (SameCurrents.refl s).apart
  · exact he

/-! ### Every step -/

/-- A row that stands for a frame gives out what its frame does. -/
theorem exec_frame_takesApart {c : Instr} (h : ((hostCommand c).isSome || (stationRequest c).isSome) = true) (s : State) :
    ∃ t, exec c s = .next t ∧ TakesApart s t := by
  rcases Bool.or_eq_true_iff.1 h with hhost | hstation
  · obtain ⟨name, hname⟩ := Option.isSome_iff_exists.1 hhost
    exact ⟨_, exec_host_frame hname s, (takeCommandOr_noTabTaken s name _).apart⟩
  · obtain ⟨⟨l, name, f⟩, hname⟩ := Option.isSome_iff_exists.1 hstation
    exact ⟨_, exec_station_frame hname s, takeRequest_takesApart s l name f⟩

theorem exec_takesApart (c : Instr) (s : State) : ∃ t, exec c s = .next t ∧ TakesApart s t := by
  have same : ∀ {event : State → State}, SameCurrents s (event s) → TakesApart s (s.takeEvent event) :=
    fun h => takeEvent_takesApart s h.apart
  cases c
  case correctionRunEnd e => exact ⟨_, rfl, same (endRun_sameCurrents e s)⟩
  case stationFrame l bytes => exact ⟨_, rfl, takeEvent_takesApart s (frameArrives_takesApart l bytes s)⟩
  case stationLineByte l byte framingError =>
    exact ⟨_, rfl, takeEvent_takesApart s (receiveByte_takesApart l byte framingError s)⟩
  case spindleWatchdogExpiry sp => exact ⟨_, rfl, takeEvent_takesApart s (expireSpindle_noTabTaken sp s).apart⟩
  case sample raw => exact ⟨_, rfl, same (samplePins_sameCurrents raw s)⟩
  case commandFrame bytes => exact ⟨_, rfl, takeEvent_takesApart s (transact_noTabTaken bytes s).apart⟩
  case resetAssert => exact ⟨_, rfl, (SameCurrents.refl s).apart⟩
  case resetRelease => exact ⟨_, rfl, NoTabTaken.apart fun sp _ => by cases sp <;> rfl⟩
  case powerOn => exact ⟨_, rfl, NoTabTaken.apart fun sp _ => by cases sp <;> rfl⟩
  case progress l =>
    cases l
    case vision => exact ⟨_, rfl, same (by simp [SameCurrents])⟩
    case elevator => exact ⟨_, rfl, same (by simp [SameCurrents])⟩
    all_goals exact exec_frame_takesApart rfl s
  case validationEnd | zoneVisit | pickPointVisit | tabVisit | holdExpiry | gapTimerExpiry | frameTransmitted
      | gripperWatchdogExpiry | actionTimerExpiry | settleTimerExpiry | confirmWindowExpiry =>
    refine ⟨_, rfl, same ?_⟩
    simp only [endValidation, visitZone, visitPickPoint, visitTab, expireHold, expireGap, endTransmission, expireGripper,
      expireBoard, expireAction, expireSettle, expireWindow]
    repeat' split
    all_goals simp [SameCurrents]
  all_goals exact exec_frame_takesApart rfl s

/-- Settles O60: of all that a step can do, NEXT-TAB alone gives a spindle a tab, and it passes over those too close to the
other spindle's. -/
theorem spindlesStayApart : Obligations.SpindlesStayApart := by
  intro s t sp c d x y m n hstep
  suffices h : TakesApart s t from h sp c d x y m n
  unfold step at hstep
  split at hstep
  · next c rest _ =>
    obtain ⟨u, hu, happart⟩ := exec_takesApart c { s with pending := rest }
    obtain rfl := Host.Outcome.next.inj (hu.symm.trans hstep)
    exact .of_same (.refl s) rfl happart
  · exact Host.Outcome.next.inj hstep ▸ (tick_sameCurrents s).apart

end Sys2Proof.Machine
end

section
/-! A tick (R74, R85, R87, R113, R136, R149, R164, R172): when each event joins the queue, how each timer counts, and what a line
does meanwhile. -/

namespace Sys2Proof.Machine

/-! ### Timers (R113) -/

/-- A RUNNING timer with more than its last tick left counts. -/
theorem countUnless_running (held : Bool) (n : Nat) :
    Timer.countUnless held (some (n + 2)) = some (if held then n + 2 else n + 1) := by
  cases held <;> simp [Timer.countUnless, Timer.count]

theorem count_running (n : Nat) : Timer.count (some (n + 2)) = some (n + 1) := countUnless_running false n

/-! ### The events of a tick -/

theorem mem_when_ (due : Bool) (c d : Instr) : d ∈ when_ due c ↔ due = true ∧ d = c := by
  cases due <;> simp [when_]

section

variable (s : State)

theorem spindleExpiry_mem_tickEvents (sp : Spindle) : .spindleWatchdogExpiry sp ∈ tickEvents s ↔
    s.causes.guardOpen = false ∧ Timer.due (s.spindle sp).watchdog = true := by
  cases sp <;> simp [tickEvents, bayEvents, gapEvent, mem_when_, State.spindle]

theorem gripperExpiry_mem_tickEvents : .gripperWatchdogExpiry ∈ tickEvents s ↔
    s.causes.guardOpen = false ∧ Timer.due s.gripper.watchdog = true := by
  simp [tickEvents, bayEvents, gapEvent, mem_when_]

theorem actionExpiry_mem_tickEvents (b : Fin 4) : .actionTimerExpiry b ∈ tickEvents s ↔
    s.causes.guardOpen = false ∧ Timer.due s.bays[b].actionTimer = true := by
  have hb : b ∈ bayNumbers := mem_entries b
  simp [tickEvents, bayEvents, gapEvent, mem_when_, hb]

theorem settleExpiry_mem_tickEvents (b : Fin 4) :
    .settleTimerExpiry b ∈ tickEvents s ↔ Timer.due s.bays[b].settleTimer = true := by
  have hb : b ∈ bayNumbers := mem_entries b
  simp [tickEvents, bayEvents, gapEvent, mem_when_, hb]

theorem confirmExpiry_mem_tickEvents (b : Fin 4) :
    .confirmWindowExpiry b ∈ tickEvents s ↔ Timer.due (s.bays[b].confirm.map (·.remaining)) = true := by
  have hb : b ∈ bayNumbers := mem_entries b
  simp [tickEvents, bayEvents, gapEvent, mem_when_, hb]

theorem holdExpiry_mem_tickEvents : .holdExpiry ∈ tickEvents s ↔ s.hold.due = true := by
  simp [tickEvents, bayEvents, gapEvent, mem_when_]

theorem gapExpiry_mem_tickEvents (l : LineId) (n : Nat) (h : (s.line l).gap = some n) :
    .gapTimerExpiry l ∈ tickEvents s ↔ 2 ≤ n := by
  have hl : l ∈ lineIds := by cases l <;> simp [lineIds]
  simp [tickEvents, bayEvents, gapEvent, mem_when_, hl, h, Config.gapTicks]

theorem sample_mem_tickEvents : .sample s.pins ∈ tickEvents s ↔ s.settings.sampleInterval ≤ s.sampleClock + 1 := by
  simp [tickEvents, bayEvents, gapEvent, mem_when_, State.sampleReached]

/-! ### What a tick leaves -/

theorem step_idle (hq : s.pending = []) : step s = .next (tick s) := by
  rw [step, hq]

theorem tick_reset (hr : s.resetAsserted = true) : tick s = s := if_pos hr

theorem tick_running (hr : s.resetAsserted = false) : tick s = { countTimers s with
    pending := s.pending ++ shuffle Config.order s.choice (tickEvents s)
    choice := s.choice + draws (tickEvents s) } := by
  simp [tick, hr]

variable {s}

/-- The events that join an empty queue, in whatever order. -/
theorem pending_tick (hq : s.pending = []) (hr : s.resetAsserted = false) : (tick s).pending.Perm (tickEvents s) := by
  rw [tick_running s hr]
  simpa [hq] using shuffle_perm Config.order s.choice (tickEvents s)

theorem watchdog_tick (hr : s.resetAsserted = false) (sp : Spindle) :
    ((tick s).spindle sp).watchdog = (s.spindle sp).watchdog.countUnless s.causes.guardOpen := by
  rw [tick_running s hr]
  cases sp <;> rfl

theorem gripperWatchdog_tick (hr : s.resetAsserted = false) :
    (tick s).gripper.watchdog = s.gripper.watchdog.countUnless s.causes.guardOpen := by
  rw [tick_running s hr]
  rfl

theorem bay_tick (hr : s.resetAsserted = false) (b : Fin 4) :
    (tick s).bays[b] = s.bays[b].countTimers s.causes.guardOpen := by
  rw [tick_running s hr]
  exact mapVec_get _ _ _

theorem line_tick (hr : s.resetAsserted = false) (l : LineId) : (tick s).line l = (s.line l).tick := by
  rw [tick_running s hr]
  exact mapVec_get _ _ _

theorem hold_tick (hr : s.resetAsserted = false) : (tick s).hold = s.hold.countTimer := by
  rw [tick_running s hr]
  rfl

theorem sampleClock_tick (hr : s.resetAsserted = false) (h : s.sampleClock < 16) :
    (tick s).sampleClock = s.sampleClock + 1 := by
  rw [tick_running s hr]
  exact if_pos h

theorem sampleDue_tick (hr : s.resetAsserted = false) :
    (tick s).sampleDue = decide (s.settings.sampleInterval ≤ s.sampleClock + 1) := by
  rw [tick_running s hr]
  rfl

end

/-- Settles O3: the tick as one change of the state, then its events and timers one by one. -/
theorem idleStepIsOneTick : Obligations.IdleStepIsOneTick := by
  refine ⟨fun s hq => ⟨fun hr => ?_, fun hr => ?_⟩, fun s n hq hr => ⟨tick s, step_idle s hq, ?_⟩⟩
  · rw [step_idle s hq, tick_reset s hr]
  · refine ⟨tick s, step_idle s hq, pending_tick hq hr, ?_⟩
    rw [tick_running s hr]
  have joins : ∀ c, c ∈ (tick s).pending ↔ c ∈ tickEvents s := fun _ => (pending_tick hq hr).mem_iff
  refine ⟨fun sp h => ?_, fun sp h => ?_, fun h => ?_, fun h => ?_, fun b h => ?_, fun b h => ?_, fun b h => ?_, fun b h => ?_,
    fun b slot h => ?_, fun b slot h => ?_, fun h hh => ?_, fun h hh => ?_, fun h => ?_, fun h => ⟨?_, ?_⟩, fun h => ?_,
    fun l h => ?_, fun l hn h => ?_, fun l f rest ht hqueue => ?_, fun l f ht => ?_⟩
  · rw [watchdog_tick hr, h, countUnless_running]
  · rw [joins, spindleExpiry_mem_tickEvents, h]
    simp [Timer.due]
  · rw [gripperWatchdog_tick hr, h, countUnless_running]
  · rw [joins, gripperExpiry_mem_tickEvents, h]
    simp [Timer.due]
  · rw [bay_tick hr, Bay.countTimers, h, countUnless_running]
  · rw [joins, actionExpiry_mem_tickEvents, h]
    simp [Timer.due]
  · rw [bay_tick hr, Bay.countTimers, h, count_running]
  · rw [joins, settleExpiry_mem_tickEvents, h]
    rfl
  · rw [bay_tick hr, Bay.countTimers, h]
    simp
  · rw [joins, confirmExpiry_mem_tickEvents, h]
    rfl
  · rw [hold_tick hr, hh, VerdictHold.countTimer, count_running]
  · rw [joins, holdExpiry_mem_tickEvents, hh]
    rfl
  · exact sampleClock_tick hr h
  · exact (joins _).2 ((sample_mem_tickEvents s).2 h)
  · rw [sampleDue_tick hr, decide_eq_true h]
  · rw [sampleDue_tick hr, decide_eq_false h.not_ge]
  · exact (joins _).2 ((gapExpiry_mem_tickEvents s l 2 h).2 le_rfl)
  · rw [line_tick hr, Line.tick, h]
    have : n + 1 < 3 := by omega
    simp [Config.gapTicks, this]
  · rw [line_tick hr, Line.tick, pump_begins _ f rest ht hqueue]
    exact ⟨rfl, rfl⟩
  · rw [line_tick hr, Line.tick, pump_waits _ f ht]
    exact ⟨ht, rfl⟩

end Sys2Proof.Machine
end

section
/-! NEXT-TAB row by row (R99 to R105): what a request finds of the spindles and the records, the walk of the candidates, the
assignment, and the refusals in their order. -/

namespace Sys2Proof.Machine

/-! ### What a spindle's request finds (R86, R93) -/

/-- The spindle whose request has come: its watchdog is reloaded (R93). -/
theorem spindle_received (s : State) (sp : Spindle) : (s.received sp.line).spindle sp =
    { s.spindle sp with watchdog := Timer.reload (s.spindle sp).watchdog s.settings.spindleTimeout } := by
  cases sp <;> rfl

/-- The other spindle's record stays. -/
@[simp] theorem spindle_other_received (s : State) (sp : Spindle) :
    (s.received sp.line).spindle sp.other = s.spindle sp.other := by
  cases sp <;> rfl

/-- The fields that a request's block reads, as they stood when the frame came. -/
@[simp] theorem received_fields (s : State) (l : LineId) :
    (s.received l).panels = s.panels ∧ (s.received l).filters = s.filters ∧ (s.received l).zones = s.zones
      ∧ (s.received l).causes = s.causes ∧ (s.received l).settings = s.settings := by
  simp [State.received]

@[simp] theorem tab_received (s : State) (l : LineId) (h : TabHandle) : (s.received l).tab h = s.tab h := by
  simp [State.tab]

/-- The candidates are read off the Panel Table and the clamp levels (R101). -/
@[simp] theorem candidates_received (s : State) (l : LineId) : (s.received l).candidates = s.candidates := by
  have hpanel : (s.received l).panel = s.panel := funext (panel_received s l)
  have hboards : (s.received l).boardsOf = s.boardsOf := funext fun e => by simp [State.boardsOf]
  have hworkable : (s.received l).workable = s.workable := funext fun p => by simp [State.workable]
  have hentry : (s.received l).entryWorkable = s.entryWorkable := funext fun e => by
    simp only [State.entryWorkable, hpanel, hworkable]
  have hon : (s.received l).workableOn = s.workableOn := funext fun f => by simp only [State.workableOn, hpanel, hworkable]
  have hcutting : (s.received l).cuttingTabs = s.cuttingTabs := funext fun e => by simp only [State.cuttingTabs, hboards]
  simp only [State.candidates, State.releaseCandidates, State.otherCandidates, State.allBoards, hboards, hentry, hon, hcutting]

/-! ### The walk (R102) -/

theorem meetsZone_iff (s : State) (mode : ZoneMode) (box : Rect) : s.meetsZone mode box = true ↔
    ∃ z ∈ s.zones.toList, z.enabled = true ∧ z.mode = mode ∧ meets box z.rect = true := by
  simp only [State.meetsZone, List.any_eq_true, Bool.and_eq_true, decide_eq_true_eq, and_assoc]

/-- A candidate is too near when the other spindle has a tab with a corrected midpoint within the clearance (R102). -/
theorem tooClose_iff (s : State) (sp : Spindle) (mid : Point) : s.tooClose sp mid = true ↔
    ∃ w x m, (s.spindle sp.other).current = some w ∧ s.tab w.handle = some x ∧ x.corrected = some m
      ∧ max (m.x - mid.x).natAbs (m.y - mid.y).natAbs < s.settings.clearance := by
  have hmid : ∀ m, s.currentMid sp.other = some m ↔
      ∃ w x, (s.spindle sp.other).current = some w ∧ s.tab w.handle = some x ∧ x.corrected = some m := by
    simp [State.currentMid, Option.bind_eq_some_iff]
  unfold State.tooClose
  constructor
  · intro h
    split at h
    · next m hm =>
      obtain ⟨w, x, hw, hx, hc⟩ := (hmid m).1 hm
      exact ⟨w, x, m, hw, hx, hc, of_decide_eq_true h⟩
    · cases h
  · rintro ⟨w, x, m, hw, hx, hc, hnear⟩
    rw [(hmid m).2 ⟨w, x, hw, hx, hc⟩]
    exact decide_eq_true hnear

theorem passedOver_iff (s : State) (sp : Spindle) (c : Candidate) : s.passedOver sp c = true ↔
    s.meetsZone .keepOut c.box = true ∨ s.tooClose sp c.mid = true :=
  Bool.or_eq_true_iff

@[simp] theorem meetsZone_received (s : State) (l : LineId) (mode : ZoneMode) (box : Rect) :
    (s.received l).meetsZone mode box = s.meetsZone mode box := by
  simp [State.meetsZone]

@[simp] theorem passedOver_received (s : State) (sp : Spindle) (c : Candidate) :
    (s.received sp.line).passedOver sp c = s.passedOver sp c := by
  simp [State.passedOver, State.tooClose, State.currentMid]

/-- The first candidate that is not passed over is given out (R102). -/
theorem offerTab_assigns {s : State} {sp : Spindle} {before after : List Candidate} {c : Candidate}
    (hcands : s.candidates = before ++ c :: after) (hbefore : ∀ d ∈ before, s.passedOver sp d = true)
    (hc : s.passedOver sp c = false) : offerTab sp s = assign s sp c := by
  have hfind : s.candidates.find? (fun d => !s.passedOver sp d) = some c := by
    rw [List.find?_eq_some_iff_append, hc]
    exact ⟨rfl, before, after, hcands, fun d hd => by simp [hbefore d hd]⟩
  rw [offerTab, hfind]

/-- With every candidate passed over the answer is WAIT while a tab is pending, and IDLE otherwise (R105). -/
theorem offerTab_passes {s : State} {sp : Spindle} (hpass : ∀ c ∈ s.candidates, s.passedOver sp c = true) :
    offerTab sp s = (s, some (.bare (if s.candidates ≠ [] ∨ s.alignedPending = true then .wait else .idle))) := by
  have hfind : s.candidates.find? (fun d => !s.passedOver sp d) = none := by
    simpa using hpass
  simp only [offerTab, hfind, List.isEmpty_eq_false_iff]
  split <;> rfl

theorem boardPending_iff (b : BoardRecord) :
    boardPending b = true ↔ b.state.terminal = false ∧ ∃ x ∈ b.tabs, x.state = .intact := by
  simp [boardPending]

theorem alignedPending_iff (s : State) : s.alignedPending = true ↔ ∃ e p b x, s.panel e = some p ∧ p.state = .aligned
    ∧ b ∈ p.boards ∧ b.state.terminal = false ∧ x ∈ b.tabs ∧ x.state = .intact := by
  have hentry : ∀ e, (match s.panel e with
      | some p => decide (p.state = .aligned) && p.boards.any boardPending
      | none => false) = true ↔ ∃ p b x, s.panel e = some p ∧ p.state = .aligned ∧ b ∈ p.boards
        ∧ b.state.terminal = false ∧ x ∈ b.tabs ∧ x.state = .intact := by
    intro e
    cases s.panel e with
    | none => simp
    | some p => simp [boardPending_iff]
  simp only [State.alignedPending, List.any_eq_true]
  exact ⟨fun ⟨e, _, h⟩ => ⟨e, (hentry e).1 h⟩, fun ⟨e, h⟩ => ⟨e, mem_entries e, (hentry e).2 h⟩⟩

@[simp] theorem alignedPending_received (s : State) (l : LineId) : (s.received l).alignedPending = s.alignedPending := by
  rw [Bool.eq_iff_iff, alignedPending_iff, alignedPending_iff]
  simp

/-! ### NEXT-TAB by its tests (R100) -/

theorem causes_any_iff (c : PauseCauses) : c.any = true ↔ c ≠ ⟨false, false, false⟩ := by
  obtain ⟨host, guardOpen, restart⟩ := c
  cases host <;> cases guardOpen <;> cases restart <;> decide

theorem nextTab_paused {s : State} (sp : Spindle) (h : s.causes ≠ ⟨false, false, false⟩) :
    nextTab sp s = (s, some (.bare .paused)) :=
  if_pos ((causes_any_iff s.causes).2 h)

section

variable {s : State} {sp : Spindle} (hcauses : s.causes = ⟨false, false, false⟩)

include hcauses

/-- Without a pause cause the spindle's current tab is looked at. -/
theorem nextTab_unpaused : nextTab sp s =
    match (s.spindle sp).current with
    | some c => (s, some ⟨.state, s.heldWork c⟩)
    | none =>
      if (s.spindle sp).state = .stalled then (s, some (.bare .stalled))
      else if (s.spindle sp).state = .broken then (s, some (.bare .broken))
      else if (s.spindle sp).spent then (s.wear sp, some (.bare .worn))
      else offerTab sp s := by
  have hany : s.causes.any = false := by rw [hcauses]; rfl
  rw [nextTab, hany]
  rfl

theorem nextTab_holds {c : CurrentTab} {x : TabRecord} {m : Point} (hcur : (s.spindle sp).current = some c)
    (hx : s.tab c.handle = some x) (hm : x.corrected = some m) :
    nextTab sp s = (s, some ⟨.state, workFields c.handle x m c.feed c.watch⟩) := by
  simp [nextTab_unpaused hcauses, hcur, State.heldWork, hx, hm]

variable (hcur : (s.spindle sp).current = none)

include hcur

theorem nextTab_stalled (hst : (s.spindle sp).state = .stalled) : nextTab sp s = (s, some (.bare .stalled)) := by
  simp [nextTab_unpaused hcauses, hcur, hst]

theorem nextTab_broken (hst : (s.spindle sp).state = .broken) : nextTab sp s = (s, some (.bare .broken)) := by
  simp [nextTab_unpaused hcauses, hcur, hst]

/-- A spent bit makes its spindle WORN (R99, R100). -/
theorem nextTab_spent (hstalled : (s.spindle sp).state ≠ .stalled) (hbroken : (s.spindle sp).state ≠ .broken)
    (hspent : (s.spindle sp).lifeLimit ≤ (s.spindle sp).cutTotal) : nextTab sp s = (s.wear sp, some (.bare .worn)) := by
  simp [nextTab_unpaused hcauses, hcur, hstalled, hbroken, SpindleRecord.spent, hspent]

theorem nextTab_offers (hstalled : (s.spindle sp).state ≠ .stalled) (hbroken : (s.spindle sp).state ≠ .broken)
    (hlife : (s.spindle sp).cutTotal < (s.spindle sp).lifeLimit) : nextTab sp s = offerTab sp s := by
  simp [nextTab_unpaused hcauses, hcur, hstalled, hbroken, SpindleRecord.spent, hlife.not_ge]

end

theorem wear_ready {s : State} {sp : Spindle} (h : (s.spindle sp).state = .ready) :
    s.wear sp = (s.setSpindle sp { s.spindle sp with state := .worn }).raise .bitWorn :=
  if_pos h

theorem wear_worn {s : State} {sp : Spindle} (h : (s.spindle sp).state = .worn) : s.wear sp = s :=
  if_neg (by simp [h])

/-! ### The assignment (R104) -/

/-- A spindle's record once it has been given a candidate (R104, R113). -/
def SpindleRecord.taking (r : SpindleRecord) (c : Candidate) (watch : Bool) (timeout : Nat) : SpindleRecord :=
  { r with current := some ⟨c.handle, r.feedClass, watch⟩, watchdog := some timeout }

/-- The part once a candidate has been given to a spindle whose record is then `r`, before notice WATCH-ZONE. -/
def State.given (s : State) (sp : Spindle) (c : Candidate) (r : SpindleRecord) : State :=
  (s.modifyTab c.handle (fun x => { x with state := .assigned, lastSpindle := some sp })).setSpindle sp r

section

variable {s : State} {sp : Spindle} {c : Candidate}

theorem assign_unwatched (h : s.meetsZone .watch c.box = false) : assign s sp c =
    (s.given sp c ((s.spindle sp).taking c false s.settings.spindleTimeout),
      some ⟨.work, workFields c.handle c.tab c.mid (s.spindle sp).feedClass false⟩) := by
  simp only [assign, h]
  rfl

theorem assign_watched (h : s.meetsZone .watch c.box = true) : assign s sp c =
    ((s.given sp c ((s.spindle sp).taking c true s.settings.spindleTimeout)).raise .watchZone,
      some ⟨.work, workFields c.handle c.tab c.mid (s.spindle sp).feedClass true⟩) := by
  simp only [assign, h]
  rfl

end

/-- The reload of the watchdog with the request shows neither in the record that takes a tab nor in its feed class (R93, R113). -/
theorem taking_received (s : State) (sp : Spindle) (c : Candidate) (watch : Bool) :
    ((s.received sp.line).spindle sp).taking c watch (s.received sp.line).settings.spindleTimeout =
        (s.spindle sp).taking c watch s.settings.spindleTimeout
      ∧ ((s.received sp.line).spindle sp).feedClass = (s.spindle sp).feedClass := by
  rw [spindle_received, (received_fields s sp.line).2.2.2.2]
  exact ⟨rfl, rfl⟩

/-- Settles O37: the candidate is the first that R102 leaves, and it is assigned with or without the watch mark. -/
theorem nextTabAssignsTheFirstFreeCandidate : Obligations.NextTabAssignsTheFirstFreeCandidate := by
  intro s sp before after c hopen hcauses hcur hst hlife hcands box meetsZone near hbefore hzone hnear r feed given work
  have hpass : ∀ d, (s.received sp.line).passedOver sp d = true ↔ meetsZone .keepOut d ∨ near d := fun d => by
    rw [passedOver_received, passedOver_iff, meetsZone_iff, tooClose_iff]
    rfl
  have hassign : nextTab sp (s.received sp.line) = assign (s.received sp.line) sp c := by
    have hrec := spindle_received s sp
    rw [nextTab_offers (by simp [hcauses]) (by simp [hrec, hcur])]
    · refine offerTab_assigns ((candidates_received s _).trans hcands) (fun d hd => (hpass d).2 (hbefore d hd)) ?_
      exact Bool.eq_false_iff.2 fun h => ((hpass c).1 h).elim hzone hnear
    · rcases hst with hst | hst <;> simp [hrec, hst]
    · rcases hst with hst | hst <;> simp [hrec, hst]
    · simpa [hrec] using hlife
  have hwatch : (s.received sp.line).meetsZone .watch c.box = true ↔ meetsZone .watch c := by
    rw [meetsZone_received, meetsZone_iff]
    rfl
  refine ⟨fun hno => ?_, fun hyes => ?_⟩
  · obtain ⟨htaking, hfeed⟩ := taking_received s sp c false
    have hno' : (s.received sp.line).meetsZone .watch c.box = false := Bool.eq_false_iff.2 fun h => hno (hwatch.1 h)
    rw [assign_unwatched hno', htaking, hfeed] at hassign
    exact exec_replied _ hopen rfl hassign
  · obtain ⟨htaking, hfeed⟩ := taking_received s sp c true
    rw [assign_watched (hwatch.2 hyes), htaking, hfeed] at hassign
    exact exec_replied _ hopen rfl hassign

/-- Settles O38: the tests of R100 in their order, then WAIT and IDLE by R105. -/
theorem nextTabIsRefusedInOrder : Obligations.NextTabIsRefusedInOrder := by
  intro s sp hopen r0 r answer
  have hrec : r0.spindle sp = _ := spindle_received s sp
  refine ⟨fun hpaused => ?_, fun hcauses => ?_⟩
  · exact exec_replied r0 hopen rfl (nextTab_paused sp (by simpa [r0] using hpaused))
  have hcauses0 : r0.causes = ⟨false, false, false⟩ := by simpa [r0] using hcauses
  have hcurrent : (r0.spindle sp).current = r.current := by rw [hrec]
  have hstate : (r0.spindle sp).state = r.state := by rw [hrec]
  have hspent : (r0.spindle sp).lifeLimit ≤ (r0.spindle sp).cutTotal ↔ r.lifeLimit ≤ r.cutTotal := by rw [hrec]
  refine ⟨fun c x m hcur hx hm => ?_, fun hcur hst => ?_, fun hcur hst => ?_, fun hcur hlife hst => ?_,
    fun hcur hlife hst => ?_, fun hcur hstalled hbroken hlife hpass => ?_⟩
  · exact exec_replied r0 hopen rfl (nextTab_holds hcauses0 (hcurrent.trans hcur) ((tab_received s _ _).trans hx) hm)
  · exact exec_replied r0 hopen rfl (nextTab_stalled hcauses0 (hcurrent.trans hcur) (hstate.trans hst))
  · exact exec_replied r0 hopen rfl (nextTab_broken hcauses0 (hcurrent.trans hcur) (hstate.trans hst))
  · have hworn := nextTab_spent hcauses0 (hcurrent.trans hcur) (by simp [hstate, hst]) (by simp [hstate, hst]) (hspent.2 hlife)
    rw [wear_worn (hstate.trans hst)] at hworn
    exact exec_replied r0 hopen rfl hworn
  · have hworn := nextTab_spent hcauses0 (hcurrent.trans hcur) (by simp [hstate, hst]) (by simp [hstate, hst]) (hspent.2 hlife)
    rw [wear_ready (hstate.trans hst)] at hworn
    exact exec_replied _ hopen rfl hworn
  intro pending
  have hoffer : nextTab sp r0 = offerTab sp r0 :=
    nextTab_offers hcauses0 (hcurrent.trans hcur) (hstate ▸ hstalled) (hstate ▸ hbroken) (lt_of_not_ge (mt hspent.1 hlife.not_ge))
  rw [offerTab_passes (by simpa [r0] using hpass)] at hoffer
  have hpending : r0.candidates ≠ [] ∨ r0.alignedPending = true ↔ pending := by
    rw [candidates_received, alignedPending_received, alignedPending_iff]
  refine ⟨fun h => ?_, fun h => ?_⟩
  · rw [if_pos (hpending.2 h)] at hoffer
    exact exec_replied r0 hopen rfl hoffer
  · rw [if_neg (mt hpending.1 h)] at hoffer
    exact exec_replied r0 hopen rfl hoffer

end Sys2Proof.Machine
end

section
/-! TAB-DONE, TAB-FAULT and PROGRESS row by row (R109 to R112, R135). -/

namespace Sys2Proof.Machine

/-! ### The tab a report names (R109) -/

theorem tabHandleOf_ofNat (e : Fin 4) (site tab : Byte) :
    tabHandleOf (BitVec.ofNat 8 e) site tab = some ⟨e, site.toNat, tab.toNat⟩ := by
  rw [tabHandleOf, fin?_ofNat e (by decide)]
  rfl

/-- An entry above 3 names no tab. -/
theorem tabHandleOf_above {above : Byte} (site tab : Byte) (h : 3 < above.toNat) : tabHandleOf above site tab = none := by
  rw [tabHandleOf, fin?_eq_none.2 h]
  rfl

/-- The answer repeats the bytes of the handle. -/
theorem tabHandleBytes_ofNat (e : Fin 4) (site tab : Byte) :
    tabHandleBytes ⟨e, site.toNat, tab.toNat⟩ = [BitVec.ofNat 8 e, site, tab] := by
  simp [tabHandleBytes, u8]

theorem ownsTab_iff (s : State) (sp : Spindle) (h : TabHandle) :
    s.ownsTab sp h = true ↔ ∃ c, (s.spindle sp).current = some c ∧ c.handle = h := by
  unfold State.ownsTab
  cases (s.spindle sp).current <;> simp

section

variable {s : State} {sp : Spindle} {e : Fin 4} {site tab : Byte} (reason : Byte)

theorem tabDone_owned (h : s.ownsTab sp ⟨e, site.toNat, tab.toNat⟩ = true) :
    tabDone sp (BitVec.ofNat 8 e) site tab s = finishTab s sp ⟨e, site.toNat, tab.toNat⟩ := by
  simp only [tabDone, tabHandleOf_ofNat, if_pos h]

theorem tabFault_owned (h : s.ownsTab sp ⟨e, site.toNat, tab.toNat⟩ = true) :
    tabFault sp (BitVec.ofNat 8 e) site tab reason s = failTab s sp ⟨e, site.toNat, tab.toNat⟩ reason := by
  simp only [tabFault, tabHandleOf_ofNat, if_pos h]

theorem tabDone_foreign (h : ¬ s.ownsTab sp ⟨e, site.toNat, tab.toNat⟩ = true) :
    tabDone sp (BitVec.ofNat 8 e) site tab s = (s, some (s.reportRefusal sp (some ⟨e, site.toNat, tab.toNat⟩))) := by
  simp only [tabDone, tabHandleOf_ofNat, if_neg h]

theorem tabFault_foreign (h : ¬ s.ownsTab sp ⟨e, site.toNat, tab.toNat⟩ = true) :
    tabFault sp (BitVec.ofNat 8 e) site tab reason s = (s, some (s.reportRefusal sp (some ⟨e, site.toNat, tab.toNat⟩))) := by
  simp only [tabFault, tabHandleOf_ofNat, if_neg h]

variable {above : Byte} (habove : 3 < above.toNat)

include habove

theorem tabDone_above : tabDone sp above site tab s = (s, some (.bare .notYours)) := by
  rw [tabDone, tabHandleOf_above site tab habove]
  rfl

theorem tabFault_above : tabFault sp above site tab reason s = (s, some (.bare .notYours)) := by
  rw [tabFault, tabHandleOf_above site tab habove]
  rfl

end

/-- The spindle itself had a SUSPECT tab last: its report comes too late (R109). -/
def State.LateReport (s : State) (sp : Spindle) (h : TabHandle) : Prop :=
  ∃ x, s.tab h = some x ∧ x.state = .suspect ∧ x.lastSpindle = some sp

theorem reportRefusal_late {s : State} {sp : Spindle} {h : TabHandle} (hlate : s.LateReport sp h) :
    s.reportRefusal sp (some h) = .bare .late := by
  obtain ⟨x, hx, hst, hlast⟩ := hlate
  simp [State.reportRefusal, hx, hst, hlast]

theorem reportRefusal_notYours {s : State} {sp : Spindle} {h : TabHandle} (hlate : ¬ s.LateReport sp h) :
    s.reportRefusal sp (some h) = .bare .notYours := by
  rw [State.reportRefusal, Option.bind_some]
  split
  · next x hx => exact if_neg fun hx' => hlate ⟨x, hx, hx'⟩
  · rfl

/-! ### Reports that are taken (R110, R111) -/

/-- A spindle's record, once it has let go of its tab, whatever its watchdog read before. -/
theorem release_received (s : State) (sp : Spindle) :
    ((s.received sp.line).spindle sp).release = { s.spindle sp with current := none, watchdog := none } := by
  rw [spindle_received]
  rfl

theorem finishTab_eq {s : State} {sp : Spindle} {h : TabHandle} {x : TabRecord} (hx : s.tab h = some x) :
    let r := (s.spindle sp).release.addCut x.width
    let t := (s.setSpindle sp r).cutTab h
    finishTab s sp h = (t, some ⟨.ok, tabHandleBytes h ++ t.boardStateBytes h.board
      ++ opt8 ((t.board h.board).map (·.remaining)) ++ u32 r.cutTotal
      ++ (if r.lifeLimit ≤ r.cutTotal then [1] else [0])⟩) := by
  intro r t
  have hflag : flag r.spent = if r.lifeLimit ≤ r.cutTotal then [1] else [0] := by simp [flag, SpindleRecord.spent]
  simp only [finishTab, hx]
  rw [hflag]

/-- A fault leaves the states of the spindles (R177, R178). -/
theorem spindleState_reportFault (s : State) (c : Context) (sp : Spindle) :
    ((s.reportFault c).spindle sp).state = (s.spindle sp).state :=
  reportFault_keeps (fun t => (t.spindle sp).state = (s.spindle sp).state) s c rfl rfl (fun _ _ => rfl)
    (fun _ _ => by cases sp <;> rfl)

theorem spindleState_loseTab (s : State) (sp : Spindle) (h : TabHandle) (st : SpindleState) :
    ((s.loseTab sp h st).spindle sp).state = st := by
  rw [State.loseTab, spindle_setSpindle]

theorem failTab_break (s : State) (sp : Spindle) (h : TabHandle) : failTab s sp h 0 =
    (((s.loseTab sp h .broken).reportFault (s.cutContext .bit .bitBreak sp h)).raise .bitBroken,
      some ⟨.ok, tabHandleBytes h ++ u8 2⟩) := by
  have hst : ((((s.loseTab sp h .broken).reportFault (s.cutContext .bit .bitBreak sp h)).raise .bitBroken).spindle sp).state
      = .broken := (spindleState_reportFault _ _ sp).trans (spindleState_loseTab s sp h .broken)
  simp only [failTab, if_true, hst]
  rfl

theorem failTab_stall (s : State) (sp : Spindle) (h : TabHandle) {reason : Byte} (hreason : reason ≠ 0) :
    failTab s sp h reason = ((s.loseTab sp h (s.spindle sp).state).reportFault (s.cutContext .cut .stall sp h),
      some ⟨.ok, tabHandleBytes h ++ u8 (s.spindle sp).state.code⟩) := by
  simp only [failTab, hreason, if_false, spindleState_reportFault, spindleState_loseTab]

theorem loseTab_received (s : State) (sp : Spindle) (h : TabHandle) (st : SpindleState) :
    (s.received sp.line).loseTab sp h st = ((s.received sp.line).modifyTab h (fun x => { x with state := .suspect })).setSpindle
      sp { s.spindle sp with current := none, watchdog := none, state := st } := by
  rw [State.loseTab, release_received]
  rfl

theorem cutContext_received (s : State) (cls : FaultClass) (cause : FaultCause) (sp : Spindle) (h : TabHandle) :
    (s.received sp.line).cutContext cls cause sp h = ⟨cls, cause, some sp.line, none, some h.entry,
      (s.panel h.entry).map (·.id), some h.site, some h.tab, true⟩ := by
  simp only [State.cutContext, State.panelId, panel_received]
  rfl

/-- Settles O39: the report of the current tab by its kind and reason, the report of another tab, and an entry above 3. -/
theorem cutReportsAreTaken : Obligations.CutReportsAreTaken := by
  intro s sp e site tab reason hopen e8 h r0 r idle
  have howns : r0.ownsTab sp h = true ↔ ∃ c, r.current = some c ∧ c.handle = h := by
    rw [ownsTab_iff, spindle_received]
  refine ⟨fun c x hcur hc hx => ?_, fun hother => ?_, fun above habove => ⟨?_, ?_⟩⟩
  · intro total t lost context
    have hown : r0.ownsTab sp h = true := howns.2 ⟨c, hcur, hc⟩
    have hstate : (r0.spindle sp).state = r.state := by rw [spindle_received]
    refine ⟨?_, fun hreason => ?_, fun hreason => ?_⟩
    · have hdone := (tabDone_owned hown).trans (finishTab_eq ((tab_received s _ h).trans hx))
      rw [release_received, tabHandleBytes_ofNat] at hdone
      exact exec_replied t hopen rfl hdone
    · subst hreason
      have hfault := (tabFault_owned 0 hown).trans (failTab_break r0 sp h)
      rw [loseTab_received, cutContext_received, tabHandleBytes_ofNat] at hfault
      exact exec_replied _ hopen rfl hfault
    · have hfault := (tabFault_owned reason hown).trans (failTab_stall r0 sp h hreason)
      rw [loseTab_received, cutContext_received, tabHandleBytes_ofNat, hstate] at hfault
      exact exec_replied _ hopen rfl hfault
  · intro late
    have hnot : ¬ r0.ownsTab sp h = true := fun hown => by
      obtain ⟨c, hcur, hc⟩ := howns.1 hown
      exact hother c hcur hc
    have hlate0 : r0.LateReport sp h ↔ late := by rw [State.LateReport, tab_received]
    have hdone := tabDone_foreign hnot
    have hfault := tabFault_foreign reason hnot
    refine ⟨fun hlate => ?_, fun hlate => ?_⟩
    · rw [reportRefusal_late (hlate0.2 hlate)] at hdone hfault
      exact ⟨exec_replied r0 hopen rfl hdone, exec_replied r0 hopen rfl hfault⟩
    · rw [reportRefusal_notYours (mt hlate0.1 hlate)] at hdone hfault
      exact ⟨exec_replied r0 hopen rfl hdone, exec_replied r0 hopen rfl hfault⟩
  · exact exec_replied r0 hopen rfl (tabDone_above habove)
  · exact exec_replied r0 hopen rfl (tabFault_above reason habove)

/-! ### PROGRESS (R112, R135) -/

/-- The reload of the watchdog is all that a spindle's request changes by itself (R93). -/
theorem received_eq_setSpindle (s : State) (sp : Spindle) : s.received sp.line = (s.frameComplete sp.line).setSpindle sp
    { s.spindle sp with watchdog := (s.spindle sp).watchdog.map (fun _ => s.settings.spindleTimeout) } := by
  have hreload : ∀ (t : Timer) full, Timer.reload t full = t.map (fun _ => full) := fun t full => by cases t <;> rfl
  cases sp <;> simp only [← hreload] <;> rfl

/-- An idle spindle answers 0xFF in each field of the handle (log entry 10). -/
theorem optTabHandle_current (c : Option CurrentTab) : optTabHandle (c.map (·.handle)) = match c with
    | none => [0xFF, 0xFF, 0xFF]
    | some c => [BitVec.ofNat 8 c.handle.entry, BitVec.ofNat 8 c.handle.site, BitVec.ofNat 8 c.handle.tab] := by
  cases c <;> rfl

theorem exec_progress (sp : Spindle) (s : State) :
    exec (.progress sp.line) s = .next (s.takeRequest sp.line .progress (spindleProgress sp)) := by
  cases sp <;> rfl

/-- Settles O40: the answers of the two blocks, and LOCKED by the line. -/
theorem progressReloadsTheWatchdog : Obligations.ProgressReloadsTheWatchdog := by
  intro s sp r idle
  refine ⟨fun hopen => ?_, fun hr hq hh hl => ?_, fun hopen => ?_⟩
  · rw [← received_eq_setSpindle]
    refine exec_replied _ hopen (exec_progress sp s) ?_
    rw [spindleProgress, spindle_received]
    exact congrArg (fun b => (s.received sp.line, some (⟨.ok, u8 r.state.code ++ b⟩ : Reply)))
      (optTabHandle_current r.current)
  · rw [exec_progress, takeRequest_locked s _ _ _ hr hq hh hl]
    rfl
  · intro b
    refine exec_replied _ hopen rfl ?_
    have hboard : (s.received .gripper).gripperBoard = b := by
      change s.gripper.current.bind (s.received .gripper).board = _
      simp only [funext (board_received s .gripper)]
      rfl
    rw [gripperProgress, hboard]
    rfl

end Sys2Proof.Machine
end

section
/-! The watchdog expiries (R114, R115, R137, R138, R172), then BIT-CHANGE, STATION-CLEAR and ZONE-SET row by row (R108, R116, R117,
R135). -/

namespace Sys2Proof.Machine

/-! ### When an expiry acts (R113, R115, R138, R172) -/

/-- A timer that is STOPPED, has more than a tick left, or is held by GUARD brings about no expiry. -/
theorem not_due {t : Timer} {held : Bool} {n : Nat} (h : t = none ∨ t = some (n + 2) ∨ held = true) :
    ¬ (Timer.due t = true ∧ held = false) := by
  rintro ⟨hdue, hheld⟩
  rcases h with rfl | rfl | h
  · cases hdue
  · simp [Timer.due] at hdue
  · rw [hheld] at h
    cases h

section

variable {s : State} {n : Nat}

theorem expireSpindle_idle {sp : Spindle} (h : (s.spindle sp).watchdog = none ∨ (s.spindle sp).watchdog = some (n + 2)
    ∨ s.causes.guardOpen = true) : expireSpindle sp s = s :=
  if_neg (not_due h)

theorem expireGripper_idle (h : s.gripper.watchdog = none ∨ s.gripper.watchdog = some (n + 2) ∨ s.causes.guardOpen = true) :
    expireGripper s = s :=
  if_neg (not_due h)

variable (hguard : s.causes.guardOpen = false)

include hguard

/-- The spindle that runs out loses its tab and is STALLED (R114). -/
theorem expireSpindle_last {sp : Spindle} {c : CurrentTab} (ht : (s.spindle sp).watchdog = some 1)
    (hcur : (s.spindle sp).current = some c) : expireSpindle sp s =
      ((s.loseTab sp c.handle .stalled).reportFault (s.cutContext .watchdog .spindleExpiry sp c.handle)).raise .stalled := by
  simp [expireSpindle, Timer.due, ht, hguard, hcur]

/-- The gripper that runs out is STALLED, and its board decides the rest (R137). -/
theorem expireGripper_last {h : BoardHandle} {b : BoardRecord} (ht : s.gripper.watchdog = some 1)
    (hcur : s.gripper.current = some h) (hb : s.board h = some b) :
    expireGripper s = (expireBoard { s with gripper := ⟨.stalled, none, none⟩ } h b).raise .stalled := by
  simp [expireGripper, Timer.due, ht, hguard, State.gripperBoard, hcur, hb]

end

theorem expireBoard_targeted (s : State) (h : BoardHandle) {b : BoardRecord} (hst : b.state = .targeted) :
    expireBoard s h b = (s.abandonPick h).reportFault (s.gripperContext .watchdog .gripperExpiry h none true) := by
  rw [expireBoard, hst]

theorem expireBoard_inHand (s : State) (h : BoardHandle) {b : BoardRecord} (hst : b.state = .held ∨ b.state = .free) :
    expireBoard s h b = (s.setBoardState h .suspect).reportFault (s.gripperContext .handling .gripperExpiry h none false) := by
  rcases hst with hst | hst <;> rw [expireBoard, hst]

/-- Settles O41: the expiries that find no last tick, then those of the spindles and of the gripper. -/
theorem watchdogsRunOut : Obligations.WatchdogsRunOut := by
  have taken : ∀ {s t : State} {event : State → State}, s.resetAsserted = false → event s = t →
      Host.Outcome.next (φ := Fault) (ρ := Refusal) (s.takeEvent event) = .next t :=
    fun hr ht => congrArg Host.Outcome.next ((takeEvent_taken _ _ hr).trans ht)
  refine ⟨fun s n hr => ⟨fun sp h => ?_, fun h => ?_⟩, fun s hr hguard => ⟨fun sp c ht hcur => ?_, fun h b ht hcur hb => ?_⟩⟩
  · exact taken hr (expireSpindle_idle h)
  · exact taken hr (expireGripper_idle h)
  · exact taken hr (expireSpindle_last hguard ht hcur)
  intro t context
  have hexpire := expireGripper_last hguard ht hcur hb
  refine ⟨fun hst => ?_, fun hst => ?_⟩
  · rw [expireBoard_targeted _ h hst] at hexpire
    exact taken hr hexpire
  · rw [expireBoard_inHand _ h hst] at hexpire
    exact taken hr hexpire

/-! ### The spindles' and the gripper's host commands (R116, R117, R135) -/

theorem clampTo_eq {low high : Nat} (h : low ≤ high) (v : Nat) : clampTo low high v = min (max low v) high := by
  unfold clampTo
  split_ifs <;> omega

theorem spindleOf_code (sp : Spindle) : spindleOf (BitVec.ofNat 8 (spindleCode sp)) = some sp := by
  cases sp <;> rfl

theorem ne_zero_and_one {b : Byte} (h : 1 < b.toNat) : b ≠ 0 ∧ b ≠ 1 :=
  ⟨fun hb => by simp [hb] at h, fun hb => by simp [hb] at h⟩

/-- A code above 1 names no spindle. -/
theorem spindleOf_above {b : Byte} (h : 1 < b.toNat) : spindleOf b = none := by
  obtain ⟨h0, h1⟩ := ne_zero_and_one h
  rw [spindleOf, if_neg h0, if_neg h1]

theorem setSpindle_ovr (s : State) (o : Bool) (sp : Spindle) (r : SpindleRecord) :
    ({ s with ovr := o } : State).setSpindle sp r = { s.setSpindle sp r with ovr := o } := by
  cases sp <;> rfl

/-- The record of a spindle that is given a new bit (R116). -/
theorem newBit_eq (r : SpindleRecord) (limit total : Nat) : r.newBit limit total = { r with
    lifeLimit := min (max 1000000 limit) 1000000000, cutTotal := total
    state := if r.state = .worn ∨ r.state = .broken then .ready else r.state } := by
  rw [SpindleRecord.newBit, clampTo_eq (by decide)]
  rfl

section

variable {s : State} {sp : Spindle} {r : SpindleRecord}

theorem bitChange_busy (limit total : Word) (h : (s.spindle sp).current ≠ none) :
    bitChange (BitVec.ofNat 8 (spindleCode sp)) limit total s = (s, some (.bare .busy)) := by
  simp only [bitChange, spindleOf_code, if_pos (Option.isSome_iff_ne_none.2 h)]

theorem bitChange_ok {limit total : Word} (h : (s.spindle sp).current = none)
    (hr : (s.spindle sp).newBit limit.toNat total.toNat = r) :
    bitChange (BitVec.ofNat 8 (spindleCode sp)) limit total s =
      (s.setSpindle sp r, some (.ok (u8 r.state.code ++ u32 r.lifeLimit ++ u32 r.cutTotal))) := by
  subst hr
  simp [bitChange, spindleOf_code, h]

theorem stationClear_stalled (h : (s.spindle sp).state = .stalled) (hr : { s.spindle sp with state := .ready } = r) :
    stationClear (BitVec.ofNat 8 (spindleCode sp)) s = (s.setSpindle sp r, some (.ok r.fields)) := by
  subst hr
  simp only [stationClear, spindleOf_code, clearSpindle, if_pos h]

theorem stationClear_notStalled (h : (s.spindle sp).state ≠ .stalled) :
    stationClear (BitVec.ofNat 8 (spindleCode sp)) s = (s, some ⟨.state, (s.spindle sp).fields⟩) := by
  simp only [stationClear, spindleOf_code, clearSpindle, if_neg h]

variable (s)

theorem bitChange_range {spindle : Byte} (limit total : Word) (h : 1 < spindle.toNat) :
    bitChange spindle limit total s = (s, some (.bare .range)) := by
  rw [bitChange, spindleOf_above h]

theorem stationClear_gripper : stationClear 2 s = clearGripper s := rfl

theorem stationClear_range {station : Byte} (h : 2 < station.toNat) : stationClear station s = (s, some (.bare .range)) := by
  have h2 : station ≠ 2 := fun hs => by simp [hs] at h
  rw [stationClear, spindleOf_above (by omega)]
  exact if_neg h2

end

/-! ### The machine zones (R108) -/

theorem zoneModeOf_code (mode : ZoneMode) : zoneModeOf (BitVec.ofNat 8 mode.code) = some mode := by
  cases mode <;> rfl

theorem zoneModeOf_above {b : Byte} (h : 1 < b.toNat) : zoneModeOf b = none := by
  obtain ⟨h0, h1⟩ := ne_zero_and_one h
  rw [zoneModeOf, if_neg h0, if_neg h1]

section

variable (s : State) (z : Fin 4) (low high : Point) (mode : ZoneMode) (enable : Byte)

/-- A zone and a mode in range go on to the order of the corners. -/
theorem zoneSet_inRange : zoneSet (BitVec.ofNat 8 z) low high (BitVec.ofNat 8 mode.code) enable s =
    if high.x < low.x ∨ high.y < low.y then (s, some (.bare .order))
    else ({ s with zones := s.zones.set z ⟨⟨low, high⟩, mode, flagSet enable⟩ },
      some (.ok (u8 z ++ rectBytes ⟨low, high⟩ ++ u8 mode.code ++ flag (flagSet enable)))) := by
  rw [zoneSet, fin?_ofNat z (by decide), zoneModeOf_code]

theorem zoneSet_range {zone mode : Byte} (h : 3 < zone.toNat ∨ 1 < mode.toNat) :
    zoneSet zone low high mode enable s = (s, some (.bare .range)) := by
  rcases h with h | h
  · rw [zoneSet, fin?_eq_none.2 h]
  · rw [zoneSet, zoneModeOf_above h]
    cases fin? 4 zone.toNat <;> rfl

end

/-- Settles O42: each of the three commands by its outcomes, the refusals for a code out of range last. -/
theorem hostSetsSpindlesGripperAndZones : Obligations.HostSetsSpindlesGripperAndZones := by
  rintro s ⟨hopen, hnormal⟩
  refine ⟨fun sp limit total => ?_, fun hst => ?_, fun hst => ?_, fun z lowX lowY highX highY mode enable => ?_⟩
  · intro r r'
    refine ⟨fun hcur => ?_, fun hcur => ?_, fun hst => ?_, fun hst => ?_⟩
    · have hok := bitChange_ok (s := { s with ovr := false }) hcur (newBit_eq r limit.toNat total.toNat)
      rw [setSpindle_ovr] at hok
      exact exec_changes _ hopen (.inl hnormal) rfl hok
    · exact exec_answered hopen (.inl hnormal) rfl (bitChange_busy limit total hcur)
    · have hclear := stationClear_stalled (s := { s with ovr := false }) (sp := sp) hst rfl
      rw [setSpindle_ovr] at hclear
      exact exec_changes _ hopen (.inl hnormal) rfl hclear
    · exact exec_answered hopen (.inl hnormal) rfl (stationClear_notStalled hst)
  · have hclear := (stationClear_gripper { s with ovr := false }).trans (if_pos hst)
    exact exec_changes _ hopen (.inl hnormal) rfl hclear
  · have hclear := (stationClear_gripper { s with ovr := false }).trans (if_neg (by simp [hst]))
    refine exec_answered hopen (.inl hnormal) rfl (hclear.trans ?_)
    simp only [GripperRecord.fields, hst]
    rfl
  intro zone rect
  have hset := zoneSet_inRange { s with ovr := false } z (coordPoint lowX lowY) (coordPoint highX highY) mode enable
  refine ⟨fun horder => ?_, fun hx hy => ?_, fun spindle station zone mode => ⟨fun h limit total => ?_, fun h => ?_, fun h => ?_⟩⟩
  · exact exec_answered hopen (.inl hnormal) rfl (hset.trans (if_pos horder))
  · have horder : ¬ (highX.toInt < lowX.toInt ∨ highY.toInt < lowY.toInt) := by omega
    exact exec_changes _ hopen (.inl hnormal) rfl (hset.trans (if_neg horder))
  · exact exec_answered hopen (.inl hnormal) rfl (bitChange_range _ limit total h)
  · exact exec_answered hopen (.inl hnormal) rfl (stationClear_range _ h)
  · exact exec_answered hopen (.inl hnormal) rfl (zoneSet_range _ _ _ enable h)

end Sys2Proof.Machine
end

section
/-! What setting aside the boards without a destination and walking the bays leave of the part (R126, R127): the records but for
the notes of what has been noticed, and every bay but those found full. With it, what is known of a chosen board. -/

namespace Sys2Proof.Machine

/-! ### Boards but for their notes (R126, R127) -/

/-- A board but for its two notes, NO-DEST and UNFIT. -/
def BoardRecord.unnoted (b : BoardRecord) : BoardRecord := { b with notedNoDest := false, notedUnfit := false }

/-- A panel with its boards but for their notes. -/
def Panel.unnoted (p : Panel) : Panel := { p with boards := p.boards.map BoardRecord.unnoted }

theorem unnoted_modify {f : BoardRecord → BoardRecord} (hf : ∀ b, (f b).unnoted = b.unnoted) (l : List BoardRecord) (i : Nat) :
    (l.modify i f).map BoardRecord.unnoted = l.map BoardRecord.unnoted := by
  refine List.ext_getElem? fun j => ?_
  rw [List.getElem?_map, List.getElem?_modify, List.getElem?_map]
  cases l[j]? with
  | none => rfl
  | some b => by_cases hij : i = j <;> simp [hij, hf]

/-- A change of a board's notes does not show in the panels but for the notes. -/
theorem unnoted_modifyBoard {f : BoardRecord → BoardRecord} (hf : ∀ b, (f b).unnoted = b.unnoted) (s : State) (h : BoardHandle)
    (e : Fin 4) : ((s.modifyBoard h f).panel e).map Panel.unnoted = (s.panel e).map Panel.unnoted := by
  by_cases he : h.entry = e
  · subst he
    rw [panel_modifyBoard, Option.map_map]
    refine congrArg (Option.map · (s.panel h.entry)) (funext fun p => ?_)
    simp only [Function.comp_apply, Panel.unnoted, unnoted_modify hf]
  · rw [panel_modifyBoard_ne s h f e he]

/-- A board is read off its panel, its notes left out of both. -/
theorem unnoted_board (s : State) (h : BoardHandle) : (s.board h).map BoardRecord.unnoted =
    ((s.panel h.entry).map Panel.unnoted).bind (fun p => p.boards[h.site]?) := by
  rw [State.board, State.boardsOf]
  cases s.panel h.entry <;> simp [Panel.unnoted]

/-! ### A notice given once (R126, R127) -/

section

variable {s : State} {h : BoardHandle} {b : BoardRecord}

theorem noteNoDest_first (hb : s.board h = some b) (hn : b.notedNoDest = false) :
    s.noteNoDest h = (s.modifyBoard h (fun b => { b with notedNoDest := true })).raise .noDest := by
  simp [State.noteNoDest, hb, hn]

theorem noteNoDest_again (hb : s.board h = some b) (hn : b.notedNoDest = true) : s.noteNoDest h = s := by
  simp [State.noteNoDest, hb, hn]

theorem noteUnfit_first (hb : s.board h = some b) (hn : b.notedUnfit = false) :
    s.noteUnfit h = (s.modifyBoard h (fun b => { b with notedUnfit := true })).raise .unfit := by
  simp [State.noteUnfit, hb, hn]

theorem noteUnfit_again (hb : s.board h = some b) (hn : b.notedUnfit = true) : s.noteUnfit h = s := by
  simp [State.noteUnfit, hb, hn]

end

/-! ### What the walk leaves -/

/-- The records but for their notes, what a destination and a span are formed from, the gripper, and every bay that is not
found full. -/
structure WalkLeaves (s t : State) : Prop where
  slots : t.slots = s.slots
  settings : t.settings = s.settings
  routing : t.routing = s.routing
  gripper : t.gripper = s.gripper
  lastServed : t.lastServed = s.lastServed
  panel : ∀ e, (t.panel e).map Panel.unnoted = (s.panel e).map Panel.unnoted
  bay : ∀ b : Fin 4, t.bays[b] = s.bays[b] ∨ t.bays[b].state = .full

namespace WalkLeaves

theorem refl (s : State) : WalkLeaves s s := ⟨rfl, rfl, rfl, rfl, rfl, fun _ => rfl, fun _ => .inl rfl⟩

theorem trans {s t u : State} (h : WalkLeaves s t) (k : WalkLeaves t u) : WalkLeaves s u where
  slots := k.slots.trans h.slots
  settings := k.settings.trans h.settings
  routing := k.routing.trans h.routing
  gripper := k.gripper.trans h.gripper
  lastServed := k.lastServed.trans h.lastServed
  panel e := (k.panel e).trans (h.panel e)
  bay b := by
    rcases k.bay b with hb | hb
    · rw [hb]
      exact h.bay b
    · exact .inr hb

/-- A board's note and the notice that goes with it. -/
theorem noted (s : State) (h : BoardHandle) (n : Notice) {f : BoardRecord → BoardRecord}
    (hf : ∀ b, (f b).unnoted = b.unnoted) : WalkLeaves s ((s.modifyBoard h f).raise n) where
  slots := by simp
  settings := by simp
  routing := by simp
  gripper := by simp
  lastServed := by simp
  panel := unnoted_modifyBoard hf s h
  bay b := .inl (by simp)

theorem noteNoDest (s : State) (h : BoardHandle) : WalkLeaves s (s.noteNoDest h) := by
  unfold State.noteNoDest
  split
  · split
    · exact .refl s
    · exact .noted s h .noDest fun _ => rfl
  · exact .refl s

theorem noteUnfit (s : State) (h : BoardHandle) : WalkLeaves s (s.noteUnfit h) := by
  unfold State.noteUnfit
  split
  · split
    · exact .refl s
    · exact .noted s h .unfit fun _ => rfl
  · exact .refl s

theorem fillUp (s : State) (b : Fin 4) : WalkLeaves s (s.fillUp b) where
  slots := rfl
  settings := rfl
  routing := rfl
  gripper := rfl
  lastServed := rfl
  panel _ := rfl
  bay c := by
    by_cases hbc : b = c
    · subst hbc
      exact .inr (by rw [State.fillUp, bay_setBay])
    · exact .inl (bay_setBay_ne s b c _ hbc)

theorem setAside (s : State) (cands : List BoardHandle) : WalkLeaves s (setAside s cands) := by
  induction cands generalizing s with
  | nil => exact .refl s
  | cons h rest ih =>
    refine WalkLeaves.trans ?_ (ih _)
    split
    · exact .noteNoDest s h
    · exact .refl s

theorem walkBay (b : Fin 4) (m : Magazine) (s : State) (cands : List BoardHandle) :
    WalkLeaves s (walkBay b m s cands).1 := by
  induction cands generalizing s with
  | nil => exact .refl s
  | cons h rest ih =>
    rw [Machine.walkBay]
    split
    · exact ih s
    split
    · exact (WalkLeaves.noteUnfit s h).trans (ih _)
    split
    · exact .fillUp s b
    · exact .refl s

theorem walkBays (cands : List BoardHandle) (s : State) (bays : List (Fin 4)) : WalkLeaves s (walkBays cands s bays).1 := by
  induction bays generalizing s with
  | nil => exact .refl s
  | cons b rest ih =>
    rw [Machine.walkBays]
    split
    · exact ih s
    next m _ =>
      have hbay := WalkLeaves.walkBay b m s (cands.filter (fun h => decide (s.destinationOf h = some b)))
      split
      · next t c ht => rwa [ht] at hbay
      · next t ht =>
        rw [ht] at hbay
        exact hbay.trans (ih t)

/-! ### What is read of the records all the same -/

section

variable {s t : State} (k : WalkLeaves s t)

include k

theorem board (h : BoardHandle) : (t.board h).map BoardRecord.unnoted = (s.board h).map BoardRecord.unnoted := by
  rw [unnoted_board, unnoted_board, k.panel]

theorem bayOrder : t.bayOrder = s.bayOrder := by
  rw [State.bayOrder, State.bayOrder, k.settings, k.lastServed]

theorem destinationOf (h : BoardHandle) : t.destinationOf h = s.destinationOf h := by
  have hdest : t.destination = s.destination := funext fun b => by
    rw [State.destination, State.destination, k.settings, k.routing]
  have hnotes : ∀ u : State, u.destinationOf h = ((u.board h).map BoardRecord.unnoted).bind u.destination := fun u => by
    rw [Option.bind_map]
    rfl
  rw [hnotes t, hnotes s, k.board, hdest]

theorem boardSpan (h : BoardHandle) (m : Magazine) : t.boardSpan h m = s.boardSpan h m := by
  have hrecipe : t.recipeOf = s.recipeOf := funext fun p => by rw [State.recipeOf, State.recipeOf, k.slots]
  have hnotes : ∀ u : State, u.boardSpan h m = ((u.panel h.entry).map Panel.unnoted).bind (fun p => (u.recipeOf p).bind
      (fun r => ((u.board h).map BoardRecord.unnoted).map (fun b => spanOf r.header.thickness b.topHeight m))) := fun u => by
    simp only [Option.bind_map, Option.map_map]
    rfl
  rw [hnotes t, hnotes s, k.panel, k.board, hrecipe]

theorem pickPointBytes (h : BoardHandle) : pickPointBytes (t.board h) = pickPointBytes (s.board h) := by
  have hnotes : ∀ b, Machine.pickPointBytes b = Machine.pickPointBytes (b.map BoardRecord.unnoted) := fun b => by
    cases b <;> rfl
  rw [hnotes (t.board h), hnotes (s.board h), k.board]

theorem readyOnAligned : t.readyOnAligned = s.readyOnAligned := by
  have hnotes : ∀ u : State, u.readyOnAligned = entries.any (fun e => ((u.panel e).map Panel.unnoted).any
      (fun p => decide (p.state = .aligned) && p.boards.any (fun b => decide (b.state = .ready)))) := fun u => by
    refine congrArg entries.any (funext fun e => ?_)
    cases u.panel e with
    | none => rfl
    | some p =>
      refine congrArg (decide (p.state = .aligned) && ·) ?_
      rw [Panel.unnoted, List.any_map]
      rfl
  simp only [hnotes, k.panel]

end

end WalkLeaves

/-! ### Bays that accept (R127) -/

theorem accepts_eq_some {b : Bay} {m : Magazine} :
    b.accepts = some m ↔ (b.state = .active ∨ b.state = .atSlot) ∧ b.confirm = none ∧ b.current = some m := by
  simp [Bay.accepts, and_assoc]

theorem accepts_eq_none {b : Bay} :
    b.accepts = none ↔ ¬ ((b.state = .active ∨ b.state = .atSlot) ∧ b.confirm = none ∧ b.current ≠ none) := by
  rw [Bay.accepts, ite_eq_right_iff, Option.isNone_iff_eq_none]
  tauto

/-- A bay that accepts after the walk is as it was before. -/
theorem WalkLeaves.bay_of_accepts {s t : State} (k : WalkLeaves s t) {b : Fin 4} {m : Magazine}
    (h : t.bays[b].accepts = some m) : t.bays[b] = s.bays[b] := by
  refine (k.bay b).resolve_right fun hfull => ?_
  rcases accepts_state h with hst | hst <;> rw [hfull] at hst <;> cases hst

/-! ### The walk of one bay, board by board (R127) -/

section

variable {b : Fin 4} {m : Magazine} {s : State} {h : BoardHandle} {k : Nat} (rest : List BoardHandle)

theorem walkBay_unfit (hk : s.boardSpan h m = some k) (hunfit : 8 < k ∨ m.slots.length < k) :
    walkBay b m s (h :: rest) = walkBay b m (s.noteUnfit h) rest := by
  simp only [walkBay, hk]
  exact if_pos hunfit

theorem walkBay_full (hk : s.boardSpan h m = some k) (hfit : ¬ (8 < k ∨ m.slots.length < k))
    (hroom : m.slots.length < m.fill + k) : walkBay b m s (h :: rest) = (s.fillUp b, none) := by
  simp only [walkBay, hk]
  exact (if_neg hfit).trans (if_pos hroom)

theorem walkBay_chosen (hk : s.boardSpan h m = some k) (hfit : ¬ (8 < k ∨ m.slots.length < k))
    (hroom : m.fill + k ≤ m.slots.length) : walkBay b m s (h :: rest) = (s, some ⟨b, h, k⟩) := by
  simp only [walkBay, hk]
  exact (if_neg hfit).trans (if_neg (Nat.not_lt.2 hroom))

end

/-! ### The chosen board (R127, R144) -/

/-- A choice that the part may make: the bay accepts, it is the board's destination, and the board's span fits there. -/
structure Choice.Fits (c : Choice) (s : State) (m : Magazine) : Prop where
  accepts : s.bays[c.bay].accepts = some m
  destination : s.destinationOf c.board = some c.bay
  span : s.boardSpan c.board m = some c.span
  short : c.span ≤ 8
  room : m.fill + c.span ≤ m.slots.length

/-- The board chosen in a bay leaves the bay as the walk found it. -/
theorem walkBay_fits {b : Fin 4} {m : Magazine} {s : State} {cands : List BoardHandle} {t : State} {c : Choice}
    (hacc : s.bays[b].accepts = some m) (hcands : ∀ h ∈ cands, s.destinationOf h = some b)
    (hwalk : walkBay b m s cands = (t, some c)) : c.Fits t m := by
  induction cands generalizing s with
  | nil => cases hwalk
  | cons h rest ih =>
    obtain ⟨hhead, hrest⟩ := List.forall_mem_cons.1 hcands
    rw [walkBay] at hwalk
    split at hwalk
    · exact ih hacc hrest hwalk
    next k hk =>
    split at hwalk
    · refine ih (s := s.noteUnfit h) (by simpa using hacc) (fun g hg => ?_) hwalk
      rw [(WalkLeaves.noteUnfit s h).destinationOf, hrest g hg]
    next hfit =>
    split at hwalk
    · cases hwalk
    next hroom =>
    cases hwalk
    obtain ⟨hshort, -⟩ := not_or.1 hfit
    exact ⟨hacc, hhead, hk, Nat.not_lt.1 hshort, Nat.not_lt.1 hroom⟩

theorem walkBays_fits {cands : List BoardHandle} {s : State} {bays : List (Fin 4)} {t : State} {c : Choice}
    (hwalk : walkBays cands s bays = (t, some c)) : ∃ m, c.Fits t m := by
  induction bays generalizing s with
  | nil => cases hwalk
  | cons b rest ih =>
    rw [walkBays] at hwalk
    split at hwalk
    · exact ih hwalk
    next m hm =>
    split at hwalk
    · next u d hu =>
      cases hwalk
      exact ⟨m, walkBay_fits hm (fun h hh => of_decide_eq_true (List.mem_filter.1 hh).2) hu⟩
    · exact ih hwalk

end Sys2Proof.Machine
end

section
/-! NEXT-PICK row by row (R125 to R129): what the request finds, its refusals in their order, the candidates and the bays in the
order of the walk, the board given. -/

namespace Sys2Proof.Machine

/-! ### What the gripper's request finds (R86, R93) -/

@[simp] theorem boardsOf_received (s : State) (l : LineId) (e : Fin 4) : (s.received l).boardsOf e = s.boardsOf e := by
  simp [State.boardsOf]

@[simp] theorem suspectReserved_received (s : State) (l : LineId) : (s.received l).suspectReserved = s.suspectReserved := by
  simp [State.suspectReserved, State.allBoards]

@[simp] theorem readyOnAligned_received (s : State) (l : LineId) : (s.received l).readyOnAligned = s.readyOnAligned := by
  simp [State.readyOnAligned]

@[simp] theorem bays_received (s : State) (l : LineId) : (s.received l).bays = s.bays := by
  simp [State.received]

@[simp] theorem slots_received (s : State) (l : LineId) : (s.received l).slots = s.slots := by
  simp [State.received]

@[simp] theorem destination_received (s : State) (l : LineId) (b : BoardRecord) :
    (s.received l).destination b = s.destination b := by
  simp [State.destination, State.received]

/-! ### NEXT-PICK by its tests (R125) -/

theorem nextPick_paused {s : State} (h : s.causes ≠ ⟨false, false, false⟩) : nextPick s = (s, some (.bare .paused)) :=
  if_pos ((causes_any_iff s.causes).2 h)

section

variable {s : State} (hcauses : s.causes = ⟨false, false, false⟩)

include hcauses

/-- Without a pause cause the gripper's current board is looked at. -/
theorem nextPick_unpaused : nextPick s =
    match s.gripper.current with
    | some h => (s, some ⟨.state, s.heldPick h⟩)
    | none =>
      if s.gripper.state = .stalled then (s, some (.bare .stalled))
      else if s.suspectReserved then (s, some (.bare .wait))
      else offerPick s := by
  have hany : s.causes.any = false := by rw [hcauses]; rfl
  rw [nextPick, hany]
  rfl

theorem nextPick_holds {h : BoardHandle} (hcur : s.gripper.current = some h) :
    nextPick s = (s, some ⟨.state, s.heldPick h⟩) := by
  simp only [nextPick_unpaused hcauses, hcur]

variable (hcur : s.gripper.current = none)

include hcur

theorem nextPick_stalled (hst : s.gripper.state = .stalled) : nextPick s = (s, some (.bare .stalled)) := by
  simp only [nextPick_unpaused hcauses, hcur, if_pos hst]

variable (hst : s.gripper.state = .ready)

include hst

theorem nextPick_suspect (hsus : s.suspectReserved = true) : nextPick s = (s, some (.bare .wait)) := by
  simp [nextPick_unpaused hcauses, hcur, hst, hsus]

theorem nextPick_offers (hsus : s.suspectReserved = false) : nextPick s = offerPick s := by
  simp [nextPick_unpaused hcauses, hcur, hst, hsus]

end

/-- The work the gripper holds, field by field (R125). -/
theorem heldPick_eq {s : State} {h : BoardHandle} {b : BoardRecord} {r : Reservation} {m : Magazine} {x : Point}
    (hb : s.board h = some b) (hx : b.pickPoint = some x) (hr : b.reservation = some r) (hm : s.bays[r.bay].current = some m) :
    s.heldPick h = boardHandleBytes h ++ pointBytes x ++ u8 r.bay ++ u8 r.slot
      ++ u8 (1 + (m.slots.filter (fun y => decide (y = .spanned r.slot))).length) ++ u8 b.state.code := by
  simp only [State.heldPick, boardStateBytes_of_board hb, hb, Option.bind_some, hr, hm, Option.map_some, pickPointBytes, hx,
    optReservation, Magazine.spanAt, opt8, Option.getD_some, List.append_assoc]

/-! ### The candidates and the bays in order (R126) -/

/-- The READY boards of an entry, in ascending site. -/
def State.readyOf (s : State) (e : Fin 4) : List BoardHandle :=
  ((s.boardsOf e).zipIdx.filter (fun bi => decide (bi.1.state = .ready))).map (fun bi => ⟨e, bi.2⟩)

theorem pickCandidates_eq (s : State) :
    s.pickCandidates = [(0 : Fin 2), 1].flatMap (fun f => (s.workableOn f).flatMap s.readyOf) := rfl

theorem entry_of_mem_readyOf {s : State} {e : Fin 4} {h : BoardHandle} (hh : h ∈ s.readyOf e) : h.entry = e := by
  obtain ⟨bi, -, rfl⟩ := List.mem_map.1 hh
  rfl

theorem pairwise_readyOf (s : State) (e : Fin 4) : (s.readyOf e).Pairwise (fun h g => h.site < g.site) := by
  have hidx : (s.boardsOf e).zipIdx.Pairwise (fun x y => x.2 < y.2) := by
    rw [← List.pairwise_map (f := Prod.snd) (R := (· < ·)), List.zipIdx_map_snd]
    exact List.pairwise_lt_range'
  exact List.pairwise_map.2 (hidx.filter _)

/-- Fixture 0 before fixture 1, and ascending site within an entry. -/
def State.WalkedBefore (s : State) (h g : BoardHandle) : Prop :=
  ∀ p q, s.panel h.entry = some p → s.panel g.entry = some q →
    p.fixture < q.fixture ∨ (p.fixture = q.fixture ∧ (h.entry = g.entry → h.site < g.site))

theorem fixture_of_readyOn {s : State} {f : Fin 2} {h : BoardHandle} (hh : h ∈ (s.workableOn f).flatMap s.readyOf) {p : Panel}
    (hp : s.panel h.entry = some p) : p.fixture = f := by
  obtain ⟨e, he, hh⟩ := List.mem_flatMap.1 hh
  obtain ⟨q, hq, hf, -⟩ := (mem_workableOn s f e).1 he
  rw [entry_of_mem_readyOf hh, hq] at hp
  exact Option.some.inj hp ▸ hf

/-- The entries of a fixture are different ones, so only boards of one entry have their sites compared. -/
theorem pairwise_readyOn (s : State) (f : Fin 2) : ((s.workableOn f).flatMap s.readyOf).Pairwise s.WalkedBefore := by
  have hsites : ((s.workableOn f).flatMap s.readyOf).Pairwise (fun h g => h.entry = g.entry → h.site < g.site) := by
    refine List.pairwise_flatMap.2 ⟨fun e _ => ?_, ?_⟩
    · refine (pairwise_readyOf s e).imp ?_
      exact fun hlt _ => hlt
    · have hnodup : (s.workableOn f).Nodup := List.Nodup.filter _ (by decide)
      refine hnodup.imp fun {e e'} hne h hh g hg heq => absurd ?_ hne
      rw [← entry_of_mem_readyOf hh, ← entry_of_mem_readyOf hg, heq]
  refine hsites.imp_of_mem fun hh hg hsite p q hp hq => .inr ⟨?_, hsite⟩
  rw [fixture_of_readyOn hh hp, fixture_of_readyOn hg hq]

theorem pairwise_pickCandidates (s : State) : s.pickCandidates.Pairwise s.WalkedBefore := by
  rw [pickCandidates_eq, List.flatMap_cons, List.flatMap_singleton, List.pairwise_append]
  refine ⟨pairwise_readyOn s 0, pairwise_readyOn s 1, fun h hh g hg p q hp hq => .inl ?_⟩
  rw [fixture_of_readyOn hh hp, fixture_of_readyOn hg hq]
  decide

section

variable {s : State} {h : BoardHandle} {b : BoardRecord} (rest : List BoardHandle)

/-- A board without a destination is set aside, with its notice the first time (R126). -/
theorem setAside_first (hb : s.board h = some b) (hdest : s.destination b = none) (hn : b.notedNoDest = false) :
    setAside s (h :: rest) = setAside ((s.modifyBoard h (fun b => { b with notedNoDest := true })).raise .noDest) rest := by
  have hnone : (s.destinationOf h).isNone = true := by simp [State.destinationOf, hb, hdest]
  rw [setAside, if_pos hnone, noteNoDest_first hb hn]

theorem setAside_again (hb : s.board h = some b) (hn : s.destination b ≠ none ∨ b.notedNoDest = true) :
    setAside s (h :: rest) = setAside s rest := by
  rw [setAside]
  split
  · next hnone =>
    have hdest : s.destination b = none := by simpa [State.destinationOf, hb] using hnone
    rw [noteNoDest_again hb (hn.resolve_left (not_not.2 hdest))]
  · rfl

end

/-! ### The walk of the bays, bay by bay (R126, R127) -/

section

variable (cands : List BoardHandle) {s : State} {b : Fin 4} (rest : List (Fin 4)) {m : Magazine} {t : State}

theorem walkBays_passes (hacc : s.bays[b].accepts = none) : walkBays cands s (b :: rest) = walkBays cands s rest := by
  simp only [walkBays, hacc]

theorem walkBays_stops {c : Choice} (hacc : s.bays[b].accepts = some m)
    (hwalk : walkBay b m s (cands.filter (fun h => decide (s.destinationOf h = some b))) = (t, some c)) :
    walkBays cands s (b :: rest) = (t, some c) := by
  simp only [walkBays, hacc, hwalk]

theorem walkBays_goesOn (hacc : s.bays[b].accepts = some m)
    (hwalk : walkBay b m s (cands.filter (fun h => decide (s.destinationOf h = some b))) = (t, none)) :
    walkBays cands s (b :: rest) = walkBays cands t rest := by
  simp only [walkBays, hacc, hwalk]

end

theorem boardSpan_eq {s : State} {h : BoardHandle} {p : Panel} {r : Recipe} {x : BoardRecord} (m : Magazine)
    (hp : s.panel h.entry = some p) (hr : s.slots[p.recipe] = some r) (hx : s.board h = some x) :
    s.boardSpan h m = some (spanOf r.header.thickness x.topHeight m) := by
  simp only [State.boardSpan, hp, Option.bind_some, State.recipeOf, hr, hx, Option.map_some]

theorem boardSpan_eq_some {s : State} {h : BoardHandle} {m : Magazine} {k : Nat} (hk : s.boardSpan h m = some k) :
    ∃ p r x, s.panel h.entry = some p ∧ s.slots[p.recipe] = some r ∧ s.board h = some x
      ∧ spanOf r.header.thickness x.topHeight m = k := by
  simpa [State.boardSpan, State.recipeOf, Option.bind_eq_some_iff, and_assoc] using hk

/-! ### The answer of the walk (R128, R129) -/

/-- The state in which the walk of a NEXT-PICK ends, and its choice (R126, R127). -/
def State.pickWalk (s : State) : State × Option Choice :=
  walkBays s.pickCandidates (setAside s s.pickCandidates) s.bayOrder

theorem offerPick_eq (s : State) : offerPick s =
    match s.pickWalk with
    | (t, some c) =>
      match t.bays[c.bay].current with
      | some m => givePick t c m
      | none => (t, some (.bare .wait))
    | (t, none) => (t, some (.bare (if t.readyOnAligned then .wait else .idle))) := by
  simp only [offerPick, (WalkLeaves.setAside s _).bayOrder]
  rfl

theorem pickWalk_leaves (s : State) : WalkLeaves s s.pickWalk.1 :=
  (WalkLeaves.setAside s _).trans (.walkBays _ _ _)

theorem pickWalk_fits {s t : State} {c : Choice} (h : s.pickWalk = (t, some c)) : c.board ∈ s.pickCandidates
    ∧ WalkLeaves s t ∧ ∃ m, c.Fits s m ∧ t.bays[c.bay] = s.bays[c.bay] := by
  have hleaves : WalkLeaves s t := by simpa only [h] using pickWalk_leaves s
  obtain ⟨m, hfits⟩ := walkBays_fits h
  have hbay := hleaves.bay_of_accepts hfits.accepts
  exact ⟨walkBays_mem _ _ _ h, hleaves, m, { hfits with
    accepts := hbay ▸ hfits.accepts
    destination := hleaves.destinationOf c.board ▸ hfits.destination
    span := hleaves.boardSpan c.board m ▸ hfits.span }, hbay⟩

theorem readyOnAligned_iff (s : State) : s.readyOnAligned = true ↔
    ∃ e p b, s.panel e = some p ∧ p.state = .aligned ∧ b ∈ p.boards ∧ b.state = .ready := by
  have hentry : ∀ e, (match s.panel e with
      | some p => decide (p.state = .aligned) && p.boards.any (fun b => decide (b.state = .ready))
      | none => false) = true ↔ ∃ p b, s.panel e = some p ∧ p.state = .aligned ∧ b ∈ p.boards ∧ b.state = .ready := by
    intro e
    cases s.panel e <;> simp
  simp only [State.readyOnAligned, List.any_eq_true]
  exact ⟨fun ⟨e, _, h⟩ => ⟨e, (hentry e).1 h⟩, fun ⟨e, h⟩ => ⟨e, mem_entries e, (hentry e).2 h⟩⟩

/-- Nothing chosen: WAIT while a READY board stands on an ALIGNED panel, IDLE otherwise (R129). -/
theorem offerPick_none {s t : State} (h : s.pickWalk = (t, none)) :
    offerPick s = (t, some (.bare (if s.readyOnAligned then .wait else .idle))) := by
  have hleaves : WalkLeaves s t := by simpa only [h] using pickWalk_leaves s
  simp only [offerPick_eq, h, hleaves.readyOnAligned]

/-- The part once a chosen board has been given to the gripper (R128). -/
def State.picked (s t : State) (c : Choice) (m : Magazine) : State :=
  { (t.setBay c.bay (s.bays[c.bay].reserve m c.board c.span)).modifyBoard c.board
      (fun b => { b with state := .targeted, reservation := some ⟨c.bay, m.fill⟩ }) with
    gripper := { s.gripper with current := some c.board, watchdog := some s.settings.gripperTimeout }
    lastServed := c.bay }

theorem offerPick_chosen {s t : State} {c : Choice} {m : Magazine} {b : BoardRecord} (h : s.pickWalk = (t, some c))
    (hleaves : WalkLeaves s t) (hbay : t.bays[c.bay] = s.bays[c.bay]) (hm : s.bays[c.bay].current = some m)
    (hb : s.board c.board = some b) : offerPick s = (s.picked t c m, some ⟨.work,
      boardHandleBytes c.board ++ pointBytes (b.pickPoint.getD ⟨0, 0⟩) ++ u8 c.bay ++ u8 m.fill ++ u8 c.span⟩) := by
  simp only [offerPick_eq, h, hbay, hm, givePick, hleaves.pickPointBytes, hb, hleaves.settings, State.picked,
    modifyBoard_fields, setBay_fields, hleaves.gripper]
  rfl

/-- Settles O44: the tests of R125 in their order, the board given or WAIT and IDLE by the walk, the order of the candidates and
of the bays, then the walk bay by bay and board by board. -/
theorem nextPickGivesABoard : Obligations.NextPickGivesABoard := by
  refine ⟨fun s hopen => ?_, fun s => ?_, fun s cands b rest => ?_⟩
  · intro r0 answer
    refine ⟨fun hpaused => ?_, fun hcauses => ?_⟩
    · exact exec_replied r0 hopen rfl (nextPick_paused (by simpa [r0] using hpaused))
    have hcauses0 : r0.causes = ⟨false, false, false⟩ := by simpa [r0] using hcauses
    refine ⟨fun h b r m x hcur hb hx hr hm => ?_, fun hcur hst => ?_, fun hcur hst hsus => ?_, fun hcur hst hsus => ?_⟩
    · have hwork := heldPick_eq (s := r0) (by simpa [r0] using hb) hx hr (by simpa [r0] using hm)
      exact exec_replied r0 hopen rfl ((nextPick_holds hcauses0 hcur).trans (by rw [hwork]))
    · exact exec_replied r0 hopen rfl (nextPick_stalled hcauses0 hcur hst)
    · exact exec_replied r0 hopen rfl (nextPick_suspect hcauses0 hcur hst (by simpa [r0] using hsus))
    have hoffer : nextPick r0 = offerPick r0 := nextPick_offers hcauses0 hcur hst (by simpa [r0] using hsus)
    intro walk
    refine ⟨fun t c hwalk => ?_, fun t hwalk => ?_⟩
    · obtain ⟨hmem, hleaves, m, hfits, hbay⟩ := pickWalk_fits (s := r0) hwalk
      obtain ⟨p, b, hp, hal, hcl, hb, hready⟩ := (mem_pickCandidates r0 c.board).1 hmem
      obtain ⟨q, r, x, hq, hr, hx, hspan⟩ := boardSpan_eq_some hfits.span
      obtain rfl := Option.some.inj (hp.symm.trans hq)
      obtain rfl := Option.some.inj (hb.symm.trans hx)
      obtain ⟨hst, hconfirm, hm⟩ := accepts_eq_some.1 hfits.accepts
      rw [offerPick_chosen hwalk hleaves hbay hm hb] at hoffer
      rw [panel_received] at hp
      rw [board_received] at hb
      refine ⟨p, r, b, m, hp, hal, by simpa [r0] using hcl, by simpa [r0] using hr, hb, hready, ?_, hm, hbay, hst, hconfirm,
        hspan.symm, hfits.short, hfits.room, exec_replied _ hopen rfl hoffer⟩
      simpa [r0, State.destinationOf, hb] using hfits.destination
    · intro ready
      have hready : r0.readyOnAligned = true ↔ ready := by rw [readyOnAligned_received, readyOnAligned_iff]
      rw [offerPick_none hwalk] at hoffer
      refine ⟨fun h => ?_, fun h => ?_⟩
      · rw [if_pos (hready.2 h)] at hoffer
        exact exec_replied t hopen rfl hoffer
      · rw [if_neg (mt hready.1 h)] at hoffer
        exact exec_replied t hopen rfl hoffer
  · refine ⟨mem_pickCandidates s, pairwise_pickCandidates s, fun hmode => ?_, fun hmode => ?_, fun hmode => ?_, rfl,
      fun h others b hb => ⟨setAside_first others hb, setAside_again others hb⟩⟩
    all_goals simp only [State.bayOrder, hmode, bayNumbers]
  · intro bay accepting
    refine ⟨rfl, fun hno => walkBays_passes cands rest (accepts_eq_none.2 hno), fun m hm ⟨hst, hconfirm, _⟩ => ?_⟩
    intro walk
    have haccepts : s.bays[b].accepts = some m := accepts_eq_some.2 ⟨hst, hconfirm, hm⟩
    refine ⟨fun t c => walkBays_stops cands rest haccepts, fun t => walkBays_goesOn cands rest haccepts, rfl,
      fun h others p r x hp hr hx => ?_⟩
    intro k unfit
    have hk : s.boardSpan h m = some k := boardSpan_eq m hp hr hx
    refine ⟨fun hun hn => ?_, fun hun hn => ?_, walkBay_full others hk, walkBay_chosen others hk⟩
    · rw [walkBay_unfit others hk hun, noteUnfit_first hx hn]
    · rw [walkBay_unfit others hk hun, noteUnfit_again hx hn]

end Sys2Proof.Machine
end

section
/-! Slots and reservations (R144 to R146, R148), and how a placement is judged (R146, R147). -/

namespace Sys2Proof.Machine

/-! ### The slots of a magazine record (R145) -/

section

variable {m : Magazine} (h : BoardHandle) (k head : Nat) {i : Nat} {x : Slot}

@[simp] theorem length_slots_reserve : (m.reserve h k).slots.length = m.slots.length := by
  simp [Magazine.reserve]

@[simp] theorem length_slots_cancel : (m.cancel head).slots.length = m.slots.length := by
  simp [Magazine.cancel]

theorem slot_reserve (hx : m.slots[i]? = some x) : (m.reserve h k).slots[i]? = some
    (if i = m.fill then .reserved h else if m.fill < i ∧ i < m.fill + k then .spanned m.fill else x) := by
  simp [Magazine.reserve, hx]

theorem slot_cancel (hx : m.slots[i]? = some x) : (m.cancel head).slots[i]? = some
    (if i = head ∨ x = .spanned head then .empty else x) := by
  simp [Magazine.cancel, hx]

end

/-! ### The span of a board (R144) -/

/-- The span of a board fits in `j` pitches exactly when the board does. -/
theorem spanOf_le_iff (thickness topHeight : Nat) {m : Magazine} (hpitch : 0 < m.pitch) (j : Nat) :
    spanOf thickness topHeight m ≤ j ↔ thickness + topHeight + m.clearance ≤ j * m.pitch := by
  simp only [spanOf]
  generalize thickness + topHeight + m.clearance = height
  split
  · next hexact =>
    have hdiv : height / m.pitch * m.pitch = height := Nat.div_mul_cancel (Nat.dvd_of_mod_eq_zero hexact)
    calc height / m.pitch ≤ j ↔ height / m.pitch * m.pitch ≤ j * m.pitch := (Nat.mul_le_mul_right_iff hpitch).symm
      _ ↔ height ≤ j * m.pitch := by rw [hdiv]
  · next hrest =>
    have hne : height ≠ j * m.pitch := fun heq => hrest (by rw [heq, Nat.mul_mod_left])
    calc height / m.pitch + 1 ≤ j ↔ height < j * m.pitch := Nat.div_lt_iff_lt_mul hpitch
      _ ↔ height ≤ j * m.pitch := (Nat.le_iff_lt_or_eq.trans (or_iff_left hne)).symm

/-! ### A reservation ends (R145, R146) -/

section

variable {s : State} {h : BoardHandle} {b : BoardRecord} {r : Reservation} {m : Magazine} (hb : s.board h = some b)
  (hr : b.reservation = some r) (hm : s.bays[r.bay].current = some m)

include hb hr hm

theorem cancelReservation_eq : s.cancelReservation h =
    (s.setBay r.bay { s.bays[r.bay] with current := some (m.cancel r.slot) }.leaveIndexWanted).modifyBoard h
      (fun b => { b with reservation := none }) := by
  simp only [State.cancelReservation, hb, hr, hm, Option.map_some]

theorem occupySlot_eq {p : Panel} (hp : s.panel h.entry = some p) : s.occupySlot h =
    (s.setBay r.bay { s.bays[r.bay] with
      current := some (m.place r.slot ⟨p.id, h.site, b.variant, b.verdict⟩) }.leaveIndexWanted).modifyBoard h
      (fun b => { b with reservation := none }) := by
  simp only [State.occupySlot, hp, hb, hr, hm, Option.map_some]

end

/-- Settles O43: a reservation made, cancelled and filled, then the span. -/
theorem reservationsTakeTheSpan : Obligations.ReservationsTakeTheSpan := by
  refine ⟨⟨fun b m h k => ?_, ?_⟩, ?_⟩
  · exact ⟨m.reserve h k, rfl, rfl, rfl, rfl, rfl, length_slots_reserve h k, fun i x => slot_reserve h k⟩
  · intro s h p b r m hp hb hr hm bay bay' unreserved
    exact ⟨⟨m.cancel r.slot, cancelReservation_eq hb hr hm, rfl, rfl, rfl, rfl, length_slots_cancel r.slot,
      fun i x => slot_cancel r.slot⟩, occupySlot_eq hb hr hm hp⟩
  · intro thickness topHeight m hpitch k
    exact ⟨(spanOf_le_iff thickness topHeight hpitch k).1 (Nat.le_refl k),
      fun j => (spanOf_le_iff thickness topHeight hpitch j).2⟩

/-! ### A placement is judged (R146, R147) -/

/-- The row of an event inside the part whose outcome is known. -/
theorem exec_event_eq {c : Instr} {s t : State} {event : State → State} (hr : s.resetAsserted = false)
    (hexec : exec c s = .next (s.takeEvent event)) (ht : event s = t) : exec c s = .next t :=
  (exec_event hr hexec).trans (congrArg Host.Outcome.next ht)

section

variable {s : State} {b : Fin 4}

theorem judgePlacement_seen (slot : Nat) (hlevel : s.bayLevel b = true) :
    s.judgePlacement b slot = s.setBay b s.bays[b].closeConfirm :=
  if_pos hlevel

theorem judgePlacement_atOnce (slot : Nat) (hlevel : s.bayLevel b = false) (htime : s.settings.confirmTime = 0) :
    s.judgePlacement b slot = s.expireConfirm b slot := by
  simp [State.judgePlacement, hlevel, htime]

theorem judgePlacement_awaits (slot : Nat) (hlevel : s.bayLevel b = false) (htime : s.settings.confirmTime ≠ 0) :
    s.judgePlacement b slot = s.setBay b { s.bays[b] with confirm := some ⟨slot, s.settings.confirmTime⟩ } := by
  simp [State.judgePlacement, hlevel, htime]

theorem expireWindow_closed (h : s.bays[b].confirm = none) : expireWindow b s = s := by
  simp only [expireWindow, h]

theorem expireWindow_early {slot n : Nat} (h : s.bays[b].confirm = some ⟨slot, n + 2⟩) : expireWindow b s = s := by
  simp only [expireWindow, h, Timer.due]
  exact if_neg (by simp)

theorem expireWindow_last {slot : Nat} (h : s.bays[b].confirm = some ⟨slot, 1⟩) :
    expireWindow b s = s.expireConfirm b slot := by
  simp only [expireWindow, h, Timer.due]
  exact if_pos (decide_eq_true (Nat.le_refl 1))

/-- The slot that is judged unseen keeps its content as DOUBTFUL (R147). -/
theorem doubt_occupied {m : Magazine} {slot : Nat} {x : PlacedBoard} (hx : m.slots[slot]? = some (.occupied x)) :
    m.doubt slot = { m with slots := m.slots.set slot (.doubtful x) } := by
  rw [Magazine.doubt, List.modify_eq_set_getElem?, hx]
  rfl

theorem expireConfirm_occupied {slot : Nat} {m : Magazine} {x : PlacedBoard} (hm : s.bays[b].current = some m)
    (hx : m.slots[slot]? = some (.occupied x)) : s.expireConfirm b slot =
      (s.setBay b { s.bays[b] with
        current := some { m with slots := m.slots.set slot (.doubtful x) } }.closeConfirm).reportFault
        ⟨.handling, .unseen, some .gripper, none, s.entryOfId x.panelId, some x.panelId, some x.site, none, true⟩ := by
  simp only [State.expireConfirm, Bay.placedAt, hm, hx, Option.map_some, doubt_occupied hx]
  rfl

end

/-- Settles O46: the windows that do not run out, then the outcomes of a placement and the window's last tick. -/
theorem placementsAreJudged : Obligations.PlacementsAreJudged := by
  refine ⟨fun s b hr hwindow => ?_, fun s b slot m x hm hx => ?_⟩
  · rcases hwindow with hclosed | ⟨slot, n, hopen⟩
    · exact exec_event_eq hr rfl (expireWindow_closed hclosed)
    · exact exec_event_eq hr rfl (expireWindow_early hopen)
  intro bay closed unseen
  have hunseen : s.expireConfirm b slot = unseen := expireConfirm_occupied hm hx
  refine ⟨judgePlacement_seen slot, fun hlevel htime => ?_, judgePlacement_awaits slot, fun hr hlast => ?_⟩
  · exact (judgePlacement_atOnce slot hlevel htime).trans hunseen
  · exact exec_event_eq hr rfl ((expireWindow_last hlast).trans hunseen)

end Sys2Proof.Machine
end

section
/-! BAY-POLL bay by bay (R91, R150), and the ends of an elevator action (R151 to R153). -/

namespace Sys2Proof.Machine

/-! ### BAY-POLL on one bay (R150) -/

section

variable {s : State}

/-- The four bays decided one after another make up the answer. -/
theorem bayPoll_eq {s0 s1 s2 s3 : State} {r0 r1 r2 r3 : BayReport} (h0 : pollBay s 0 = (s0, r0)) (h1 : pollBay s0 1 = (s1, r1))
    (h2 : pollBay s1 2 = (s2, r2)) (h3 : pollBay s2 3 = (s3, r3)) :
    bayPoll s = (s3, some ⟨.ok, r0.fields ++ r1.fields ++ r2.fields ++ r3.fields⟩) := by
  simp only [bayPoll, bayNumbers, pollAll, h0, h1, h2, h3, List.append_nil, List.append_assoc]

variable {b : Fin 4} (a : BayAction) (report : BayReport)

/-- A new action is withheld while a pause cause stands (R91). -/
theorem giveAction_paused (hpaused : s.causes ≠ ⟨false, false, false⟩) : s.giveAction b a report = (s, .paused) :=
  if_pos ((causes_any_iff s.causes).2 hpaused)

theorem giveAction_given (hpaused : ¬ s.causes ≠ ⟨false, false, false⟩) :
    s.giveAction b a report = (s.setBay b (s.bays[b].start a s.settings.actionTimeout), report) :=
  if_neg (mt (causes_any_iff s.causes).1 hpaused)

theorem pollBay_indexWanted (hst : s.bays[b].state = .indexWanted) :
    pollBay s b = s.giveAction b .index (.index s.bays[b].target false) := by
  simp only [pollBay, hst]

theorem pollBay_indexing (hst : s.bays[b].state = .indexing) : pollBay s b = (s, .index s.bays[b].target true) := by
  simp only [pollBay, hst]

theorem pollBay_exchanging (hst : s.bays[b].state = .exchanging) : pollBay s b = (s, .exchange true) := by
  simp only [pollBay, hst]

theorem pollBay_nothing (hst : s.bays[b].state = .active ∨ s.bays[b].state = .settling ∨ s.bays[b].state = .atSlot
    ∨ s.bays[b].state = .faulted) : pollBay s b = (s, .nothing) := by
  rcases hst with hst | hst | hst | hst <;> simp only [pollBay, hst]

/-- The test of a FULL or EMPTY bay for a NEXT record with GO (R150). -/
theorem unstaged_iff (c : Bay) : (c.next.isNone = true ∨ c.go = false) ↔ ¬ (c.next ≠ none ∧ c.go = true) := by
  rw [Option.isNone_iff_eq_none, not_and_or, not_not, Bool.not_eq_true]

theorem pollBay_unstaged (hst : s.bays[b].state = .full ∨ s.bays[b].state = .empty)
    (hstaged : ¬ (s.bays[b].next ≠ none ∧ s.bays[b].go = true)) :
    pollBay s b = (s.raise .needMagazine, .needMagazine) := by
  rcases hst with hst | hst <;> simp only [pollBay, hst, if_pos ((unstaged_iff _).2 hstaged)]

variable (hstaged : s.bays[b].next ≠ none ∧ s.bays[b].go = true)

include hstaged

/-- A FULL bay with a staged magazine asks for outgoing room (R150). -/
theorem pollBay_full (hst : s.bays[b].state = .full) : pollBay s b =
    if s.outgoing.length + sendingOut s < 4 then s.giveAction b .exchange (.exchange false)
    else (s.raise .outgoingFull, .outgoingFull) := by
  simp only [pollBay, hst, if_neg (mt (unstaged_iff _).1 (not_not.2 hstaged)), hasOutgoingRoom_iff]

/-- An EMPTY bay with a staged magazine sends nothing out, and needs no room (R150). -/
theorem pollBay_exchanges (hst : (s.bays[b].state = .full ∧ s.outgoing.length + sendingOut s < 4) ∨ s.bays[b].state = .empty) :
    pollBay s b = s.giveAction b .exchange (.exchange false) := by
  rcases hst with ⟨hst, hroom⟩ | hst
  · rw [pollBay_full hstaged hst, if_pos hroom]
  · simp only [pollBay, hst, if_neg (mt (unstaged_iff _).1 (not_not.2 hstaged))]

end

/-- Settles O47: the four bays of the one request, the bytes of a report, then one bay by its state. -/
theorem bayPollDecidesEachBay : Obligations.BayPollDecidesEachBay := by
  refine ⟨fun s hopen => ?_, fun slot outstanding => ?_, fun s b => ?_⟩
  · split
    next s0 r0 h0 =>
    split
    next s1 r1 h1 =>
    split
    next s2 r2 h2 =>
    split
    next s3 r3 h3 =>
    exact exec_replied s3 hopen rfl (bayPoll_eq h0 h1 h2 h3)
  · cases outstanding <;> exact ⟨rfl, rfl, rfl, rfl, rfl, rfl, rfl⟩
  intro bay staged room paused given
  refine ⟨fun hst hpaused => ?_, fun hst hpaused => ?_, pollBay_indexing, pollBay_exchanging, pollBay_unstaged,
    fun hst hstaged hroom => ?_, fun hst hstaged hpaused => ?_, fun hst hstaged hpaused => ?_, pollBay_nothing⟩
  · exact (pollBay_indexWanted hst).trans (giveAction_paused _ _ hpaused)
  · exact (pollBay_indexWanted hst).trans (giveAction_given _ _ hpaused)
  · exact (pollBay_full hstaged hst).trans (if_neg hroom)
  · exact (pollBay_exchanges hstaged hst).trans (giveAction_paused _ _ hpaused)
  · exact (pollBay_exchanges hstaged hst).trans (giveAction_given _ _ hpaused)

/-! ### The timers of a bay (R151, R153, R172) -/

section

variable {s : State} {b : Fin 4} {n : Nat}

theorem expireAction_idle (h : s.bays[b].actionTimer = none ∨ s.bays[b].actionTimer = some (n + 2)
    ∨ s.causes.guardOpen = true) : expireAction b s = s :=
  if_neg (not_due h)

theorem expireAction_last (ht : s.bays[b].actionTimer = some 1) (hguard : s.causes.guardOpen = false) :
    expireAction b s = s.failAction b .actionTimeout :=
  if_pos ⟨by rw [ht]; rfl, hguard⟩

/-- The settle timer is not held by GUARD (R172). -/
theorem expireSettle_idle (h : s.bays[b].settleTimer = none ∨ s.bays[b].settleTimer = some (n + 2)) : expireSettle b s = s :=
  if_neg fun hdue => not_due (held := false) (h.imp_right .inl) ⟨hdue, rfl⟩

theorem expireSettle_last (ht : s.bays[b].settleTimer = some 1) :
    expireSettle b s = s.setBay b { s.bays[b] with settleTimer := none, state := .atSlot } :=
  if_pos (by rw [ht]; rfl)

end

/-! ### BAY-DONE (R151 to R153) -/

/-- A fault leaves the states of the bays (R177, R178). -/
theorem bayState_reportFault (s : State) (c : Context) (b : Fin 4) :
    (s.reportFault c).bays[b].state = s.bays[b].state := by
  refine reportFault_keeps (fun t => t.bays[b].state = s.bays[b].state) s c rfl rfl (fun _ _ => rfl) (fun _ _ => ?_)
  simp [State.enterLockdown, Bay.stopAction]

theorem bayState_failAction (s : State) (b : Fin 4) (cause : FaultCause) :
    (s.failAction b cause).bays[b].state = .faulted := by
  refine (bayState_reportFault _ _ b).trans ?_
  rw [bay_setBay]

section

variable {s : State} {b : Fin 4} (ok : Byte)

/-- A report that names no outstanding action is answered STATE, with the bay's state and action (R151). -/
theorem bayDoneIndex_other (ha : s.bays[b].action ≠ some .index) :
    bayDoneIndex (BitVec.ofNat 8 b) ok s = (s, some (s.doneState (some b))) := by
  simp only [bayDoneIndex, fin?_ofNat b (by decide), if_neg ha]

theorem bayDoneExchange_other (ha : s.bays[b].action ≠ some .exchange) :
    bayDoneExchange (BitVec.ofNat 8 b) ok s = (s, some (s.doneState (some b))) := by
  simp only [bayDoneExchange, fin?_ofNat b (by decide), if_neg ha]

section

variable (s) {above : Byte} (habove : 3 < above.toNat)

include habove

theorem bayDoneIndex_above : bayDoneIndex above ok s = (s, some ⟨.state, [0xFF, 0xFF]⟩) := by
  rw [bayDoneIndex, fin?_eq_none.2 habove]
  rfl

theorem bayDoneExchange_above : bayDoneExchange above ok s = (s, some ⟨.state, [0xFF, 0xFF]⟩) := by
  rw [bayDoneExchange, fin?_eq_none.2 habove]
  rfl

end

theorem bayDoneIndex_failed (ha : s.bays[b].action = some .index) :
    bayDoneIndex (BitVec.ofNat 8 b) 0 s = (s.failAction b .indexFailed, some ⟨.ok, [8]⟩) := by
  have hstate := bayState_failAction s b .indexFailed
  simp only [bayDoneIndex, fin?_ofNat b (by decide), if_pos ha]
  change (s.failAction b .indexFailed, some (⟨.ok, u8 (s.failAction b .indexFailed).bays[b].state.code⟩ : Reply)) = _
  rw [hstate]
  rfl

theorem bayDoneExchange_failed (ha : s.bays[b].action = some .exchange) :
    bayDoneExchange (BitVec.ofNat 8 b) 0 s = (s.failAction b .exchangeFailed, some ⟨.ok, [8]⟩) := by
  have hstate := bayState_failAction s b .exchangeFailed
  simp only [bayDoneExchange, fin?_ofNat b (by decide), if_pos ha]
  change (s.failAction b .exchangeFailed, some (⟨.ok, u8 (s.failAction b .exchangeFailed).bays[b].state.code⟩ : Reply)) = _
  rw [hstate]
  rfl

variable {ok} (hok : ok ≠ 0)

include hok

theorem bayDoneIndex_succeeded (ha : s.bays[b].action = some .index) : bayDoneIndex (BitVec.ofNat 8 b) ok s =
    (s.setBay b (s.bays[b].indexed s.settings.settleTime),
      some ⟨.ok, u8 (s.bays[b].indexed s.settings.settleTime).state.code⟩) := by
  simp only [bayDoneIndex, fin?_ofNat b (by decide), if_pos ha, doneIndex, flagSet_of_ne hok, if_true, bay_setBay]

theorem bayDoneIndex_settles (ha : s.bays[b].action = some .index) (htime : s.settings.settleTime ≠ 0) :
    bayDoneIndex (BitVec.ofNat 8 b) ok s = (s.setBay b
      { s.bays[b].endAction with state := .settling, settleTimer := some s.settings.settleTime }, some ⟨.ok, [4]⟩) := by
  rw [bayDoneIndex_succeeded hok ha, Bay.indexed, if_neg htime]
  rfl

/-- A settle time of 0 passes SETTLING over (R151). -/
theorem bayDoneIndex_arrives (ha : s.bays[b].action = some .index) (htime : s.settings.settleTime = 0) :
    bayDoneIndex (BitVec.ofNat 8 b) ok s = (s.setBay b { s.bays[b].endAction with state := .atSlot }, some ⟨.ok, [5]⟩) := by
  rw [bayDoneIndex_succeeded hok ha, Bay.indexed, if_pos htime]
  rfl

theorem bayDoneExchange_succeeded (ha : s.bays[b].action = some .exchange) :
    bayDoneExchange (BitVec.ofNat 8 b) ok s = (doneExchange s b, some ⟨.ok, exchangeFields s b⟩) := by
  simp only [bayDoneExchange, fin?_ofNat b (by decide), if_pos ha, flagSet_of_ne hok, if_true]

variable {m : Magazine} (ha : s.bays[b].action = some .exchange) (hnext : s.bays[b].next = some m)

include ha hnext

/-- A bay without a CURRENT record sends nothing out (R152). -/
theorem bayDoneExchange_first (hcur : s.bays[b].current = none) : bayDoneExchange (BitVec.ofNat 8 b) ok s =
    (s.setBay b { s.bays[b].endAction with
      current := some m, next := none, go := false, state := .active, target := none },
      some ⟨.ok, u32 m.id.toNat ++ [0xFF]⟩) := by
  rw [bayDoneExchange_succeeded hok ha]
  simp only [doneExchange, exchangeFields, Bay.exchanged, hnext, hcur]
  rfl

/-- The old CURRENT record goes to the tail of the outgoing list (R152). -/
theorem bayDoneExchange_sendsOut {old : Magazine} (hcur : s.bays[b].current = some old) :
    bayDoneExchange (BitVec.ofNat 8 b) ok s =
      (({ s with outgoing := s.outgoing ++ [old] }.raise .magazineOut).setBay b { s.bays[b].endAction with
        current := some m, next := none, go := false, state := .active, target := none },
        some ⟨.ok, u32 m.id.toNat ++ u8 s.outgoing.length⟩) := by
  rw [bayDoneExchange_succeeded hok ha]
  simp only [doneExchange, exchangeFields, Bay.exchanged, hnext, hcur]
  rfl

end

/-- Settles O48: the timers that do not run out, the reports by their action, then the timers' last ticks. What the elevator's
request finds differs from the part before it in its line alone, so each row is its lemma by definition. -/
theorem bayActionsEnd : Obligations.BayActionsEnd := by
  refine ⟨fun s b n hr => ⟨fun h => ?_, fun h => ?_⟩, fun s b ok => ?_⟩
  · exact exec_event_eq hr rfl (expireAction_idle h)
  · exact exec_event_eq hr rfl (expireSettle_idle h)
  intro b8 r0 bay ended done failed state
  refine ⟨fun hopen => ⟨fun ha hok htime => ?_, fun ha hok htime => ?_, fun ha hok => ?_, fun ha hok => ?_,
    fun m ha hok hnext => ⟨fun hcur => ?_, fun old hcur => ?_⟩, fun ha => ?_, fun ha => ?_, fun above habove => ⟨?_, ?_⟩⟩,
    fun hr ht hguard => ?_, fun hr ht => ?_⟩
  · exact exec_replied _ hopen rfl (bayDoneIndex_settles (s := r0) hok ha htime)
  · exact exec_replied _ hopen rfl (bayDoneIndex_arrives (s := r0) hok ha htime)
  · exact hok ▸ exec_replied _ hopen rfl (bayDoneIndex_failed (s := r0) ha)
  · exact hok ▸ exec_replied _ hopen rfl (bayDoneExchange_failed (s := r0) ha)
  · exact exec_replied _ hopen rfl (bayDoneExchange_first (s := r0) hok ha hnext hcur)
  · exact exec_replied _ hopen rfl (bayDoneExchange_sendsOut (s := r0) hok ha hnext hcur)
  · exact exec_replied r0 hopen rfl (bayDoneIndex_other (s := r0) ok ha)
  · exact exec_replied r0 hopen rfl (bayDoneExchange_other (s := r0) ok ha)
  · exact exec_replied r0 hopen rfl (bayDoneIndex_above r0 ok habove)
  · exact exec_replied r0 hopen rfl (bayDoneExchange_above r0 ok habove)
  · exact exec_event_eq hr rfl (expireAction_last ht hguard)
  · exact exec_event_eq hr rfl (expireSettle_last ht)

end Sys2Proof.Machine
end

section
/-! The host's commands on one bay: MAG-STAGE, MAG-GO, MAG-UNSTAGE, BAY-EXCHANGE, BAY-CLEAR (R154 to R157). -/

namespace Sys2Proof.Machine

/-! ### What the refusals ask (R154, R156) -/

theorem bayReserved_iff (s : State) (b : Fin 4) :
    s.bayReserved b = true ↔ ∃ h r x, s.board h = some x ∧ x.reservation = some r ∧ r.bay = b := by
  simp only [State.bayReserved, List.any_eq_true, Prod.exists, mem_allBoards]
  refine exists_congr fun h => ?_
  rw [exists_comm]
  refine exists_congr fun x => ?_
  cases x.reservation <;> simp

/-- The id is that of another record: a CURRENT one, the NEXT one of another bay, or an outgoing one (R154). -/
theorem magazineIdHeld_iff (s : State) (b : Fin 4) (id : Word) : s.magazineIdHeld b id = true ↔
    (∃ x : Fin 4, ∃ m, s.bays[x].current = some m ∧ m.id = id)
      ∨ (∃ x : Fin 4, ∃ m, x ≠ b ∧ s.bays[x].next = some m ∧ m.id = id) ∨ ∃ m ∈ s.outgoing, m.id = id := by
  have hmem : ∀ x, x ∈ bayNumbers := mem_entries
  simp only [State.magazineIdHeld, Bool.or_eq_true, List.any_eq_true, hmem, true_and, Bool.and_eq_true, decide_eq_true_eq,
    Option.map_eq_some_iff, exists_and_left, or_assoc]

/-! ### A bay above 3 -/

section

variable (s : State) {above : Byte} (habove : 3 < above.toNat)

include habove

theorem magStage_above (id : Word) (slots : Byte) (pitch clearance : Half) :
    magStage above id slots pitch clearance s = (s, some (.bare .range)) := by
  rw [magStage, fin?_eq_none.2 habove]

theorem magGo_above : magGo above s = (s, some (.bare .range)) := by
  rw [magGo, fin?_eq_none.2 habove]

theorem magUnstage_above : magUnstage above s = (s, some (.bare .range)) := by
  rw [magUnstage, fin?_eq_none.2 habove]

theorem bayExchange_above : bayExchange above s = (s, some (.bare .range)) := by
  rw [bayExchange, fin?_eq_none.2 habove]

theorem bayClear_above (loaded : Byte) : bayClear above loaded s = (s, some (.bare .range)) := by
  rw [bayClear, fin?_eq_none.2 habove]

end

/-! ### MAG-STAGE (R154) -/

section

variable {s : State} {b : Fin 4} {id : Word} {slots : Byte} {pitch clearance : Half}

theorem magStage_range (hcount : slots.toNat = 0 ∨ 80 < slots.toNat) :
    magStage (BitVec.ofNat 8 b) id slots pitch clearance s = (s, some (.bare .range)) := by
  have hbad : slots = 0 ∨ 80 < slots.toNat := hcount.imp_left BitVec.eq_of_toNat_eq
  simp only [magStage, fin?_ofNat b (by decide), if_pos hbad]

variable (hlow : 1 ≤ slots.toNat) (hhigh : slots.toNat ≤ 80)

include hlow hhigh

/-- With a slot count in range the records are looked at. -/
theorem magStage_inRange : magStage (BitVec.ofNat 8 b) id slots pitch clearance s =
    if s.bays[b].next ≠ none ∧ s.bays[b].go = true then (s, some (.bare .busy))
    else if s.magazineIdHeld b id then (s, some (.bare .duplicate))
    else
      let m := stagedMagazine id slots.toNat pitch.toNat clearance.toNat
      (s.setBay b { s.bays[b] with next := some m, go := false },
        some (.ok (u8 b ++ u32 m.id.toNat ++ u16 m.pitch ++ u16 m.clearance))) := by
  have hgood : ¬ (slots = 0 ∨ 80 < slots.toNat) := by
    rintro (rfl | hbig)
    · simp at hlow
    · omega
  simp only [magStage, fin?_ofNat b (by decide), if_neg hgood, Option.isSome_iff_ne_none]

theorem magStage_busy (hcommitted : s.bays[b].next ≠ none ∧ s.bays[b].go = true) :
    magStage (BitVec.ofNat 8 b) id slots pitch clearance s = (s, some (.bare .busy)) := by
  rw [magStage_inRange hlow hhigh, if_pos hcommitted]

variable (hfree : ¬ (s.bays[b].next ≠ none ∧ s.bays[b].go = true))

include hfree

theorem magStage_duplicate (hdup : s.magazineIdHeld b id = true) :
    magStage (BitVec.ofNat 8 b) id slots pitch clearance s = (s, some (.bare .duplicate)) := by
  rw [magStage_inRange hlow hhigh, if_neg hfree, if_pos hdup]

theorem magStage_stages {m : Magazine} (hnew : ¬ s.magazineIdHeld b id = true)
    (hm : stagedMagazine id slots.toNat pitch.toNat clearance.toNat = m) :
    magStage (BitVec.ofNat 8 b) id slots pitch clearance s = (s.setBay b { s.bays[b] with next := some m, go := false },
      some (.ok ([BitVec.ofNat 8 b] ++ u32 id.toNat ++ u16 m.pitch ++ u16 m.clearance))) := by
  subst hm
  rw [magStage_inRange hlow hhigh, if_neg hfree, if_neg hnew]
  rfl

end

theorem stagedMagazine_eq (id : Word) (slots pitch clearance : Nat) : stagedMagazine id slots pitch clearance =
    ⟨id, min (max 2000 pitch) 20000, min clearance 5000, 0, List.replicate slots .empty⟩ := by
  rw [stagedMagazine, clampTo_eq (by decide), clampTo_eq (by decide), Nat.zero_max]

/-! ### MAG-GO and MAG-UNSTAGE (R155) -/

section

variable {s : State} {b : Fin 4} {m : Magazine}

theorem magGo_noNext (h : s.bays[b].next = none) : magGo (BitVec.ofNat 8 b) s = (s, some (.bare .noNext)) := by
  simp only [magGo, fin?_ofNat b (by decide), h]

theorem magUnstage_noNext (h : s.bays[b].next = none) : magUnstage (BitVec.ofNat 8 b) s = (s, some (.bare .noNext)) := by
  simp only [magUnstage, fin?_ofNat b (by decide), h]

variable (h : s.bays[b].next = some m)

include h

theorem magGo_goes : magGo (BitVec.ofNat 8 b) s = (s.setBay b { s.bays[b] with go := true }, some (.ok (u32 m.id.toNat))) := by
  simp only [magGo, fin?_ofNat b (by decide), h]

theorem magUnstage_committed (hgo : s.bays[b].go = true) : magUnstage (BitVec.ofNat 8 b) s = (s, some (.bare .busy)) := by
  simp only [magUnstage, fin?_ofNat b (by decide), h, if_pos hgo]

theorem magUnstage_unstages (hgo : s.bays[b].go = false) : magUnstage (BitVec.ofNat 8 b) s =
    (s.setBay b { s.bays[b] with next := none }, some (.ok (u32 m.id.toNat))) := by
  simp only [magUnstage, fin?_ofNat b (by decide), h, hgo]
  rfl

end

/-! ### BAY-EXCHANGE (R156) -/

section

variable {s : State} {b : Fin 4}

theorem bayExchange_state (hactive : s.bays[b].state ≠ .active) (hslot : s.bays[b].state ≠ .atSlot) :
    bayExchange (BitVec.ofNat 8 b) s = (s, some (.bare .state)) := by
  simp only [bayExchange, fin?_ofNat b (by decide), if_pos (not_or.2 ⟨hactive, hslot⟩)]

variable (hst : s.bays[b].state = .active ∨ s.bays[b].state = .atSlot)

include hst

theorem bayExchange_busy (h : s.bayReserved b = true ∨ s.bays[b].confirm ≠ none) :
    bayExchange (BitVec.ofNat 8 b) s = (s, some (.bare .busy)) := by
  rw [← Option.isSome_iff_ne_none] at h
  simp only [bayExchange, fin?_ofNat b (by decide), if_neg (not_not.2 hst), if_pos h]

theorem bayExchange_fills {m : Magazine} (hm : s.bays[b].current = some m) (hres : ¬ s.bayReserved b = true)
    (hconfirm : s.bays[b].confirm = none) : bayExchange (BitVec.ofNat 8 b) s =
      (s.setBay b { s.bays[b] with state := .full, target := none }, some (.ok (u8 m.fill ++ u8 m.slots.length))) := by
  have hidle : ¬ (s.bayReserved b = true ∨ s.bays[b].confirm.isSome = true) :=
    not_or.2 ⟨hres, by rw [hconfirm]; exact Bool.false_ne_true⟩
  simp only [bayExchange, fin?_ofNat b (by decide), if_neg (not_not.2 hst), if_neg hidle, hm]
  rfl

end

/-! ### BAY-CLEAR (R157) -/

section

variable {s : State} {b : Fin 4}

theorem clearRefusal_loaded {loaded : Byte} (hloaded : loaded ≠ 0) (hcur : s.bays[b].current ≠ none) :
    s.clearRefusal b (flagSet loaded) = none := by
  have hsome : ¬ s.bays[b].current.isNone = true := mt Option.isNone_iff_eq_none.1 hcur
  simp only [State.clearRefusal, flagSet_of_ne hloaded, if_true, if_neg hsome]

/-- Without a magazine put in, a reservation or an OPEN confirm window refuses (R157). -/
theorem clearRefusal_busy (h : s.bayReserved b = true ∨ s.bays[b].confirm ≠ none) :
    s.clearRefusal b (flagSet 0) = some .busy := by
  refine (if_neg (by decide)).trans ?_
  by_cases hres : s.bayReserved b = true
  · exact if_pos hres
  · exact (if_neg hres).trans (if_pos (Option.isSome_iff_ne_none.2 (h.resolve_left hres)))

/-- Otherwise only the want of outgoing room for a CURRENT record does (R157). -/
theorem clearRefusal_unloaded (hres : ¬ s.bayReserved b = true) (hconfirm : s.bays[b].confirm = none) :
    s.clearRefusal b (flagSet 0) =
      if s.bays[b].current.isSome = true ∧ s.hasOutgoingRoom = false then some .outgoingFull else none := by
  have hclosed : ¬ s.bays[b].confirm.isSome = true := by rw [hconfirm]; exact Bool.false_ne_true
  exact (if_neg (by decide)).trans ((if_neg hres).trans (if_neg hclosed))

end

section

variable {s : State} {b : Fin 4} {loaded : Byte}

theorem bayClear_state (hst : s.bays[b].state ≠ .faulted) : bayClear (BitVec.ofNat 8 b) loaded s = (s, some (.bare .state)) := by
  simp only [bayClear, fin?_ofNat b (by decide), if_pos hst]

variable (hst : s.bays[b].state = .faulted)

include hst

theorem bayClear_refused {code : HostCode} (h : s.clearRefusal b (flagSet loaded) = some code) :
    bayClear (BitVec.ofNat 8 b) loaded s = (s, some (.bare code)) := by
  simp only [bayClear, fin?_ofNat b (by decide), if_neg (not_not.2 hst), h]

/-- A BAY-CLEAR that is taken writes the bay and answers its new state. -/
theorem bayClear_taken {t : State} {r : Bay} (h : s.clearRefusal b (flagSet loaded) = none)
    (ht : clearBay s b (flagSet loaded) = t.setBay b r) :
    bayClear (BitVec.ofNat 8 b) loaded s = (t.setBay b r, some (.ok (u8 r.state.code))) := by
  simp only [bayClear, fin?_ofNat b (by decide), if_neg (not_not.2 hst), h, ht, bay_setBay]

section

variable (hloaded : loaded ≠ 0)

include hloaded

theorem bayClear_noMagazine (hcur : s.bays[b].current = none) :
    bayClear (BitVec.ofNat 8 b) loaded s = (s, some (.bare .noMagazine)) := by
  refine bayClear_refused hst ?_
  rw [flagSet_of_ne hloaded]
  simp only [State.clearRefusal, hcur]
  rfl

theorem bayClear_reindexes (hcur : s.bays[b].current ≠ none) (hres : s.bayReserved b = true) :
    bayClear (BitVec.ofNat 8 b) loaded s = (s.setBay b { s.bays[b] with state := .indexWanted }, some (.ok [2])) :=
  bayClear_taken hst (clearRefusal_loaded hloaded hcur) (by rw [flagSet_of_ne hloaded, clearBay, if_pos rfl, if_pos hres])

theorem bayClear_reactivates (hcur : s.bays[b].current ≠ none) (hres : ¬ s.bayReserved b = true) :
    bayClear (BitVec.ofNat 8 b) loaded s =
      (s.setBay b { s.bays[b] with state := .active, target := none }, some (.ok [1])) :=
  bayClear_taken hst (clearRefusal_loaded hloaded hcur) (by rw [flagSet_of_ne hloaded, clearBay, if_pos rfl, if_neg hres])

end

theorem bayClear_busy (h : s.bayReserved b = true ∨ s.bays[b].confirm ≠ none) :
    bayClear (BitVec.ofNat 8 b) 0 s = (s, some (.bare .busy)) :=
  bayClear_refused hst (clearRefusal_busy h)

variable (hres : ¬ s.bayReserved b = true) (hconfirm : s.bays[b].confirm = none)

include hres hconfirm

theorem bayClear_empties (hcur : s.bays[b].current = none) : bayClear (BitVec.ofNat 8 b) 0 s =
    (s.setBay b { s.bays[b] with current := none, state := .empty, target := none }, some (.ok [0])) := by
  refine bayClear_taken hst ((clearRefusal_unloaded hres hconfirm).trans (if_neg ?_)) ?_
  · simp only [hcur]
    exact fun hsome => absurd hsome.1 Bool.false_ne_true
  · refine (if_neg (by decide)).trans ?_
    rw [hcur]
    rfl

variable {m : Magazine} (hm : s.bays[b].current = some m)

include hm

theorem bayClear_outgoingFull (hfull : 4 ≤ s.outgoing.length + sendingOut s) :
    bayClear (BitVec.ofNat 8 b) 0 s = (s, some (.bare .outgoingFull)) := by
  refine bayClear_refused hst ((clearRefusal_unloaded hres hconfirm).trans (if_pos ⟨by rw [hm]; rfl, ?_⟩))
  exact Bool.eq_false_iff.2 fun hroom => absurd ((hasOutgoingRoom_iff s).1 hroom) hfull.not_gt

theorem bayClear_sendsOut (hroom : s.outgoing.length + sendingOut s < 4) : bayClear (BitVec.ofNat 8 b) 0 s =
    (({ s with outgoing := s.outgoing ++ [m] }.raise .magazineOut).setBay b
      { s.bays[b] with current := none, state := .empty, target := none }, some (.ok [0])) := by
  refine bayClear_taken hst ((clearRefusal_unloaded hres hconfirm).trans (if_neg ?_)) ?_
  · rintro ⟨-, hnone⟩
    exact absurd ((hasOutgoingRoom_iff s).2 hroom) (Bool.eq_false_iff.1 hnone)
  · refine (if_neg (by decide)).trans ?_
    rw [hm]
    rfl

end

/-- Settles O49: a bay above 3 first, then the five commands on one bay, each by its refusals and its effect. -/
theorem hostManagesABay : Obligations.HostManagesABay := by
  refine ⟨fun s above slots loaded id pitch clearance ⟨hopen, hnormal⟩ habove => ⟨?_, ?_, ?_, ?_, ?_⟩,
    fun s b ⟨hopen, hnormal⟩ => ?_⟩
  · exact exec_answered hopen (.inl hnormal) rfl (magStage_above _ habove id slots pitch clearance)
  · exact exec_answered hopen (.inl hnormal) rfl (magGo_above _ habove)
  · exact exec_answered hopen (.inl hnormal) rfl (magUnstage_above _ habove)
  · exact exec_answered hopen (.inl hnormal) rfl (bayExchange_above _ habove)
  · exact exec_answered hopen (.inl hnormal) rfl (bayClear_above _ habove loaded)
  intro b8 bay reserved
  let s0 : State := { s with ovr := false }
  have hreserved : s0.bayReserved b = true ↔ reserved := bayReserved_iff s0 b
  refine ⟨fun id slots pitch clearance => ?_, fun hnext => ⟨?_, ?_⟩, fun m hnext => ⟨?_, fun hgo => ?_, fun hgo => ?_⟩,
    fun hactive hslot => ?_, fun hst hbusy => ?_, fun m hm hst hres hconfirm => ?_, fun loaded hst => ?_, fun hst => ?_⟩
  · intro stage dup committed m
    have hdup : s0.magazineIdHeld b id = true ↔ dup := magazineIdHeld_iff s0 b id
    refine ⟨fun hcount => ?_, fun hlow hhigh hcommitted => ?_, fun hlow hhigh hfree hheld => ?_,
      fun hlow hhigh hfree hnew => ?_⟩
    · exact exec_answered hopen (.inl hnormal) rfl (magStage_range hcount)
    · exact exec_answered hopen (.inl hnormal) rfl (magStage_busy (s := s0) hlow hhigh hcommitted)
    · exact exec_answered hopen (.inl hnormal) rfl (magStage_duplicate (s := s0) hlow hhigh hfree (hdup.2 hheld))
    · exact exec_changes _ hopen (.inl hnormal) rfl
        (magStage_stages (s := s0) hlow hhigh hfree (mt hdup.1 hnew) (stagedMagazine_eq id _ _ _))
  · exact exec_answered hopen (.inl hnormal) rfl (magGo_noNext (s := s0) hnext)
  · exact exec_answered hopen (.inl hnormal) rfl (magUnstage_noNext (s := s0) hnext)
  · exact exec_changes _ hopen (.inl hnormal) rfl (magGo_goes (s := s0) hnext)
  · exact exec_answered hopen (.inl hnormal) rfl (magUnstage_committed (s := s0) hnext hgo)
  · exact exec_changes _ hopen (.inl hnormal) rfl (magUnstage_unstages (s := s0) hnext hgo)
  · exact exec_answered hopen (.inl hnormal) rfl (bayExchange_state (s := s0) hactive hslot)
  · exact exec_answered hopen (.inl hnormal) rfl (bayExchange_busy (s := s0) hst (hbusy.imp_left hreserved.2))
  · exact exec_changes _ hopen (.inl hnormal) rfl (bayExchange_fills (s := s0) hst hm (mt hreserved.1 hres) hconfirm)
  · exact exec_answered hopen (.inl hnormal) rfl (bayClear_state (s := s0) hst)
  refine ⟨fun loaded hloaded => ⟨fun hcur => ?_, fun hcur hres => ?_, fun hcur hres => ?_⟩, fun hbusy => ?_,
    fun hres hconfirm => ⟨fun hcur => ?_, fun m hm => ⟨fun hfull => ?_, fun hroom => ?_⟩⟩⟩
  · exact exec_answered hopen (.inl hnormal) rfl (bayClear_noMagazine (s := s0) hst hloaded hcur)
  · exact exec_changes _ hopen (.inl hnormal) rfl (bayClear_reindexes (s := s0) hst hloaded hcur (hreserved.2 hres))
  · exact exec_changes _ hopen (.inl hnormal) rfl (bayClear_reactivates (s := s0) hst hloaded hcur (mt hreserved.1 hres))
  · exact exec_answered hopen (.inl hnormal) rfl (bayClear_busy (s := s0) hst (hbusy.imp_left hreserved.2))
  · exact exec_changes _ hopen (.inl hnormal) rfl (bayClear_empties (s := s0) hst (mt hreserved.1 hres) hconfirm hcur)
  · exact exec_answered hopen (.inl hnormal) rfl
      (bayClear_outgoingFull (s := s0) hst (mt hreserved.1 hres) hconfirm hm hfull)
  · exact exec_changes _ hopen (.inl hnormal) rfl
      (bayClear_sendsOut (s := s0) hst (mt hreserved.1 hres) hconfirm hm hroom)

end Sys2Proof.Machine
end

section
/-! MAG-RELEASE and BAY-ROUTE (R158, R160): the outgoing list and the routing table as the host leaves them. -/

namespace Sys2Proof.Machine

/-! ### MAG-RELEASE (R158) -/

section

variable {s : State}

theorem magRelease_removes {before after : List Magazine} {m : Magazine} (hout : s.outgoing = before ++ m :: after)
    (hbefore : ∀ x ∈ before, x.id ≠ m.id) : magRelease m.id s =
      ({ s with outgoing := before ++ after }, some (.ok (u16 (before ++ after).length))) := by
  have hheld : s.outgoing.any (fun x => decide (x.id = m.id)) = true := by simp [hout]
  have hrest : s.outgoing.eraseP (fun x => decide (x.id = m.id)) = before ++ after := by
    rw [hout, List.eraseP_append_right _ (by simpa using hbefore), List.eraseP_cons_of_pos (by simp)]
  simp only [magRelease, if_pos hheld, hrest]

theorem magRelease_notFound {id : Word} (h : ∀ x ∈ s.outgoing, x.id ≠ id) : magRelease id s = (s, some (.bare .notFound)) :=
  if_neg (by simpa using h)

end

/-! ### The payload of BAY-ROUTE (R160, R194) -/

theorem routeLength_eq_false {payload : List Byte} (h : payload = [] ∨ payload.length % 2 = 1 ∨ 32 < payload.length) :
    routeLength payload = false := by
  refine decide_eq_false fun ⟨hsome, heven, hshort⟩ => ?_
  rcases h with rfl | hodd | hlong
  · exact hsome rfl
  · omega
  · omega

/-- The bytes of a list of pairs. -/
def pairBytes (pairs : List (Byte × Byte)) : List Byte := pairs.flatMap (fun p => [p.1, p.2])

theorem length_pairBytes (pairs : List (Byte × Byte)) : (pairBytes pairs).length = 2 * pairs.length := by
  simp [pairBytes, List.length_flatMap, Nat.mul_comm]

theorem pairsOf_pairBytes (pairs : List (Byte × Byte)) :
    pairsOf (pairBytes pairs) = pairs.map (fun p => (p.1.toNat, p.2.toNat)) := by
  induction pairs with
  | nil => rfl
  | cons p rest ih => exact congrArg ((p.1.toNat, p.2.toNat) :: ·) ih

theorem routeLength_pairBytes {pairs : List (Byte × Byte)} (hsome : 1 ≤ pairs.length) (hshort : pairs.length ≤ 16) :
    routeLength (pairBytes pairs) = true := by
  have hlen := length_pairBytes pairs
  exact decide_eq_true ⟨by omega, by omega, by omega⟩

/-! ### The routing table (R160) -/

section

variable (t : Vector (Option (Fin 4)) 16) {v : Fin 16} {p : Nat × Nat}

theorem writeRoute_same (h : p.1 = v.val) : (writeRoute t p)[v] = fin? 4 p.2 := by
  simp [writeRoute, fin?_eq_some.2 h.symm]

theorem writeRoute_other (h : p.1 ≠ v.val) : (writeRoute t p)[v] = t[v] := by
  unfold writeRoute
  split
  · next w hw =>
    have hne : w.val ≠ v.val := fun heq => h ((fin?_eq_some.1 hw).symm.trans heq)
    simp [hne]
  · rfl

/-- A variant that no pair names keeps its destination. -/
theorem foldl_writeRoute_other {l : List (Nat × Nat)} (h : ∀ p ∈ l, p.1 ≠ v.val) : (l.foldl writeRoute t)[v] = t[v] := by
  induction l generalizing t with
  | nil => rfl
  | cons p rest ih =>
    obtain ⟨hp, hrest⟩ := List.forall_mem_cons.1 h
    exact (ih (writeRoute t p) hrest).trans (writeRoute_other t hp)

/-- Of the pairs that name a variant the last one decides. -/
theorem foldl_writeRoute_last (before : List (Nat × Nat)) {after : List (Nat × Nat)} (hp : p.1 = v.val)
    (hafter : ∀ q ∈ after, q.1 ≠ v.val) : ((before ++ p :: after).foldl writeRoute t)[v] = fin? 4 p.2 := by
  rw [List.foldl_append, List.foldl_cons, foldl_writeRoute_other _ hafter, writeRoute_same _ hp]

end

/-- Destination 4 is read back for NONE. -/
theorem elim_fin?_four {d : Nat} (h : d ≤ 4) : (fin? 4 d).elim 4 Fin.val = d := by
  unfold fin?
  split
  · rfl
  · simp only [Option.elim]
    omega

/-! ### BAY-ROUTE (R160) -/

/-- The routing table after a list of pairs. -/
def State.routed (s : State) (pairs : List (Byte × Byte)) : Vector (Option (Fin 4)) 16 :=
  (pairs.map (fun p => (p.1.toNat, p.2.toNat))).foldl writeRoute s.routing

section

variable (s : State) {pairs : List (Byte × Byte)}

theorem bayRoute_range (h : ∃ p ∈ pairs, 15 < p.1.toNat ∨ 4 < p.2.toNat) :
    bayRoute (pairBytes pairs) s = (s, some (.bare .range)) := by
  rw [bayRoute, pairsOf_pairBytes]
  exact if_pos (by simpa using h)

theorem bayRoute_writes (h : ∀ p ∈ pairs, p.1.toNat ≤ 15 ∧ p.2.toNat ≤ 4) : bayRoute (pairBytes pairs) s =
    ({ s with routing := s.routed pairs }, some (.ok (routingFields (s.routed pairs)))) := by
  rw [bayRoute, pairsOf_pairBytes]
  exact if_neg (by simpa using h)

theorem routed_other {v : Fin 16} (h : ∀ p ∈ pairs, p.1.toNat ≠ v.val) : (s.routed pairs)[v] = s.routing[v] :=
  foldl_writeRoute_other _ (List.forall_mem_map.2 h)

theorem routed_last {v : Fin 16} {before after : List (Byte × Byte)} {d : Byte}
    (hpairs : pairs = before ++ (BitVec.ofNat 8 v, d) :: after) (hafter : ∀ p ∈ after, p.1.toNat ≠ v.val)
    (hd : d.toNat ≤ 4) : (s.routed pairs)[v].elim 4 Fin.val = d.toNat := by
  have hv : (BitVec.ofNat 8 v.val).toNat = v.val := by
    rw [BitVec.toNat_ofNat]
    omega
  rw [State.routed, hpairs, List.map_append, List.map_cons,
    foldl_writeRoute_last s.routing _ hv (List.forall_mem_map.2 hafter), elim_fin?_four hd]

end

/-- Settles O50: the record released or not found, the payload of a wrong length, then the pairs. -/
theorem manifestsAreReleasedAndVariantsRouted : Obligations.ManifestsAreReleasedAndVariantsRouted := by
  rintro s ⟨hopen, hnormal⟩
  refine ⟨fun before after m hout hbefore => ?_, fun id h => ?_, fun payload h => ?_, fun pairs hsome hshort => ?_⟩
  · exact exec_changes _ hopen (.inl hnormal) rfl (magRelease_removes (s := { s with ovr := false }) hout hbefore)
  · exact exec_answered hopen (.inl hnormal) rfl (magRelease_notFound (s := { s with ovr := false }) h)
  · have hnone : bayRouteCommand payload = none := by rw [bayRouteCommand, routeLength_eq_false h]; rfl
    refine congrArg Host.Outcome.next ?_
    rw [hnone]
    exact takeCommandOr_length s .bayRoute hopen (.inl hnormal)
  intro payload
  have hexec : exec (.bayRoute payload) s = .next (s.takeCommand .bayRoute (bayRoute payload)) :=
    congrArg (fun c => Host.Outcome.next (s.takeCommandOr .bayRoute c)) (if_pos (routeLength_pairBytes hsome hshort))
  refine ⟨fun hbad => ?_, fun hgood => ⟨s.routed pairs, ?_, fun v => ⟨routed_other s, fun before after d hpairs hafter => ?_⟩⟩⟩
  · exact exec_answered hopen (.inl hnormal) hexec (bayRoute_range _ hbad)
  · exact exec_changes { s with routing := s.routed pairs } hopen (.inl hnormal) hexec (bayRoute_writes _ hgood)
  · exact routed_last s hpairs hafter (hgood (BitVec.ofNat 8 v, d) (by simp [hpairs])).2

end Sys2Proof.Machine
end

section
/-! The Input Filter and the edges of a sample (R163, R164): what one sample makes of a filter record, which inputs have an edge,
and what an edge at its block leaves as it was. -/

namespace Sys2Proof.Machine

/-! ### One input (R164) -/

/-- A sample that agrees with the filtered level starts the run again. -/
theorem sample_agrees (c : Settings) {raw : Bool} {f : FilterRecord} (h : raw = f.level) :
    f.sample c raw = ⟨f.level, 0⟩ :=
  if_pos h

/-- A sample that differs counts while the run is too short. -/
theorem sample_counts (c : Settings) {raw : Bool} {f : FilterRecord} (h : raw ≠ f.level) (hrun : f.run + 1 < countFor c raw) :
    f.sample c raw = ⟨f.level, f.run + 1⟩ := by
  rw [FilterRecord.sample, if_neg h, if_neg hrun.not_ge]

/-- The sample that makes the run long enough changes the filtered level. -/
theorem sample_takes (c : Settings) {raw : Bool} {f : FilterRecord} (h : raw ≠ f.level) (hrun : countFor c raw ≤ f.run + 1) :
    f.sample c raw = ⟨raw, 0⟩ := by
  rw [FilterRecord.sample, if_neg h, if_pos hrun]

/-- A changed level is the raw level. -/
theorem level_sample_of_ne {c : Settings} {raw : Bool} {f : FilterRecord} (h : (f.sample c raw).level ≠ f.level) :
    (f.sample c raw).level = raw := by
  unfold FilterRecord.sample at h ⊢
  split
  · next heq => exact heq.symm
  next hne =>
    rw [if_neg hne] at h
    split
    · rfl
    next hrun => exact absurd (by rw [if_neg hrun]) h

/-- Every input is sampled on its own. -/
theorem sampleAll_get (c : Settings) (raw : BitVec 7) (v : Vector FilterRecord 7) (i : Fin 7) :
    (sampleAll c raw v)[i] = v[i].sample c (raw.getLsbD i) := by
  simp [sampleAll]

/-! ### Edges (R163, R164) -/

theorem inputs_eq_finRange : inputs = List.finRange 7 := by decide

/-- The edges of a sample are the changes of the filtered levels. -/
theorem mem_edges (before after : Vector FilterRecord 7) (i : Fin 7) :
    i ∈ edges before after ↔ before[i].level ≠ after[i].level := by
  simp [edges, inputs_eq_finRange]

theorem takeEdges_eq_foldl (s : State) (after : Vector FilterRecord 7) (found : List (Fin 7)) :
    s.takeEdges after found = found.foldl (fun v i => v.takeEdge i after[i].level) s := by
  induction found generalizing s with
  | nil => rfl
  | cons i rest ih => exact ih _

/-- The inputs of the two clamps (R163). -/
theorem takeEdge_clamp (s : State) (f : Fin 2) (closed : Bool) :
    s.takeEdge ⟨f.val + 1, by omega⟩ closed = s.clampEdge f closed := by
  match f with
  | 0 | 1 => rfl

/-- The inputs of the four bay sensors (R163). -/
theorem takeEdge_sensor (s : State) (b : Fin 4) (present : Bool) :
    s.takeEdge ⟨b.val + 3, by omega⟩ present = s.sensorEdge b present := by
  match b with
  | 0 | 1 | 2 | 3 => rfl

/-- An edge is one of GUARD, of a clamp or of a bay sensor (R163). -/
theorem takeEdge_cases (i : Fin 7) :
    i = 0 ∨ (∃ f : Fin 2, i = ⟨f.val + 1, by omega⟩) ∨ ∃ b : Fin 4, i = ⟨b.val + 3, by omega⟩ := by
  revert i
  decide

/-- What holds of a state and the state after an edge, block by block. -/
theorem takeEdge_induction {P : State → State → Prop} {s : State} {level : Bool} (hguard : P s (s.guardEdge level))
    (hclamp : ∀ f, P s (s.clampEdge f level)) (hsensor : ∀ b, P s (s.sensorEdge b level)) (i : Fin 7) :
    P s (s.takeEdge i level) := by
  obtain rfl | ⟨f, rfl⟩ | ⟨b, rfl⟩ := takeEdge_cases i
  · exact hguard
  · exact takeEdge_clamp s f level ▸ hclamp f
  · exact takeEdge_sensor s b level ▸ hsensor b

/-! ### A sample as its edges in their order (R164, log entry 3) -/

/-- The part once its seven inputs are sampled, with no edge handed on yet (R164). -/
def State.sampled (s : State) : State :=
  { s with filters := sampleAll s.settings s.pins s.filters, sampleClock := 0, sampleDue := false }

/-- The edges of the sample, in the order of the free value (log entry 3). -/
def State.edgeOrder (s : State) : List (Fin 7) := shuffle Config.order s.choice (edges s.filters s.sampled.filters)

theorem edgeOrder_perm (s : State) : s.edgeOrder.Perm (edges s.filters s.sampled.filters) := shuffle_perm _ _ _

theorem mem_edgeOrder (s : State) (i : Fin 7) : i ∈ s.edgeOrder ↔ s.filters[i].level ≠ s.sampled.filters[i].level := by
  rw [(edgeOrder_perm s).mem_iff, mem_edges]

theorem reportFault_choice (s : State) (k : Nat) (c : Context) :
    ({ s with choice := k } : State).reportFault c = { s.reportFault c with choice := k } := by
  simp only [State.reportFault]
  split_ifs <;> rfl

theorem clampEdge_choice (s : State) (k : Nat) (f : Fin 2) (closed : Bool) :
    ({ s with choice := k } : State).clampEdge f closed = { s.clampEdge f closed with choice := k } := by
  have hcontext : (({ s with choice := k } : State).mounted f).bind ({ s with choice := k } : State).clampContext =
      (s.mounted f).bind s.clampContext := rfl
  cases closed with
  | true => rfl
  | false =>
    change ({ s with choice := k } : State).clampFalls f = { s.clampFalls f with choice := k }
    rw [State.clampFalls, State.clampFalls, hcontext]
    cases (s.mounted f).bind s.clampContext with
    | none => rfl
    | some c => exact reportFault_choice s k c

theorem sensorEdge_choice (s : State) (k : Nat) (b : Fin 4) (present : Bool) :
    ({ s with choice := k } : State).sensorEdge b present = { s.sensorEdge b present with choice := k } := by
  have hconfirming : ({ s with choice := k } : State).bayConfirming b = s.bayConfirming b := rfl
  rw [State.sensorEdge, State.sensorEdge, hconfirming]
  split <;> rfl

/-- No block reads the model's own counter. -/
theorem takeEdge_choice (s : State) (k : Nat) (i : Fin 7) (level : Bool) :
    ({ s with choice := k } : State).takeEdge i level = { s.takeEdge i level with choice := k } := by
  obtain rfl | ⟨f, rfl⟩ | ⟨b, rfl⟩ := takeEdge_cases i
  · rfl
  · rw [takeEdge_clamp, takeEdge_clamp, clampEdge_choice]
  · rw [takeEdge_sensor, takeEdge_sensor, sensorEdge_choice]

theorem takeEdges_choice (s : State) (k : Nat) (after : Vector FilterRecord 7) (found : List (Fin 7)) :
    ({ s with choice := k } : State).takeEdges after found = { s.takeEdges after found with choice := k } := by
  induction found generalizing s with
  | nil => rfl
  | cons i rest ih => rw [State.takeEdges, State.takeEdges, takeEdge_choice, ih]

/-- A sample is the edges of the sampled part, one after the other, and the draws counted. -/
theorem sampleInputs_eq (s : State) : sampleInputs s =
    { s.sampled.takeEdges s.sampled.filters s.edgeOrder with
      choice := s.choice + draws (edges s.filters s.sampled.filters) } :=
  takeEdges_choice s.sampled _ _ _

end Sys2Proof.Machine
end

section
/-! Settings, GUARD and LOCKDOWN in every step (R167, R176, R178, R190): what changes none of the settings, the GUARD cause and the
filters, what keeps the work timers of LOCKDOWN stopped, and which operations on the part do both. -/

namespace Sys2Proof.Machine

/-! ### The settings (R190) -/

/-- The ranges of R190, setting by setting; the codes of the four others have no value out of range. -/
structure SettingsSound (c : Settings) : Prop where
  holdTime : 100 ≤ c.holdTime ∧ c.holdTime ≤ 30000
  clearance : 20000 ≤ c.clearance ∧ c.clearance ≤ 200000
  spindleTimeout : 50 ≤ c.spindleTimeout ∧ c.spindleTimeout ≤ 20000
  gripperTimeout : 50 ≤ c.gripperTimeout ∧ c.gripperTimeout ≤ 20000
  settleTime : 0 ≤ c.settleTime ∧ c.settleTime ≤ 500
  actionTimeout : 100 ≤ c.actionTimeout ∧ c.actionTimeout ≤ 60000
  confirmTime : 0 ≤ c.confirmTime ∧ c.confirmTime ≤ 2000
  sampleInterval : 1 ≤ c.sampleInterval ∧ c.sampleInterval ≤ 16
  riseCount : 1 ≤ c.riseCount ∧ c.riseCount ≤ 16
  fallCount : 1 ≤ c.fallCount ∧ c.fallCount ≤ 16

/-- The codes of the default verdict, the reject bay, the pick mode and the preferred bay lie in their ranges (R194). -/
theorem code_settings_inRange (c : Settings) :
    c.read 1 ≤ 1 ∧ c.read 4 ≤ 4 ∧ c.read 5 ≤ 2 ∧ c.read 6 ≤ 3 := by
  refine ⟨?_, ?_, ?_, by simp only [Settings.read]; omega⟩
  · simp only [Settings.read]
    split <;> omega
  · cases hb : c.rejectBay <;> simp only [Settings.read, hb, Option.elim] <;> omega
  · cases hm : c.pickMode <;> simp only [Settings.read, hm, PickMode.code] <;> omega

theorem settingsInRange_iff (s : State) : SettingsInRange s ↔ SettingsSound s.settings := by
  constructor
  · intro h
    exact ⟨h 0, h 2, h 3, h 7, h 8, h 9, h 10, h 11, h 12, h 13⟩
  · intro h i
    obtain ⟨hverdict, hreject, hmode, hbay⟩ := code_settings_inRange s.settings
    match i with
    | 0 => exact h.holdTime
    | 1 => exact ⟨Nat.zero_le _, hverdict⟩
    | 2 => exact h.clearance
    | 3 => exact h.spindleTimeout
    | 4 => exact ⟨Nat.zero_le _, hreject⟩
    | 5 => exact ⟨Nat.zero_le _, hmode⟩
    | 6 => exact ⟨Nat.zero_le _, hbay⟩
    | 7 => exact h.gripperTimeout
    | 8 => exact h.settleTime
    | 9 => exact h.actionTimeout
    | 10 => exact h.confirmTime
    | 11 => exact h.sampleInterval
    | 12 => exact h.riseCount
    | 13 => exact h.fallCount

/-- A clamped value lies in its range (file 00, "Clamped"). -/
theorem valueTaken_inRange (i : Fin 14) (v : Nat) :
    (itemRange i).1 ≤ valueTaken i v ∧ valueTaken i v ≤ (itemRange i).2 := by
  have hrange : (itemRange i).1 ≤ (itemRange i).2 := by revert i; decide
  unfold valueTaken clampTo
  split
  · exact ⟨le_rfl, hrange⟩
  split
  · exact ⟨hrange, le_rfl⟩
  · omega

/-- A setting written with a value of its range (R190). -/
theorem SettingsSound.write {c : Settings} (h : SettingsSound c) (i : Fin 14) {v : Nat}
    (hv : (itemRange i).1 ≤ v ∧ v ≤ (itemRange i).2) : SettingsSound (c.write i v) := by
  match i with
  | 0 => exact { h with holdTime := hv }
  | 2 => exact { h with clearance := hv }
  | 3 => exact { h with spindleTimeout := hv }
  | 7 => exact { h with gripperTimeout := hv }
  | 8 => exact { h with settleTime := hv }
  | 9 => exact { h with actionTimeout := hv }
  | 10 => exact { h with confirmTime := hv }
  | 11 => exact { h with sampleInterval := hv }
  | 12 => exact { h with riseCount := hv }
  | 13 => exact { h with fallCount := hv }
  | 1 | 4 | 5 | 6 => exact { h with }

theorem settingsSound_cold : SettingsSound Settings.cold := by
  constructor <;> decide

/-! ### What two states share -/

/-- The settings, the GUARD cause and the filters are the same in two states. -/
def SameInputs (s t : State) : Prop :=
  t.settings = s.settings ∧ t.causes.guardOpen = s.causes.guardOpen ∧ t.filters = s.filters

/-- The same inputs, and NORMAL or LOCKDOWN as before. -/
def SameMode (s t : State) : Prop := SameInputs s t ∧ t.fault.locked = s.fault.locked

/-- The arming and every timer that LOCKDOWN stops are the same in two states (R178). -/
def SameTimers (s t : State) : Prop :=
  t.fault.armed = s.fault.armed ∧ t.spindleA.watchdog = s.spindleA.watchdog ∧ t.spindleB.watchdog = s.spindleB.watchdog
    ∧ t.gripper.watchdog = s.gripper.watchdog ∧ (∀ b : Fin 4, t.bays[b].actionTimer = s.bays[b].actionTimer)
    ∧ t.hold = s.hold

/-- The inputs stay, and work timers stopped in LOCKDOWN stay stopped. -/
structure KeepsControls (s t : State) : Prop where
  inputs : SameInputs s t
  lockdown : LockdownStopped s → LockdownStopped t

theorem SameInputs.trans {s t u : State} (h : SameInputs s t) (k : SameInputs t u) : SameInputs s u :=
  ⟨k.1.trans h.1, k.2.1.trans h.2.1, k.2.2.trans h.2.2⟩

theorem SameMode.refl (s : State) : SameMode s s := ⟨⟨rfl, rfl, rfl⟩, rfl⟩

theorem SameMode.trans {s t u : State} (h : SameMode s t) (k : SameMode t u) : SameMode s u :=
  ⟨h.1.trans k.1, k.2.trans h.2⟩

theorem KeepsControls.refl (s : State) : KeepsControls s s := ⟨⟨rfl, rfl, rfl⟩, id⟩

theorem KeepsControls.trans {s t u : State} (h : KeepsControls s t) (k : KeepsControls t u) : KeepsControls s u :=
  ⟨h.inputs.trans k.inputs, k.lockdown ∘ h.lockdown⟩

/-- In NORMAL the timers may run: what does not begin LOCKDOWN keeps the controls. -/
theorem SameMode.keeps {s t : State} (h : SameMode s t) (hl : s.fault.locked = false) : KeepsControls s t :=
  ⟨h.1, fun _ ht => nomatch (h.2.trans hl).symm.trans ht⟩

/-- What leaves the timers keeps the controls in LOCKDOWN too. -/
theorem SameMode.keeps_of_timers {s t : State} (h : SameMode s t) (ht : SameTimers s t) : KeepsControls s t := by
  refine ⟨h.1, fun hs hl => ?_⟩
  obtain ⟨harmed, ha, hb, hg, hbays, hhold⟩ := ht
  simpa only [harmed, ha, hb, hg, hbays, hhold] using hs (h.2.symm.trans hl)

/-- The invariant of R167, R176, R178 and R190. -/
def ControlsSound (s : State) : Prop := SettingsInRange s ∧ GuardAgrees s ∧ LockdownStopped s

theorem KeepsControls.sound {s t : State} (h : KeepsControls s t) (hs : ControlsSound s) : ControlsSound t := by
  obtain ⟨⟨hsettings, hguard, hfilters⟩, hlockdown⟩ := h
  obtain ⟨hrange, hagrees, hstopped⟩ := hs
  refine ⟨?_, ?_, hlockdown hstopped⟩
  · rwa [settingsInRange_iff, hsettings, ← settingsInRange_iff]
  · rw [GuardAgrees, State.guardLevel, hguard, hfilters]
    exact hagrees

/-- A work timer that runs shows NORMAL (R178). -/
theorem LockdownStopped.normal {s : State} (h : LockdownStopped s)
    (hrun : (∃ sp, (s.spindle sp).watchdog.due = true) ∨ s.gripper.watchdog.due = true
      ∨ (∃ b : Fin 4, s.bays[b].actionTimer.due = true)) : s.fault.locked = false := by
  by_contra hl
  obtain ⟨-, ha, hb, hg, hbays, -⟩ := h (by simpa using hl)
  obtain ⟨sp, hdue⟩ | hdue | ⟨b, hdue⟩ := hrun
  · cases sp
    · exact absurd (ha ▸ hdue) (by decide)
    · exact absurd (hb ▸ hdue) (by decide)
  · exact absurd (hg ▸ hdue) (by decide)
  · exact absurd (hbays b ▸ hdue) (by decide)

/-! ### The shared operations -/

theorem raise_keepsControls (s : State) (n : Notice) : KeepsControls s (s.raise n) :=
  SameMode.keeps_of_timers ⟨⟨rfl, rfl, rfl⟩, rfl⟩ ⟨rfl, rfl, rfl, rfl, fun _ => rfl, rfl⟩

theorem timer_of_stop {v : VerdictHold} {h : BoardHandle} {t : Timer} (hv : v.stop = .holding h t) : t = none := by
  cases v with
  | empty => cases hv
  | holding _ _ => exact (VerdictHold.holding.inj hv).2.symm

/-- LOCKDOWN begins only with the part disarmed, and it stops every work timer (R177, R178). -/
theorem reportFault_keepsControls (s : State) (c : Context) : KeepsControls s (s.reportFault c) := by
  refine reportFault_keeps (KeepsControls s) s c (raise_keepsControls s _) ?_ (fun hl _ => ?_) fun _ ha => ⟨⟨rfl, rfl, rfl⟩, ?_⟩
  · exact SameMode.keeps_of_timers ⟨⟨rfl, rfl, rfl⟩, rfl⟩ ⟨rfl, rfl, rfl, rfl, fun _ => rfl, rfl⟩
  · exact SameMode.keeps ⟨⟨rfl, rfl, rfl⟩, rfl⟩ hl
  · refine fun _ _ => ⟨ha, rfl, rfl, rfl, fun b => by simp [Bay.stopAction], fun h t hhold => ?_⟩
    exact timer_of_stop hhold

/-- A bay written with its action timer as it was. -/
theorem setBay_keepsControls {s : State} {b : Fin 4} {r : Bay} (h : r.actionTimer = s.bays[b].actionTimer) :
    KeepsControls s (s.setBay b r) := by
  refine SameMode.keeps_of_timers ⟨⟨rfl, rfl, rfl⟩, rfl⟩ ⟨rfl, rfl, rfl, rfl, fun x => ?_, rfl⟩
  by_cases hx : b = x
  · subst hx
    rwa [bay_setBay]
  · rw [bay_setBay_ne s b x r hx]

theorem closeConfirm_actionTimer (b : Bay) : b.closeConfirm.actionTimer = b.actionTimer := by
  unfold Bay.closeConfirm
  split <;> rfl

theorem confirmPlacement_keepsControls (s : State) (b : Fin 4) : KeepsControls s (s.confirmPlacement b) :=
  setBay_keepsControls (closeConfirm_actionTimer _)

theorem expireConfirm_keepsControls (s : State) (b : Fin 4) (slot : Nat) : KeepsControls s (s.expireConfirm b slot) := by
  refine KeepsControls.trans (setBay_keepsControls ?_) (reportFault_keepsControls _ _)
  exact closeConfirm_actionTimer _

theorem judgePlacement_keepsControls (s : State) (b : Fin 4) (slot : Nat) : KeepsControls s (s.judgePlacement b slot) := by
  unfold State.judgePlacement
  split
  · exact confirmPlacement_keepsControls s b
  split
  · exact expireConfirm_keepsControls s b slot
  · exact setBay_keepsControls rfl

/-- An action fails in NORMAL, where its timer may run (R153). -/
theorem failAction_keepsControls {s : State} (b : Fin 4) (cause : FaultCause) (hl : s.fault.locked = false) :
    KeepsControls s (s.failAction b cause) :=
  have hended : SameMode s (s.setBay b { s.bays[b].endAction with state := .faulted }) := ⟨⟨rfl, rfl, rfl⟩, rfl⟩
  ((hended.keeps hl).trans (reportFault_keepsControls _ _)).trans (raise_keepsControls _ _)

end Sys2Proof.Machine
end

section
/-! Settings, GUARD and LOCKDOWN through every command and every request: in LOCKDOWN the port takes the reads and the restarts
alone (R179), and the lines take nothing (R86, R90). -/

namespace Sys2Proof.Machine

/-! ### Host commands -/

/-- The reads that LOCKDOWN lets through change nothing (R179). -/
theorem commandOn_read {name : CommandName} (h : name.takenInLockdown = true) (hname : name ≠ .restart) (p : List Byte)
    (s : State) : (commandOn name p s).1 = s := by
  cases name
  case restart => exact absurd rfl hname
  case recipeRead | panelRead | boardRead | tabRead | magRead | configRead | noticeRead | faultRead =>
    simp only [commandOn, recipeRead, panelRead, boardRead, tabRead, magRead, configRead, noticeRead, faultRead]
    repeat' split
    all_goals rfl
  all_goals cases h

/-- The host changes the settings, the GUARD cause, the filters or the mode with CONFIG-SET and RESTART alone. -/
theorem commandOn_sameMode {name : CommandName} (hconfig : name ≠ .configSet) (hrestart : name ≠ .restart) (p : List Byte)
    (s : State) : SameMode s (commandOn name p s).1 := by
  cases name
  case configSet => exact absurd rfl hconfig
  case restart => exact absurd rfl hrestart
  all_goals
    simp only [commandOn, recipeBegin, recipeSite, recipeZone, recipeEnd, recipeDrop, recipeRead, panelAdmit, admitInto,
      panelRetire, retire, State.advanceQueue, panelRead, boardRead, tabRead, decideVerdict, tabResolve, boardResolve,
      bitChange, stationClear, clearSpindle, clearGripper, zoneSet, magStage, magGo, magUnstage, magRead, magRelease, bayRoute,
      bayExchange, bayClear, clearBay, pauseCommand, resumeCommand, configRead, noticeRead, noticeWrite, noticeAct, faultRead,
      faultAck]
    repeat' split
    all_goals simp [SameMode, SameInputs]

/-- CONFIG-SET clamps what it writes (R190). -/
theorem configSet_sound (item : Byte) (value : Word) {s : State} (hs : ControlsSound s) :
    ControlsSound (configSet item value s).1 := by
  unfold configSet
  split
  · next i _ =>
    obtain ⟨hrange, hagrees, hstopped⟩ := hs
    refine ⟨(settingsInRange_iff _).2 ?_, hagrees, hstopped⟩
    exact ((settingsInRange_iff s).1 hrange).write i (valueTaken_inRange i _)
  · split <;> exact hs

theorem coldValues_controls (s : State) : ControlsSound (coldValues s) :=
  ⟨(settingsInRange_iff _).2 settingsSound_cold, rfl, nofun⟩

theorem coldRestart_controls (s : State) : ControlsSound (coldRestart s) :=
  ⟨(settingsInRange_iff _).2 settingsSound_cold, rfl, nofun⟩

theorem cancelTargeted_sameMode (s : State) : SameMode s s.cancelTargeted := by
  unfold State.cancelTargeted
  induction s.targetedBoards generalizing s with
  | nil => exact .refl s
  | cons h rest ih => exact SameMode.trans (by simp [SameMode, SameInputs]) (ih _)

theorem settings_warmRestart (s : State) : (warmRestart s).settings = s.settings := by
  have hbays : s.warmBays.settings = s.cancelTargeted.settings := by simp [State.warmBays, bayNumbers]
  exact hbays.trans (cancelTargeted_sameMode s).1.1

/-- A warm restart forms GUARD from the filtered level and ends LOCKDOWN (R167, R184). -/
theorem warmRestart_controls {s : State} (hs : ControlsSound s) : ControlsSound (warmRestart s) := by
  refine ⟨?_, rfl, nofun⟩
  rw [settingsInRange_iff, settings_warmRestart, ← settingsInRange_iff]
  exact hs.1

theorem restart_controls (form : Byte) {s : State} (hs : ControlsSound s) : ControlsSound (restart form s).1 := by
  unfold restart restartWarm
  repeat' split
  case isTrue.isFalse => exact warmRestart_controls hs
  case isFalse.isTrue => exact coldRestart_controls s
  all_goals exact hs

/-- Every command that the port delivers. -/
theorem commandOn_controls (name : CommandName) (p : List Byte) {s : State}
    (hl : s.fault.locked = false ∨ name.takenInLockdown = true) (hs : ControlsSound s) :
    ControlsSound (commandOn name p s).1 := by
  by_cases hrestart : name = .restart
  · subst hrestart
    exact restart_controls _ hs
  by_cases hconfig : name = .configSet
  · subst hconfig
    exact configSet_sound _ _ hs
  rcases hl with hnormal | htaken
  · exact ((commandOn_sameMode hconfig hrestart p s).keeps hnormal).sound hs
  · rwa [commandOn_read htaken hrestart p s]

/-! ### Requests of the spindles (R104, R110, R111) -/

theorem nextTab_sameMode (sp : Spindle) (s : State) : SameMode s (nextTab sp s).1 := by
  simp only [nextTab, State.wear, offerTab, assign]
  repeat' split
  all_goals simp [SameMode, SameInputs]

theorem tabDone_sameMode (sp : Spindle) (entry site tab : Byte) (s : State) : SameMode s (tabDone sp entry site tab s).1 := by
  simp only [tabDone, finishTab]
  repeat' split
  all_goals simp [SameMode, SameInputs]

theorem loseTab_sameMode (s : State) (sp : Spindle) (h : TabHandle) (st : SpindleState) : SameMode s (s.loseTab sp h st) := by
  simp [SameMode, SameInputs, State.loseTab]

theorem tabFault_keepsControls (sp : Spindle) (entry site tab reason : Byte) {s : State} (hl : s.fault.locked = false) :
    KeepsControls s (tabFault sp entry site tab reason s).1 := by
  unfold tabFault failTab
  split
  · split
    · next h _ _ =>
      have hfault : ∀ st c, KeepsControls s ((s.loseTab sp h st).reportFault c) := fun st c =>
        ((loseTab_sameMode s sp h st).keeps hl).trans (reportFault_keepsControls _ c)
      dsimp only
      split
      · exact (hfault _ _).trans (raise_keepsControls _ _)
      · exact hfault _ _
    · exact .refl s
  · exact .refl s

/-! ### Requests of the gripper (R125 to R134) -/

theorem setAside_sameMode (s : State) (cands : List BoardHandle) : SameMode s (setAside s cands) := by
  induction cands generalizing s with
  | nil => exact .refl s
  | cons h rest ih =>
    refine SameMode.trans ?_ (ih _)
    split <;> simp [SameMode, SameInputs]

theorem walkBay_sameMode (b : Fin 4) (m : Magazine) (s : State) (cands : List BoardHandle) :
    SameMode s (walkBay b m s cands).1 := by
  induction cands generalizing s with
  | nil => exact .refl s
  | cons h rest ih =>
    simp only [walkBay]
    split
    · exact ih s
    split
    · exact SameMode.trans (by simp [SameMode, SameInputs]) (ih _)
    split <;> simp [SameMode, SameInputs, State.fillUp]

theorem walkBays_sameMode (cands : List BoardHandle) (s : State) (bays : List (Fin 4)) :
    SameMode s (walkBays cands s bays).1 := by
  induction bays generalizing s with
  | nil => exact .refl s
  | cons b rest ih =>
    simp only [walkBays]
    split
    · exact ih s
    next m _ =>
      have hwalk := walkBay_sameMode b m s (cands.filter (fun h => decide (s.destinationOf h = some b)))
      split
      · next t c ht => rwa [ht] at hwalk
      · next t ht => rw [ht] at hwalk; exact hwalk.trans (ih t)

theorem givePick_sameMode (s : State) (c : Choice) (m : Magazine) : SameMode s (givePick s c m).1 := by
  simp [givePick, SameMode, SameInputs]

theorem offerPick_sameMode (s : State) : SameMode s (offerPick s).1 := by
  have hwalk := (setAside_sameMode s s.pickCandidates).trans
    (walkBays_sameMode s.pickCandidates _ (setAside s s.pickCandidates).bayOrder)
  simp only [offerPick]
  split
  · next t c ht =>
    rw [ht] at hwalk
    split
    · exact hwalk.trans (givePick_sameMode t c _)
    · exact hwalk
  · next t ht => rwa [ht] at hwalk

theorem nextPick_sameMode (s : State) : SameMode s (nextPick s).1 := by
  unfold nextPick
  repeat' split
  case h_2.isFalse.isFalse => exact offerPick_sameMode s
  all_goals exact .refl s

theorem placeBoard_keepsControls {s : State} (h : BoardHandle) (r : Reservation) (hl : s.fault.locked = false) :
    KeepsControls s (placeBoard s h r).1 :=
  (SameMode.keeps (t := ((s.occupySlot h).releaseGripper).setBoardTerminal h .placed)
    (by simp [SameMode, SameInputs]) hl).trans (judgePlacement_keepsControls _ _ _)

theorem placed_keepsControls (entry site bay slot : Byte) {s : State} (hl : s.fault.locked = false) :
    KeepsControls s (placed entry site bay slot s).1 := by
  unfold placed
  split
  · split
    · split
      · split
        · exact placeBoard_keepsControls _ _ hl
        · exact reportFault_keepsControls s _
      · exact reportFault_keepsControls s _
    · exact .refl s
  · exact .refl s

theorem dropBoard_keepsControls {s : State} (h : BoardHandle) (b : BoardRecord) (hl : s.fault.locked = false) :
    KeepsControls s (dropBoard s h b) := by
  have hfree : KeepsControls s s.releaseGripper := SameMode.keeps ⟨⟨rfl, rfl, rfl⟩, rfl⟩ hl
  have habandon : KeepsControls s (s.releaseGripper.abandonPick h) := SameMode.keeps (by simp [SameMode, SameInputs]) hl
  have hsuspect : KeepsControls s (s.releaseGripper.setBoardState h .suspect) :=
    SameMode.keeps (by simp [SameMode, SameInputs]) hl
  have hlost : KeepsControls s (s.releaseGripper.loseBoard h) := SameMode.keeps (by simp [SameMode, SameInputs]) hl
  unfold dropBoard
  split
  · exact habandon
  · split
    · exact habandon
    · exact hsuspect.trans (reportFault_keepsControls _ _)
  · exact hlost.trans (reportFault_keepsControls _ _)
  all_goals exact hfree

theorem dropped_keepsControls (entry site : Byte) {s : State} (hl : s.fault.locked = false) :
    KeepsControls s (dropped entry site s).1 := by
  unfold dropped
  split
  · exact dropBoard_keepsControls _ _ hl
  · exact .refl s

/-! ### Requests of the other lines (R38 to R43, R63, R150 to R153) -/

theorem checkFiducial_keepsControls {s : State} (e : Fin 4) (p : Panel) (r : Recipe) (f1m f2m : Point)
    (hl : s.fault.locked = false) : KeepsControls s (checkFiducial s e p r f1m f2m).1 := by
  simp only [checkFiducial, rejectRange]
  repeat' split
  case isFalse.isFalse.isFalse.isFalse => exact SameMode.keeps ⟨⟨rfl, rfl, rfl⟩, rfl⟩ hl
  all_goals exact reportFault_keepsControls s _

theorem fiducial_keepsControls (entry : Byte) (f1m f2m : Point) {s : State} (hl : s.fault.locked = false) :
    KeepsControls s (fiducial entry f1m f2m s).1 := by
  unfold fiducial
  repeat' split
  case h_2 => exact checkFiducial_keepsControls _ _ _ f1m f2m hl
  all_goals exact .refl s

theorem pollBay_sameMode (s : State) (b : Fin 4) : SameMode s (pollBay s b).1 := by
  simp only [pollBay, State.giveAction]
  repeat' split
  all_goals simp [SameMode, SameInputs]

theorem pollAll_sameMode (s : State) (bays : List (Fin 4)) : SameMode s (pollAll s bays).1 := by
  induction bays generalizing s with
  | nil => exact .refl s
  | cons b rest ih => exact (pollBay_sameMode s b).trans (ih _)

theorem bayDone_keepsControls (bay action ok : Byte) {s : State} (hl : s.fault.locked = false) :
    KeepsControls s (bayDone bay action ok s).1 := by
  unfold bayDone
  split
  · simp only [bayDoneIndex, doneIndex]
    repeat' split
    case h_2.isTrue.isTrue => exact SameMode.keeps ⟨⟨rfl, rfl, rfl⟩, rfl⟩ hl
    case h_2.isTrue.isFalse => exact failAction_keepsControls _ _ hl
    all_goals exact .refl s
  split
  · simp only [bayDoneExchange, doneExchange]
    repeat' split
    case h_2.isTrue.isTrue => exact SameMode.keeps (by simp [SameMode, SameInputs]) hl
    case h_2.isTrue.isFalse => exact failAction_keepsControls _ _ hl
    all_goals exact .refl s
  · exact .refl s

/-! ### Every request -/

theorem onSpindle_keepsControls (l : LineId) (r : Spindle → Request) (s : State) (hr : ∀ sp, KeepsControls s (r sp s).1) :
    KeepsControls s (onSpindle l r s).1 := by
  cases l
  case spindleA => exact hr .a
  case spindleB => exact hr .b
  all_goals exact .refl s

/-- A request is delivered in NORMAL alone (R90). -/
theorem requestBlock_keepsControls (l : LineId) (name : RequestName) (f : List Byte) {s : State}
    (hl : s.fault.locked = false) : KeepsControls s (requestBlock l name f s).1 := by
  cases name
  case nextTab => exact onSpindle_keepsControls l _ s fun sp => (nextTab_sameMode sp s).keeps hl
  case tabDone => exact onSpindle_keepsControls l _ s fun sp => (tabDone_sameMode sp _ _ _ s).keeps hl
  case tabFault => exact onSpindle_keepsControls l _ s fun sp => tabFault_keepsControls sp _ _ _ _ hl
  case progress => cases l <;> exact .refl s
  case nextPick => exact (nextPick_sameMode s).keeps hl
  case placed => exact placed_keepsControls _ _ _ _ hl
  case dropped => exact dropped_keepsControls _ _ hl
  case fiducial => exact fiducial_keepsControls _ _ _ hl
  case bayPoll => exact (pollAll_sameMode s bayNumbers).keeps hl
  case bayDone => exact bayDone_keepsControls _ _ _ hl
  case holdOn | placeCheck | siteMark =>
    refine SameMode.keeps ?_ hl
    simp only [requestBlock, holdOn, placeCheck, siteMark, State.beginHold]
    repeat' split
    all_goals simp [SameMode, SameInputs]

end Sys2Proof.Machine
end

section
/-! Settings, GUARD and LOCKDOWN through every event, every arrival and every step (R167, R176, R178, R190). -/

namespace Sys2Proof.Machine

/-! ### Events inside the part -/

/-- The visits of a run leave the controls alone (R46 to R48). -/
theorem visit_keepsControls (e : Fin 4) (s : State) : KeepsControls s (visitZone e s)
    ∧ KeepsControls s (visitPickPoint e s) ∧ KeepsControls s (visitTab e s) := by
  refine ⟨?_, ?_, ?_⟩
  all_goals
    simp only [visitZone, visitPickPoint, visitTab]
    repeat' split
    all_goals exact SameMode.keeps_of_timers (by simp [SameMode, SameInputs]) (by simp [SameTimers])

theorem endRun_keepsControls (e : Fin 4) (s : State) : KeepsControls s (endRun e s) := by
  cases ha : s.activeRun e with
  | none => rw [endRun, ha]; exact .refl s
  | some vpr =>
    by_cases hv : vpr.1.position = .finished
    · rw [endRun_finished ha hv]
      exact SameMode.keeps_of_timers (by simp [SameMode, SameInputs, State.alignedBy, State.raiseMask])
        (by simp [SameTimers, State.alignedBy, State.raiseMask])
    · simp only [endRun, ha, hv, if_false]
      exact .refl s

theorem endValidation_keepsControls (s : State) : KeepsControls s (endValidation s) := by
  unfold endValidation
  repeat' split
  all_goals exact SameMode.keeps_of_timers ⟨⟨rfl, rfl, rfl⟩, rfl⟩ ⟨rfl, rfl, rfl, rfl, fun _ => rfl, rfl⟩

/-- A line written leaves the controls alone. -/
theorem setLine_keepsControls (s : State) (l : LineId) (r : Line) : KeepsControls s (s.setLine l r) :=
  SameMode.keeps_of_timers ⟨⟨rfl, rfl, rfl⟩, rfl⟩ ⟨rfl, rfl, rfl, rfl, fun _ => rfl, rfl⟩

theorem expireGap_keepsControls (l : LineId) (s : State) : KeepsControls s (expireGap l s) := by
  unfold expireGap
  split
  · split
    · exact setLine_keepsControls s l _
    · exact .refl s
  · exact .refl s

/-- A hold that ends leaves no hold timer (R77). -/
theorem expireHold_keepsControls (s : State) : KeepsControls s (expireHold s) := by
  unfold expireHold
  split
  · split
    · refine KeepsControls.trans ⟨?_, fun hs hl => ?_⟩ (raise_keepsControls _ _)
      · simp [SameInputs]
      · obtain ⟨harmed, ha, hb, hg, hbays, -⟩ := hs (by simpa using hl)
        exact ⟨by simpa using harmed, by simpa using ha, by simpa using hb, by simpa using hg, by simpa using hbays, nofun⟩
    · exact .refl s
  · exact .refl s

theorem expireSpindle_controls (sp : Spindle) {s : State} (hs : ControlsSound s) : ControlsSound (expireSpindle sp s) := by
  unfold expireSpindle
  split
  next hdue =>
    have hl := hs.2.2.normal (.inl ⟨sp, hdue.1⟩)
    split
    · next c _ =>
      exact ((((loseTab_sameMode s sp c.handle .stalled).keeps hl).trans (reportFault_keepsControls _ _)).trans
        (raise_keepsControls _ _)).sound hs
    · exact (SameMode.keeps (by simp [SameMode, SameInputs]) hl).sound hs
  · exact hs

theorem expireBoard_keepsControls {s : State} (h : BoardHandle) (b : BoardRecord) (hl : s.fault.locked = false) :
    KeepsControls s (expireBoard s h b) := by
  have habandon : KeepsControls s (s.abandonPick h) := SameMode.keeps (by simp [SameMode, SameInputs]) hl
  have hsuspect : KeepsControls s (s.setBoardState h .suspect) := SameMode.keeps (by simp [SameMode, SameInputs]) hl
  unfold expireBoard
  split
  case h_1 => exact habandon.trans (reportFault_keepsControls _ _)
  case h_2 | h_3 => exact hsuspect.trans (reportFault_keepsControls _ _)
  all_goals exact .refl s

theorem expireGripper_controls {s : State} (hs : ControlsSound s) : ControlsSound (expireGripper s) := by
  unfold expireGripper
  split
  next hdue =>
    have hl := hs.2.2.normal (.inr (.inl hdue.1))
    split
    · next h b _ _ =>
      have hstalled : SameMode s { s with gripper := ⟨.stalled, none, none⟩ } := ⟨⟨rfl, rfl, rfl⟩, rfl⟩
      exact (((hstalled.keeps hl).trans (expireBoard_keepsControls h b hl)).trans (raise_keepsControls _ _)).sound hs
    · exact (SameMode.keeps (s := s) (t := s.releaseGripper) ⟨⟨rfl, rfl, rfl⟩, rfl⟩ hl).sound hs
  · exact hs

theorem expireAction_controls (b : Fin 4) {s : State} (hs : ControlsSound s) : ControlsSound (expireAction b s) := by
  unfold expireAction
  split
  next hdue => exact (failAction_keepsControls b _ (hs.2.2.normal (.inr (.inr ⟨b, hdue.1⟩)))).sound hs
  · exact hs

theorem expireSettle_keepsControls (b : Fin 4) (s : State) : KeepsControls s (expireSettle b s) := by
  unfold expireSettle
  split
  · exact setBay_keepsControls rfl
  · exact .refl s

theorem expireWindow_keepsControls (b : Fin 4) (s : State) : KeepsControls s (expireWindow b s) := by
  unfold expireWindow
  split
  · split
    · exact expireConfirm_keepsControls s b _
    · exact .refl s
  · exact .refl s

/-! ### Samples (R164, R167) -/

theorem clampEdge_keepsControls (s : State) (f : Fin 2) (closed : Bool) : KeepsControls s (s.clampEdge f closed) := by
  unfold State.clampEdge State.clampFalls
  split
  · exact .refl s
  split
  · exact reportFault_keepsControls s _
  · exact raise_keepsControls s _

theorem sensorEdge_keepsControls (s : State) (b : Fin 4) (present : Bool) : KeepsControls s (s.sensorEdge b present) := by
  unfold State.sensorEdge
  split
  · exact confirmPlacement_keepsControls s b
  · exact .refl s

/-- An edge changes the settings, the filters and the stopped timers of LOCKDOWN nowhere. -/
theorem takeEdge_lockdown (s : State) (i : Fin 7) (level : Bool) : (s.takeEdge i level).settings = s.settings
    ∧ (s.takeEdge i level).filters = s.filters ∧ (LockdownStopped s → LockdownStopped (s.takeEdge i level)) := by
  have hkeeps : ∀ {t}, KeepsControls s t →
      t.settings = s.settings ∧ t.filters = s.filters ∧ (LockdownStopped s → LockdownStopped t) :=
    fun h => ⟨h.inputs.1, h.inputs.2.2, h.lockdown⟩
  exact takeEdge_induction
    (P := fun s t => t.settings = s.settings ∧ t.filters = s.filters ∧ (LockdownStopped s → LockdownStopped t))
    ⟨rfl, rfl, id⟩ (fun f => hkeeps (clampEdge_keepsControls s f level))
    (fun b => hkeeps (sensorEdge_keepsControls s b level)) i

/-- The GUARD cause takes the level of a GUARD edge, and no other edge changes it (R167). -/
theorem guardOpen_takeEdge (s : State) (i : Fin 7) (level : Bool) :
    (s.takeEdge i level).causes.guardOpen = if i = 0 then level else s.causes.guardOpen := by
  obtain rfl | ⟨f, rfl⟩ | ⟨b, rfl⟩ := takeEdge_cases i
  · rfl
  · rw [takeEdge_clamp, if_neg (Fin.ne_of_val_ne (Nat.succ_ne_zero _))]
    exact (clampEdge_keepsControls s f level).inputs.2.1
  · rw [takeEdge_sensor, if_neg (Fin.ne_of_val_ne (Nat.succ_ne_zero _))]
    exact (sensorEdge_keepsControls s b level).inputs.2.1

theorem takeEdges_lockdown (s : State) (after : Vector FilterRecord 7) (found : List (Fin 7)) :
    (s.takeEdges after found).settings = s.settings ∧ (s.takeEdges after found).filters = s.filters
      ∧ (LockdownStopped s → LockdownStopped (s.takeEdges after found)) := by
  induction found generalizing s with
  | nil => exact ⟨rfl, rfl, id⟩
  | cons i rest ih =>
    obtain ⟨hsettings, hfilters, hstopped⟩ := takeEdge_lockdown s i after[i].level
    obtain ⟨hsettings', hfilters', hstopped'⟩ := ih (s.takeEdge i after[i].level)
    exact ⟨hsettings'.trans hsettings, hfilters'.trans hfilters, hstopped' ∘ hstopped⟩

/-- Wherever the GUARD edge stands among the edges of a sample, the cause takes the new level (R164, R167). -/
theorem guardOpen_takeEdges (s : State) (after : Vector FilterRecord 7) (found : List (Fin 7)) :
    (s.takeEdges after found).causes.guardOpen = if 0 ∈ found then after[0].level else s.causes.guardOpen := by
  induction found generalizing s with
  | nil => rfl
  | cons i rest ih =>
    rw [State.takeEdges, ih, guardOpen_takeEdge]
    by_cases hi : i = 0
    · subst hi
      simp
    · simp [hi, Ne.symm hi]

theorem sampleInputs_controls {s : State} (hs : ControlsSound s) : ControlsSound (sampleInputs s) := by
  obtain ⟨hrange, hagrees, hstopped⟩ := hs
  obtain ⟨hsettings, hfilters, hlockdown⟩ := takeEdges_lockdown s.sampled s.sampled.filters s.edgeOrder
  rw [sampleInputs_eq]
  refine ⟨?_, ?_, hlockdown hstopped⟩
  · rw [settingsInRange_iff] at hrange ⊢
    exact hsettings ▸ hrange
  · change (s.sampled.takeEdges s.sampled.filters s.edgeOrder).causes.guardOpen =
      (s.sampled.takeEdges s.sampled.filters s.edgeOrder).filters[0].level
    rw [hfilters, guardOpen_takeEdges]
    split
    · rfl
    next hsame => exact hagrees.trans (not_not.1 (mt (mem_edgeOrder s 0).2 hsame))

theorem samplePins_controls (raw : BitVec 7) {s : State} (hs : ControlsSound s) : ControlsSound (samplePins raw s) := by
  simp only [samplePins]
  split
  · exact sampleInputs_controls (s := { s with pins := raw }) hs
  · exact hs

theorem takeEvent_controls {s : State} {event : State → State} (he : ControlsSound s → ControlsSound (event s))
    (hs : ControlsSound s) : ControlsSound (s.takeEvent event) := by
  unfold State.takeEvent
  split
  · exact hs
  · exact he hs

/-! ### A tick -/

/-- A STOPPED timer does not count (R113). -/
theorem countUnless_none (held : Bool) : Timer.countUnless held none = none := by
  cases held <;> rfl

/-- A tick starts no timer (R113, R136, R149). -/
theorem tick_keepsControls (s : State) : KeepsControls s (tick s) := by
  unfold tick
  split
  · exact .refl s
  refine ⟨⟨rfl, rfl, rfl⟩, fun hs hl => ?_⟩
  obtain ⟨harmed, ha, hb, hg, hbays, hhold⟩ := hs hl
  refine ⟨harmed, ?_, ?_, ?_, fun b => ?_, fun h t ht => ?_⟩
  · simp only [countTimers, ha, countUnless_none]
  · simp only [countTimers, hb, countUnless_none]
  · simp only [countTimers, hg, countUnless_none]
  · simp only [countTimers, mapVec_get, Bay.countTimers, hbays b, countUnless_none]
  · change s.hold.countTimer = .holding h t at ht
    cases hv : s.hold with
    | empty => rw [hv] at ht; cases ht
    | holding g u =>
      rw [hv, hhold g u hv] at ht
      exact (VerdictHold.holding.inj ht).2.symm

/-! ### Arrivals at the port (R187) -/

theorem acceptFrame_controls (name : CommandName) (p : List Byte) {s : State} (hs : ControlsSound s) :
    ControlsSound (s.acceptFrame name (commandBlock name p)) := by
  simp only [State.acceptFrame, commandBlock]
  split
  · exact hs
  next hl =>
    split
    · next c hc =>
      obtain ⟨-, hc⟩ := Option.ite_none_right_eq_some.1 hc
      obtain rfl := Option.some.inj hc
      have hcmd := commandOn_controls name p (s := { s with ovr := false }) (by grind) hs
      unfold State.deliver
      split
      · next t a ht => rw [ht] at hcmd; exact hcmd
      · next t ht => rw [ht] at hcmd; exact hcmd
    · exact hs

theorem takeCommandOr_controls (name : CommandName) (p : List Byte) {s : State} (hs : ControlsSound s) :
    ControlsSound (s.takeCommandOr name (commandBlock name p)) := by
  unfold State.takeCommandOr
  split
  · exact hs
  split
  · exact hs
  · exact acceptFrame_controls name p hs

theorem transact_controls (bytes : List Byte) {s : State} (hs : ControlsSound s) : ControlsSound (transact bytes s) := by
  simp only [transact, examineFrame]
  repeat' split
  case h_2 name _ => exact acceptFrame_controls name _ hs
  all_goals exact hs

/-! ### Arrivals on the station lines (R85 to R90) -/

theorem examine_keepsControls (s : State) (l : LineId) (code : Byte) (name : RequestName) (f : List Byte) :
    KeepsControls s (s.examine l code (requestBlock l name f)) := by
  unfold State.examine
  split
  · exact .refl s
  split
  · exact setLine_keepsControls s l _
  split
  · exact setLine_keepsControls s l _
  next hlocked =>
    have hl : s.fault.locked = false := by simpa using hlocked
    have hreload : KeepsControls s (s.reloadWatchdog l) := SameMode.keeps (by simp [SameMode, SameInputs]) hl
    have hreq := hreload.trans (requestBlock_keepsControls l name f (s := s.reloadWatchdog l) (by simpa using hl))
    split
    · next t r ht => rw [ht] at hreq; exact hreq.trans (setLine_keepsControls t l _)
    · next t ht => rwa [ht] at hreq

theorem takeRequest_keepsControls (s : State) (l : LineId) (name : RequestName) (f : List Byte) :
    KeepsControls s (s.takeRequest l name (requestBlock l name f)) := by
  unfold State.takeRequest
  split
  · exact .refl s
  · exact (setLine_keepsControls s l _).trans (examine_keepsControls _ l _ name f)

theorem answerUnknown_keepsControls (s : State) (l : LineId) (code : Byte) : KeepsControls s (s.answerUnknown l code) := by
  unfold State.answerUnknown
  split
  · exact .refl s
  · exact setLine_keepsControls s l _

theorem frameArrives_keepsControls (l : LineId) (bytes : List Byte) (s : State) :
    KeepsControls s (frameArrives l bytes s) := by
  have hcomplete : KeepsControls s (s.frameComplete l) := setLine_keepsControls s l _
  unfold frameArrives State.examineBytes
  split
  · split
    · split
      · exact hcomplete
      split
      · exact hcomplete.trans (answerUnknown_keepsControls _ l _)
      split
      · exact hcomplete
      · exact hcomplete.trans (examine_keepsControls _ l _ _ _)
    · exact hcomplete
    · exact hcomplete
  · exact .refl s

theorem receiveByte_keepsControls (l : LineId) (byte : Byte) (framingError : Bool) (s : State) :
    KeepsControls s (receiveByte l byte framingError s) := by
  simp only [receiveByte]
  repeat' split
  case h_1.isFalse => exact .refl s
  case h_3.isFalse.isTrue => exact frameArrives_keepsControls l _ s
  all_goals exact setLine_keepsControls s l _

/-! ### Every step -/

/-- A row that stands for a frame is taken as its frame is. -/
theorem exec_frame_controls {c : Instr} (h : ((hostCommand c).isSome || (stationRequest c).isSome) = true) {s : State}
    (hs : ControlsSound s) : ∃ t, exec c s = .next t ∧ ControlsSound t := by
  rcases Bool.or_eq_true_iff.1 h with hhost | hstation
  · obtain ⟨name, hname⟩ := Option.isSome_iff_exists.1 hhost
    exact ⟨_, exec_host_frame hname s, takeCommandOr_controls name _ hs⟩
  · obtain ⟨⟨l, name, f⟩, hname⟩ := Option.isSome_iff_exists.1 hstation
    exact ⟨_, exec_station_frame hname s, (takeRequest_keepsControls s l name f).sound hs⟩

theorem foreignProgress_keepsControls (s : State) (l : LineId) :
    KeepsControls s ((s.frameComplete l).answerUnknown l RequestName.progress.byte) :=
  (setLine_keepsControls s l _).trans (answerUnknown_keepsControls _ l _)

theorem exec_controls (c : Instr) {s : State} (hs : ControlsSound s) : ∃ t, exec c s = .next t ∧ ControlsSound t := by
  have kept : ∀ {event : State → State}, KeepsControls s (event s) → ControlsSound (s.takeEvent event) :=
    fun h => takeEvent_controls h.sound hs
  cases c
  case validationEnd => exact ⟨_, rfl, kept (endValidation_keepsControls s)⟩
  case zoneVisit e => exact ⟨_, rfl, kept (visit_keepsControls e s).1⟩
  case pickPointVisit e => exact ⟨_, rfl, kept (visit_keepsControls e s).2.1⟩
  case tabVisit e => exact ⟨_, rfl, kept (visit_keepsControls e s).2.2⟩
  case correctionRunEnd e => exact ⟨_, rfl, kept (endRun_keepsControls e s)⟩
  case holdExpiry => exact ⟨_, rfl, kept (expireHold_keepsControls s)⟩
  case gapTimerExpiry l => exact ⟨_, rfl, kept (expireGap_keepsControls l s)⟩
  case stationFrame l bytes => exact ⟨_, rfl, kept (frameArrives_keepsControls l bytes s)⟩
  case stationLineByte l byte framingError => exact ⟨_, rfl, kept (receiveByte_keepsControls l byte framingError s)⟩
  case frameTransmitted l => exact ⟨_, rfl, kept (setLine_keepsControls s l _)⟩
  case progress l =>
    cases l
    case vision => exact ⟨_, rfl, kept (foreignProgress_keepsControls s .vision)⟩
    case elevator => exact ⟨_, rfl, kept (foreignProgress_keepsControls s .elevator)⟩
    all_goals exact exec_frame_controls rfl hs
  case spindleWatchdogExpiry sp => exact ⟨_, rfl, takeEvent_controls (expireSpindle_controls sp) hs⟩
  case gripperWatchdogExpiry => exact ⟨_, rfl, takeEvent_controls expireGripper_controls hs⟩
  case actionTimerExpiry b => exact ⟨_, rfl, takeEvent_controls (expireAction_controls b) hs⟩
  case settleTimerExpiry b => exact ⟨_, rfl, kept (expireSettle_keepsControls b s)⟩
  case confirmWindowExpiry b => exact ⟨_, rfl, kept (expireWindow_keepsControls b s)⟩
  case sample raw => exact ⟨_, rfl, takeEvent_controls (samplePins_controls raw) hs⟩
  case commandFrame bytes => exact ⟨_, rfl, takeEvent_controls (transact_controls bytes) hs⟩
  case resetAssert => exact ⟨_, rfl, hs⟩
  case resetRelease => exact ⟨_, rfl, coldValues_controls s⟩
  case powerOn => exact ⟨_, rfl, coldValues_controls s⟩
  all_goals exact exec_frame_controls rfl hs

/-- Settles O55: a step keeps the settings, the GUARD cause and the filters together, or writes them as the rules say, and starts a
work timer in NORMAL alone. -/
theorem settingsGuardAndLockdownStaySound : Obligations.SettingsGuardAndLockdownStaySound := by
  intro s t hs hstep
  change ControlsSound t
  unfold step at hstep
  split at hstep
  · next c rest _ =>
    obtain ⟨u, hu, hsound⟩ := exec_controls c (s := { s with pending := rest }) hs
    exact Host.Outcome.next.inj (hu.symm.trans hstep) ▸ hsound
  · exact Host.Outcome.next.inj hstep ▸ (tick_keepsControls s).sound hs

end Sys2Proof.Machine
end

section
/-! SAMPLE at the blocks (R163, R164, R167, R32 to R34, R147): what a sample makes of the filters and in which order the edges act,
then what each edge does at its block. -/

namespace Sys2Proof.Machine

/-! ### The filters after a sample (R164) -/

/-- Handing on the edges leaves the Input Filter and the pins. -/
theorem takeEdge_filterFields (s : State) (i : Fin 7) (level : Bool) : (s.takeEdge i level).filters = s.filters
    ∧ (s.takeEdge i level).sampleClock = s.sampleClock ∧ (s.takeEdge i level).sampleDue = s.sampleDue
    ∧ (s.takeEdge i level).pins = s.pins := by
  refine takeEdge_induction (P := fun s t => t.filters = s.filters ∧ t.sampleClock = s.sampleClock
    ∧ t.sampleDue = s.sampleDue ∧ t.pins = s.pins) ⟨rfl, rfl, rfl, rfl⟩ (fun f => ?_) (fun b => ?_) i
  · unfold State.clampEdge State.clampFalls
    repeat' split
    all_goals simp
  · unfold State.sensorEdge
    split <;> simp

theorem takeEdges_filterFields (s : State) (after : Vector FilterRecord 7) (found : List (Fin 7)) :
    (s.takeEdges after found).filters = s.filters ∧ (s.takeEdges after found).sampleClock = s.sampleClock
      ∧ (s.takeEdges after found).sampleDue = s.sampleDue ∧ (s.takeEdges after found).pins = s.pins := by
  induction found generalizing s with
  | nil => exact ⟨rfl, rfl, rfl, rfl⟩
  | cons i rest ih =>
    obtain ⟨hfilters, hclock, hdue, hpins⟩ := takeEdge_filterFields s i after[i].level
    obtain ⟨hfilters', hclock', hdue', hpins'⟩ := ih (s.takeEdge i after[i].level)
    exact ⟨hfilters'.trans hfilters, hclock'.trans hclock, hdue'.trans hdue, hpins'.trans hpins⟩

/-- After a sample the filters and the pins stand as the sample found them, the clock at 0, and no sample is due (R164). -/
theorem sampleInputs_filterFields (s : State) : (sampleInputs s).filters = s.sampled.filters
    ∧ (sampleInputs s).sampleClock = 0 ∧ (sampleInputs s).sampleDue = false ∧ (sampleInputs s).pins = s.pins := by
  rw [sampleInputs_eq]
  exact takeEdges_filterFields s.sampled s.sampled.filters s.edgeOrder

theorem sampled_get (s : State) (i : Fin 7) :
    s.sampled.filters[i] = s.filters[i].sample s.settings (s.pins.getLsbD i) :=
  sampleAll_get _ _ _ i

/-- An input with an edge stands at its raw level. -/
theorem level_sampled_of_edge {s : State} {i : Fin 7} (h : i ∈ s.edgeOrder) :
    s.sampled.filters[i].level = s.pins.getLsbD i := by
  have hne := (mem_edgeOrder s i).1 h
  rw [sampled_get] at hne ⊢
  exact level_sample_of_ne (Ne.symm hne)

/-! ### The order of the edges (R164, log entry 3) -/

/-- The edges act one after the other, each with its raw level. -/
theorem takeEdges_edgeOrder (s : State) : s.sampled.takeEdges s.sampled.filters s.edgeOrder =
    s.edgeOrder.foldl (fun v i => v.takeEdge i (s.pins.getLsbD i)) s.sampled := by
  rw [takeEdges_eq_foldl]
  refine List.foldl_ext _ _ _ fun v i hi => ?_
  rw [level_sampled_of_edge hi]

/-- A sample is its edges in the order of the free value, and the draws counted. -/
theorem sampleInputs_foldl (s : State) : sampleInputs s =
    { s.edgeOrder.foldl (fun v i => v.takeEdge i (s.pins.getLsbD i)) s.sampled with choice := (sampleInputs s).choice } := by
  rw [sampleInputs_eq, takeEdges_edgeOrder]

theorem edges_eq_filter (s : State) : edges s.filters s.sampled.filters =
    (List.finRange 7).filter (fun i => decide (s.sampled.filters[i].level ≠ s.filters[i].level)) := by
  rw [edges, inputs_eq_finRange]
  exact List.filter_congr fun i _ => by simp [ne_comm]

/-- With no edge a sample changes the Input Filter alone. -/
theorem sampleInputs_quiet {s : State} (h : ∀ i : Fin 7, s.sampled.filters[i].level = s.filters[i].level) :
    sampleInputs s = s.sampled := by
  have hnone : edges s.filters s.sampled.filters = [] := by
    rw [edges_eq_filter]
    exact List.filter_eq_nil_iff.2 fun i _ => by rw [decide_eq_true_eq]; exact not_not.2 (h i)
  rw [sampleInputs_eq, State.edgeOrder, hnone]
  rfl

/-- A lone edge acts on its block (R164). -/
theorem sampleInputs_lone {s : State} {i : Fin 7} (hi : s.sampled.filters[i].level ≠ s.filters[i].level)
    (h : ∀ j, j ≠ i → s.sampled.filters[j].level = s.filters[j].level) :
    sampleInputs s = s.sampled.takeEdge i (s.pins.getLsbD i) := by
  have hlone : edges s.filters s.sampled.filters = [i] := by
    refine List.perm_singleton.1 ((List.perm_ext_iff_of_nodup ?_ (List.nodup_singleton i)).2 fun j => ?_)
    · rw [edges_eq_filter]
      exact (List.nodup_finRange 7).filter _
    · rw [mem_edges, List.mem_singleton]
      exact ⟨fun hj => by_contra fun hne => hj (h j hne).symm, fun hj => hj ▸ hi.symm⟩
  have horder : s.edgeOrder = [i] := by rw [State.edgeOrder, hlone, shuffle_singleton]
  rw [sampleInputs_eq, takeEdges_edgeOrder, horder, hlone]
  exact (takeEdge_choice s.sampled s.choice i _).symm

/-! ### A clamp that opens (R33, R34) -/

/-- With no panel mounted a falling edge raises CLAMP-OPEN. -/
theorem clampFalls_unmounted {s : State} {f : Fin 2} (h : s.mounted f = none) : s.clampFalls f = s.raise .clampOpen := by
  simp [State.clampFalls, h]

theorem firstAssigned_eq_head (s : State) (e : Fin 4) :
    s.firstAssigned e = ((s.tabsOf e).filter (fun ht => decide (ht.2.state = .assigned))).head? :=
  (List.head?_filter).symm

theorem firstHandled_eq_head {s : State} {e : Fin 4} {p : Panel} (h : s.panel e = some p) : s.firstHandled e =
    (p.boards.filter (fun b => decide (b.state = .targeted ∨ b.state = .held ∨ b.state = .free))).head? := by
  rw [List.head?_filter, State.firstHandled, State.boardsOf, h]

/-- What a mounted panel with work given out reports, when its clamp opens (R34). -/
theorem clampFalls_mounted {s : State} {f : Fin 2} {e : Fin 4} (h : s.mounted f = some e) :
    s.clampFalls f = (s.clampContext e).elim (s.raise .clampOpen) s.reportFault := by
  rw [State.clampFalls, h, Option.bind_some]
  cases s.clampContext e <;> rfl

section

variable {s : State} {e : Fin 4} {p : Panel} (hp : s.panel e = some p)

/-- The context of R34 for a station, a site and a tab of the panel. -/
def Panel.clampFault (p : Panel) (e : Fin 4) (station : Option LineId) (site : Nat) (tab : Option Nat) : Context :=
  ⟨.clamp, .openedUnderWork, station, none, some e, some p.id, some site, tab, true⟩

include hp

theorem panelId_of_panel : s.panelId e = some p.id := by
  rw [panelId_eq, hp, Option.map_some]

/-- The first ASSIGNED tab comes first (R34). -/
theorem clampContext_assigned {h : TabHandle} {x : TabRecord} {rest : List (TabHandle × TabRecord)}
    (ha : (s.tabsOf e).filter (fun ht => decide (ht.2.state = .assigned)) = (h, x) :: rest) :
    s.clampContext e = some (p.clampFault e (x.lastSpindle.map Spindle.line) h.site (some h.tab)) := by
  rw [State.clampContext, firstAssigned_eq_head, ha, panelId_of_panel hp]
  rfl

/-- Without one, the board in the gripper's work (R34). -/
theorem clampContext_handled (ha : (s.tabsOf e).filter (fun ht => decide (ht.2.state = .assigned)) = []) :
    s.clampContext e =
      (p.boards.filter (fun b => decide (b.state = .targeted ∨ b.state = .held ∨ b.state = .free))).head?.map
        (fun b => p.clampFault e (some .gripper) b.site none) := by
  rw [State.clampContext, firstAssigned_eq_head, ha, panelId_of_panel hp, firstHandled_eq_head hp]
  rfl

end

/-! ### A bay sensor (R147) -/

/-- A rising edge confirms an OPEN window; any other edge has no effect. -/
theorem sensorEdge_eq (s : State) (b : Fin 4) (present : Bool) : s.sensorEdge b present =
    if present = true ∧ s.bays[b].confirm ≠ none then s.confirmPlacement b else s := by
  simp [State.sensorEdge, State.bayConfirming, Option.isSome_iff_ne_none]

/-! ### The obligation -/

/-- SAMPLE takes a sample when one is due; the operand stands for the pins (log entries 4 and 30). -/
theorem exec_sample_due {s : State} (raw : BitVec 7) (hr : s.resetAsserted = false) (hd : s.sampleDue = true) :
    exec (.sample raw) s = .next (sampleInputs { s with pins := raw }) := by
  refine congrArg Host.Outcome.next ((takeEvent_taken s _ hr).trans ?_)
  exact if_pos hd

theorem exec_sample_early {s : State} (raw : BitVec 7) (hr : s.resetAsserted = false) (hd : s.sampleDue = false) :
    exec (.sample raw) s = .next { s with pins := raw } := by
  refine congrArg Host.Outcome.next ((takeEvent_taken s _ hr).trans ?_)
  exact if_neg (by simp [hd])

/-- Settles O51: the sample by its edges in their order, then each edge at its block. -/
theorem samplesFilterTheInputsAndEdgesAct : Obligations.SamplesFilterTheInputsAndEdgesAct := by
  refine ⟨fun s raw hr => ⟨exec_sample_early raw hr, fun hd => ?_⟩, fun s => ⟨fun _ => rfl, fun f => ?_, fun b => ?_⟩⟩
  · obtain ⟨hfilters, hclock, hdue, hpins⟩ := sampleInputs_filterFields { s with pins := raw }
    refine ⟨sampleInputs { s with pins := raw }, ({ s with pins := raw } : State).sampled, exec_sample_due raw hr hd,
      hfilters, hclock, hdue, hpins, rfl, fun i => ?_, sampleInputs_quiet, ⟨_, ?_, sampleInputs_foldl _⟩,
      fun i => sampleInputs_lone⟩
    · dsimp only
      rw [sampled_get]
      exact ⟨sample_agrees _, sample_counts _, sample_takes _⟩
    · exact edges_eq_filter { s with pins := raw } ▸ edgeOrder_perm _
  · rw [takeEdge_clamp, takeEdge_clamp]
    refine ⟨rfl, clampFalls_unmounted, fun e p he hp => ⟨fun h x rest ha => ?_, fun b rest ha hb => ?_, fun ha hb => ?_⟩⟩
    · exact (clampFalls_mounted he).trans (by rw [clampContext_assigned hp ha]; rfl)
    · exact (clampFalls_mounted he).trans (by rw [clampContext_handled hp ha, hb]; rfl)
    · exact (clampFalls_mounted he).trans (by rw [clampContext_handled hp ha, hb]; rfl)
  · rw [takeEdge_sensor, takeEdge_sensor, sensorEdge_eq, sensorEdge_eq]
    exact ⟨if_neg (fun h => nomatch h.1), fun h => if_neg (fun hopen => hopen.2 h), fun h => if_pos ⟨rfl, h⟩⟩

end Sys2Proof.Machine
end

section
/-! PAUSE, RESUME and the pause state (R167 to R170): the in-flight conditions read off the records, and the fields of the
answer. -/

namespace Sys2Proof.Machine

/-! ### Work in flight (R169) -/

theorem mem_allTabs (s : State) (h : TabHandle) (x : TabRecord) : (h, x) ∈ s.allTabs ↔ s.tab h = some x := by
  simp only [State.allTabs, State.tabsOf, tabsWithHandles, List.mem_flatMap, List.mem_map, Prod.exists, Prod.mk.injEq,
    List.mem_zipIdx_iff_getElem?]
  constructor
  · rintro ⟨e, -, b, site, hb, y, i, hy, rfl, rfl⟩
    rwa [tab_of_board s ⟨e, site, i⟩ b hb]
  · intro hx
    cases hb : s.board h.board with
    | none => simp [State.tab, hb] at hx
    | some b =>
      rw [tab_of_board s h b hb] at hx
      exact ⟨h.entry, mem_entries _, b, h.site, hb, x, h.tab, hx, rfl, rfl⟩

theorem assignedTabs_ne_nil (s : State) :
    s.assignedTabs ≠ [] ↔ ∃ h x, s.tab h = some x ∧ x.state = .assigned := by
  simp [State.assignedTabs, mem_allTabs]

theorem movingBoards_ne_nil (s : State) :
    s.movingBoards ≠ [] ↔ ∃ h b, s.board h = some b ∧ (b.state = .targeted ∨ b.state = .free) := by
  simp [State.movingBoards, mem_allBoards, or_iff_not_imp_left]

theorem any_bayNumbers (test : Fin 4 → Bool) : bayNumbers.any test = true ↔ ∃ b, test b = true := by
  have hmem : ∀ b, b ∈ bayNumbers := by decide
  simp [List.any_eq_true, hmem]

/-- The four in-flight conditions (R169). -/
theorem inFlight_iff (s : State) : s.inFlight = true ↔
    (∃ h x, s.tab h = some x ∧ x.state = .assigned)
      ∨ (∃ h b, s.board h = some b ∧ (b.state = .targeted ∨ b.state = .free))
      ∨ ∃ b : Fin 4, s.bays[b].state = .indexing ∨ s.bays[b].state = .exchanging ∨ s.bays[b].confirm ≠ none := by
  rw [← assignedTabs_ne_nil, ← movingBoards_ne_nil]
  simp only [State.inFlight, Bool.or_eq_true, any_bayNumbers, State.bayMoving, State.bayConfirming, decide_eq_true_eq,
    Option.isSome_iff_ne_none, Bool.not_eq_true', List.isEmpty_eq_false_iff, or_assoc, ← exists_or]

/-! ### The pause state (R169, R170) -/

section

variable {s : State}

theorem pauseState_run (h : s.causes = ⟨false, false, false⟩) : s.pauseState = .run := by
  rw [State.pauseState, h]
  rfl

theorem pauseState_pausing (hc : s.causes ≠ ⟨false, false, false⟩) (hf : s.inFlight = true) : s.pauseState = .pausing := by
  rw [State.pauseState, if_pos ((causes_any_iff _).2 hc), if_pos hf]

theorem pauseState_paused (hc : s.causes ≠ ⟨false, false, false⟩) (hf : ¬ s.inFlight = true) : s.pauseState = .paused := by
  rw [State.pauseState, if_pos ((causes_any_iff _).2 hc), if_neg hf]

theorem pauseState_eq_paused : s.pauseState = .paused ↔ s.causes ≠ ⟨false, false, false⟩ ∧ ¬ s.inFlight = true := by
  refine ⟨fun h => ?_, fun ⟨hc, hf⟩ => pauseState_paused hc hf⟩
  by_cases hc : s.causes = ⟨false, false, false⟩
  · exact nomatch (pauseState_run hc).symm.trans h
  · exact ⟨hc, fun hf => nomatch (pauseState_pausing hc hf).symm.trans h⟩

/-- QUIET shows PAUSED, and it is negated while RESET is asserted (R170). -/
theorem quietOut_iff : s.quietOut = true ↔
    s.resetAsserted = false ∧ s.causes ≠ ⟨false, false, false⟩ ∧ ¬ s.inFlight = true := by
  rw [← pauseState_eq_paused]
  simp [State.quietOut]

end

/-! ### The answer (R168) -/

/-- The tabs of the part are the tabs of its boards, in their order. -/
theorem map_allTabs (s : State) : s.allTabs.map Prod.snd = s.allBoards.flatMap (fun hb => hb.2.tabs) := by
  have htabs : ∀ h b, (tabsWithHandles h b).map Prod.snd = b.tabs := fun h b => by
    rw [tabsWithHandles, List.map_map]
    exact List.zipIdx_map_fst 0 b.tabs
  simp only [State.allTabs, State.tabsOf, State.allBoards, List.map_flatMap, List.flatMap_assoc, List.flatMap_map, htabs]

/-- The ASSIGNED tabs of the part, counted board by board. -/
theorem length_assignedTabs (s : State) : s.assignedTabs.length =
    ((s.allBoards.flatMap (fun hb => hb.2.tabs)).filter (fun x => decide (x.state = .assigned))).length := by
  rw [← map_allTabs, List.filter_map, List.length_map, State.assignedTabs, List.length_map]
  rfl

theorem isEmpty_eq_of_length_eq {α β : Type} {l : List α} {m : List β} (h : l.length = m.length) : l.isEmpty = m.isEmpty := by
  rw [Bool.eq_iff_iff, List.isEmpty_iff_length_eq_zero, List.isEmpty_iff_length_eq_zero, h]

theorem u8_pauseState (p : PauseState) : u8 p.code = match p with
    | .run => [0]
    | .pausing => [1]
    | .paused => [2] := by
  cases p <;> rfl

/-- The first board of a list with its handles, or the absent board. -/
theorem optBoardHandle_head (l : List (BoardHandle × BoardRecord)) : optBoardHandle (l.map Prod.fst).head? = match l with
    | [] => [0xFF, 0xFF]
    | hb :: _ => u8 hb.1.entry ++ u8 hb.1.site := by
  cases l <;> rfl

theorem flatMap_filters (v : Vector FilterRecord 7) (f : FilterRecord → List Byte) :
    v.toList.flatMap f = (List.finRange 7).flatMap (fun i => f v[i]) := by
  have hlist : v.toList = (List.finRange 7).map (fun i => v[i]) := by
    refine List.ext_getElem (by simp) fun i _ _ => ?_
    simp
  rw [hlist, List.flatMap_map]

theorem bayNumbers_eq_finRange : bayNumbers = List.finRange 4 := by decide

theorem entries_eq_finRange : entries = List.finRange 4 := by decide

/-- Settles O52: the answer field by field, then the causes and the state formed from them. -/
theorem pauseAndResumeChangeTheCauses : Obligations.PauseAndResumeChangeTheCauses := by
  refine ⟨fun s => ?_, fun s => ?_⟩
  · intro boards cutting carried moving waiting
    have hboards : s.allBoards = boards := by rw [State.allBoards, entries_eq_finRange]
    have hcutting : s.assignedTabs.length = cutting.length := by rw [length_assignedTabs, hboards]
    have hcarried : s.movingBoards = carried.map Prod.fst := by rw [State.movingBoards, hboards]
    rw [pauseFields, u8_pauseState, isEmpty_eq_of_length_eq hcutting, hcutting, hcarried, optBoardHandle_head,
      flatMap_filters, bayNumbers_eq_finRange, List.isEmpty_map]
    simp only [moving, waiting, List.any_map, List.flatMap_map, Function.comp_def, id_eq]
    rfl
  · intro paused resumed
    refine ⟨fun ⟨hopen, hnormal⟩ => ⟨?_, ?_⟩, ?_⟩
    · exact exec_changes paused hopen (.inl hnormal) rfl rfl
    · exact exec_changes resumed hopen (.inl hnormal) rfl rfl
    · rintro _ rfl
      rw [← inFlight_iff]
      exact ⟨pauseState_run, pauseState_pausing, pauseState_paused, quietOut_iff⟩

end Sys2Proof.Machine
end

section
/-! The Fault Unit (R177, R178, R180, R182), the host commands that are turned away (R179, R186, R187), and the cold restarts with
RESET (R11, R95, R185, R188). -/

namespace Sys2Proof.Machine

/-! ### The Fault Unit (R174, R177 to R182) -/

theorem severe_iff (k : FaultClass) : k.severe = true ↔ k = .handling ∨ k = .clamp := by
  cases k <;> decide

/-- Settles O18: FAULT_ACK delivered in NORMAL, and turned away in LOCKDOWN. -/
theorem faultAckReArms : Obligations.FaultAckReArms := fun s hopen =>
  ⟨fun hl => exec_changes { s with fault := { s.fault with armed := true, pendingSet := 0 } } hopen (.inl hl) rfl rfl,
    fun hl => congrArg _ (takeCommandOr_locked s .faultAck _ hopen hl rfl)⟩

/-- Settles O19: the five rows of R177, R178 and R180, each the outcome of `State.reportFault` under its conditions. -/
theorem faultUnitTakesAFault : Obligations.FaultUnitTakesAFault := by
  intro s c raised severe pended
  have hsevere : c.cls.severe = true ↔ severe := severe_iff c.cls
  exact ⟨reportFault_disabled s c, reportFault_locked s c, reportFault_armed s c,
    fun he hl ha hs => reportFault_pending s c he hl ha (Bool.eq_false_iff.2 (mt hsevere.1 hs)),
    fun he hl ha hs => reportFault_severe s c he hl ha (hsevere.2 hs)⟩

/-! ### Host commands turned away (R179, R187) -/

/-- Settles O8: tests 1 and 4 of R187 on the frame of the row. -/
theorem hostCommandsTurnedAway : Obligations.HostCommandsTurnedAway := by
  intro c name s hrow hr
  rw [exec_host_frame hrow s]
  exact ⟨fun hb => congrArg _ (takeCommandOr_busy s name _ hr hb),
    fun hb hl hn => congrArg _ (takeCommandOr_locked s name _ ⟨hr, hb⟩ hl hn)⟩

/-! ### Reset -/

theorem panel_reset (e : Fin 4) : State.reset.panel e = none := by
  simp [State.panel, State.reset]

/-- With no recipe and no panel there is nothing to interlock (R66). -/
theorem reset_interlocked : Interlocked State.reset :=
  ⟨fun n r hr => by simp [State.reset] at hr, fun e p hp => nomatch (panel_reset e).symm.trans hp⟩

/-- Settles O53: the cold values of the reset state itself are its own, and a part of cold values is sound. -/
theorem invariantsHoldAtReset : Obligations.InvariantsHoldAtReset := by
  obtain ⟨hruns, hrecipes, hmounted, hcorrections⟩ := (panelsSound_iff State.reset).1 (coldValues_panelsSound State.reset)
  obtain ⟨hsettings, hguard, hlockdown⟩ := coldValues_controls State.reset
  obtain ⟨hlines, hbays⟩ := coldValues_sound State.reset
  exact ⟨hruns, hrecipes, hmounted, hcorrections, hguard, hlockdown, hsettings, hlines, hbays, reset_interlocked⟩

/-! ### The cold restarts and RESET (R95, R185, R186) -/

/-- RESTART COLD keeps the frames in transmission and answers OK as the first of its sequence (R95, R188). -/
theorem exec_restartCold (s : State) (h : PortOpen s) :
    exec .restartCold s = .next ((coldRestart s).answered .restart .ok []) :=
  exec_changes (coldRestart s) h (.inr rfl) rfl rfl

theorem coldRestart_answered {s : State} (h : PortOpen s) :
    (coldRestart s).answered .restart .ok [] = { State.reset with
      pins := s.pins, resetAsserted := false, choice := s.choice, pending := s.pending
      lines := mapVec Line.restarted s.lines
      answer := ⟨1, 0x62, some .ok, []⟩ } := by
  rw [← h.1]
  rfl

theorem line_assertReset (s : State) (l : LineId) : (assertReset s).line l = { s.line l with tx := none } := by
  simp [State.line, assertReset]

/-- At the assertion a validation ends (R11). -/
theorem assertReset_not_validating (s : State) (n : Fin 16) (r : StagedRecipe) :
    (assertReset s).staging ≠ .validating n r := by
  unfold assertReset
  dsimp only
  split <;> exact nofun

/-- While RESET is asserted no command but those that end or repeat it has an effect (R95, R185, R186). -/
theorem exec_reset {c : Instr} {s : State} (hr : s.resetAsserted = true) (hassert : c ≠ .resetAssert)
    (hrelease : c ≠ .resetRelease) (hpower : c ≠ .powerOn) : exec c s = .next s := by
  obtain ⟨name, command, hc⟩ | ⟨l, name, request, hc⟩ | ⟨event, hc⟩ | hc | hc | hc := exec_shape c
  · rw [hc, takeCommandOr_reset s name command hr]
  · rw [hc, State.takeRequest, if_pos hr]
  · rw [hc, State.takeEvent, if_pos hr]
  · exact absurd hc hassert
  · exact absurd hc hrelease
  · exact absurd hc hpower

/-- Settles O5: the three forms of a cold restart, the assertion of RESET, and the commands that come during it. -/
theorem coldRestartsAndReset : Obligations.ColdRestartsAndReset := by
  refine ⟨fun s => ⟨rfl, rfl, fun hopen => ?_⟩, fun s => ?_, fun c s => exec_reset⟩
  · rw [exec_restartCold s hopen, coldRestart_answered hopen]
    rfl
  · exact ⟨assertReset s, rfl, rfl, rfl, assertReset_not_validating s, line_assertReset s, rfl, rfl, rfl, rfl⟩

end Sys2Proof.Machine
end

section
/-! The bays in a warm restart (R140, R145, R162): the head slots that the boards hold reserved, what the cancellation of the
TARGETED boards' reservations makes of a bay, and the bay decided after it. -/

namespace Sys2Proof.Machine

/-! ### The slots reserved in a bay (R145) -/

/-- The head slot that a board holds reserved in a bay, if any. -/
def State.headIn (s : State) (b : Fin 4) (h : BoardHandle) : Option Nat :=
  (s.board h).bind (fun x => x.reservation.bind (fun r => if r.bay = b then some r.slot else none))

theorem headIn_eq_some {s : State} {b : Fin 4} {h : BoardHandle} {n : Nat} :
    s.headIn b h = some n ↔ ∃ x, s.board h = some x ∧ x.reservation = some ⟨b, n⟩ := by
  simp only [State.headIn, Option.bind_eq_some_iff, Option.ite_none_right_eq_some, Option.some.injEq]
  constructor
  · rintro ⟨x, hx, ⟨_, _⟩, hr, rfl, rfl⟩
    exact ⟨x, hx, hr⟩
  · rintro ⟨x, hx, hr⟩
    exact ⟨x, hx, _, hr, rfl, rfl⟩

/-- The slot that a warm restart indexes to is one that a board holds (R162). -/
theorem headIn_of_reservedHead {s : State} {b : Fin 4} {n : Nat} (h : s.reservedHead b = some n) :
    ∃ g, s.headIn b g = some n := by
  obtain ⟨⟨g, x⟩, hmem, hx⟩ := List.exists_of_findSome?_eq_some h
  refine ⟨g, ?_⟩
  rw [State.headIn, (mem_allBoards s g x).1 hmem, Option.bind_some]
  cases hr : x.reservation with
  | none => simp [hr] at hx
  | some r => simpa [hr] using hx

/-- With no slot to index to, no board holds one. -/
theorem headIn_of_reservedHead_none {s : State} {b : Fin 4} (h : s.reservedHead b = none) (g : BoardHandle) :
    s.headIn b g = none := by
  refine Option.eq_none_iff_forall_ne_some.2 fun n hn => ?_
  obtain ⟨x, hx, hr⟩ := headIn_eq_some.1 hn
  have hnone := List.findSome?_eq_none_iff.1 h _ ((mem_allBoards s g x).2 hx)
  simp [hr] at hnone

/-- Boards whose reservations were cancelled hold no slot, the others hold what they held. -/
theorem headIn_foldl_cancelReservation (hs : List BoardHandle) (s : State) (b : Fin 4) (g : BoardHandle) :
    (hs.foldl State.cancelReservation s).headIn b g = if g ∈ hs then none else s.headIn b g := by
  have hboard : (hs.foldl State.cancelReservation s).board g =
      (s.board g).map (fun x => if g ∈ hs then x.unreserved else x) := by
    simp only [State.board, State.boardsOf, panel_foldl_cancelReservation]
    cases s.panel g.entry with
    | none => rfl
    | some p => simp [Panel.unreservedAt]
  rw [State.headIn, hboard]
  split
  · cases hx : s.board g <;> simp [BoardRecord.unreserved]
  · simp [State.headIn]

theorem headIn_cancelReservation (s : State) (b : Fin 4) (h g : BoardHandle) :
    (s.cancelReservation h).headIn b g = if g = h then none else s.headIn b g := by
  simpa using headIn_foldl_cancelReservation [h] s b g

/-! ### A reservation cancelled, at its bay (R145) -/

/-- A bay whose reservation at a head slot is cancelled. -/
def Bay.cancelAt (b : Bay) (head : Nat) : Bay :=
  { b with current := b.current.map (fun m => m.cancel head) : Bay }.leaveIndexWanted

theorem cancelAt_eq (b : Bay) (head : Nat) : b.cancelAt head = { b with
    current := b.current.map (fun m => m.cancel head)
    state := if b.state = .indexWanted then .active else b.state
    target := if b.state = .indexWanted then none else b.target } := by
  unfold Bay.cancelAt Bay.leaveIndexWanted
  dsimp only
  split <;> rfl

/-- A board with a reservation loses it, and its bay cancels it. -/
theorem cancelReservation_of_some {s : State} {h : BoardHandle} {x : BoardRecord} {r : Reservation} (hx : s.board h = some x)
    (hr : x.reservation = some r) : s.cancelReservation h =
      (s.setBay r.bay (s.bays[r.bay].cancelAt r.slot)).modifyBoard h BoardRecord.unreserved := by
  rw [State.cancelReservation, hx]
  simp only [hr]
  rfl

/-- Without a reservation nothing changes. -/
theorem cancelReservation_of_none {s : State} {h : BoardHandle} (hb : (s.board h).bind (fun x => x.reservation) = none) :
    s.cancelReservation h = s := by
  unfold State.cancelReservation
  split
  · next x hx =>
    rw [hx, Option.bind_some] at hb
    rw [hb]
  · rfl

theorem bay_cancelReservation (s : State) (h : BoardHandle) (b : Fin 4) :
    (s.cancelReservation h).bays[b] = (s.headIn b h).elim s.bays[b] s.bays[b].cancelAt := by
  cases hb : (s.board h).bind (fun x => x.reservation) with
  | none =>
    have hhead : s.headIn b h = none := by rw [State.headIn, ← Option.bind_assoc, hb, Option.bind_none]
    rw [cancelReservation_of_none hb, hhead, Option.elim_none]
  | some r =>
    obtain ⟨x, hx, hr⟩ := Option.bind_eq_some_iff.1 hb
    rw [cancelReservation_of_some hx hr, State.headIn, ← Option.bind_assoc, hb, Option.bind_some]
    simp only [modifyBoard_fields]
    by_cases hbay : r.bay = b
    · subst hbay
      rw [if_pos rfl, bay_setBay, Option.elim_some]
    · rw [if_neg hbay, bay_setBay_ne _ _ _ _ hbay, Option.elim_none]

/-- Cancelling reservations in other bays leaves a bay. -/
theorem bay_foldl_of_none {hs : List BoardHandle} {s : State} {b : Fin 4} (h : ∀ g ∈ hs, s.headIn b g = none) :
    (hs.foldl State.cancelReservation s).bays[b] = s.bays[b] := by
  induction hs generalizing s with
  | nil => rfl
  | cons g rest ih =>
    have hbay : (s.cancelReservation g).bays[b] = s.bays[b] := by
      rw [bay_cancelReservation, h g List.mem_cons_self, Option.elim_none]
    rw [List.foldl_cons, ih fun k hk => ?_, hbay]
    rw [headIn_cancelReservation, h k (List.mem_cons_of_mem g hk), ite_self]

/-- When one board alone holds a slot of the bay, the bay changes by the cancellation of that reservation. -/
theorem bay_foldl_of_one {hs : List BoardHandle} {s : State} {b : Fin 4} {h : BoardHandle} {n : Nat} (hmem : h ∈ hs)
    (hn : s.headIn b h = some n) (hone : ∀ g ∈ hs, g ≠ h → s.headIn b g = none) :
    (hs.foldl State.cancelReservation s).bays[b] = s.bays[b].cancelAt n := by
  induction hs generalizing s with
  | nil => exact absurd hmem List.not_mem_nil
  | cons g rest ih =>
    rw [List.foldl_cons]
    by_cases hg : g = h
    · subst hg
      rw [bay_foldl_of_none fun k hk => ?_, bay_cancelReservation, hn, Option.elim_some]
      rw [headIn_cancelReservation]
      split
      · rfl
      · next hkg => exact hone k (List.mem_cons_of_mem g hk) hkg
    · have hbay : (s.cancelReservation g).bays[b] = s.bays[b] := by
        rw [bay_cancelReservation, hone g List.mem_cons_self hg, Option.elim_none]
      have hrest : h ∈ rest := (List.mem_cons.1 hmem).resolve_left (Ne.symm hg)
      have hkept : (s.cancelReservation g).headIn b h = some n := by rw [headIn_cancelReservation, if_neg (Ne.symm hg), hn]
      rw [ih hrest hkept fun k hk hkh => ?_, hbay]
      rw [headIn_cancelReservation, hone k (List.mem_cons_of_mem g hk) hkh, ite_self]

/-! ### The reservations of the TARGETED boards, at their bays (R140, R162) -/

/-- What cancelled reservations leave of a bay: a bay outside INDEX-WANTED stands in its state with its target. -/
structure Bay.CancelledFrom (was now : Bay) : Prop where
  next : now.next = was.next
  go : now.go = was.go
  confirm : now.confirm = was.confirm
  current : was.current = none → now.current = none
  stands : (now.state = was.state ∧ now.target = was.target) ∨ was.state = .indexWanted

theorem Bay.CancelledFrom.refl (b : Bay) : b.CancelledFrom b := ⟨rfl, rfl, rfl, id, .inl ⟨rfl, rfl⟩⟩

theorem Bay.CancelledFrom.trans {a b c : Bay} (h : a.CancelledFrom b) (k : b.CancelledFrom c) : a.CancelledFrom c where
  next := k.next.trans h.next
  go := k.go.trans h.go
  confirm := k.confirm.trans h.confirm
  current := k.current ∘ h.current
  stands := h.stands.elim (fun ⟨hs, ht⟩ => k.stands.imp (And.imp (·.trans hs) (·.trans ht)) hs.symm.trans) .inr

theorem cancelAt_cancelledFrom (b : Bay) (head : Nat) : b.CancelledFrom (b.cancelAt head) := by
  rw [cancelAt_eq]
  refine ⟨rfl, rfl, rfl, fun h => Option.map_eq_none_iff.2 h, ?_⟩
  by_cases hst : b.state = .indexWanted
  · exact .inr hst
  · exact .inl ⟨if_neg hst, if_neg hst⟩

theorem foldl_cancelledFrom (hs : List BoardHandle) (s : State) (b : Fin 4) :
    s.bays[b].CancelledFrom (hs.foldl State.cancelReservation s).bays[b] := by
  induction hs generalizing s with
  | nil => exact .refl _
  | cons h rest ih =>
    refine .trans ?_ (ih _)
    rw [bay_cancelReservation]
    cases s.headIn b h with
    | none => exact .refl _
    | some n => exact cancelAt_cancelledFrom _ n

theorem cancelTargeted_cancelledFrom (s : State) (b : Fin 4) : s.bays[b].CancelledFrom s.cancelTargeted.bays[b] :=
  foldl_cancelledFrom s.targetedBoards s b

/-- A TARGETED board's reservation in a bay, which a warm restart cancels (R140). -/
def State.GivenBack (s : State) (b : Fin 4) (h : BoardHandle) (n : Nat) : Prop :=
  ∃ x, s.board h = some x ∧ x.state = .targeted ∧ x.reservation = some ⟨b, n⟩

/-- A slot of a bay that a board other than a TARGETED one holds, so that a warm restart leaves it (R162). -/
def State.StaysAt (s : State) (b : Fin 4) (n : Nat) : Prop :=
  ∃ h x, s.board h = some x ∧ x.state ≠ .targeted ∧ x.reservation = some ⟨b, n⟩

theorem givenBack_iff {s : State} {b : Fin 4} {h : BoardHandle} {n : Nat} :
    s.GivenBack b h n ↔ h ∈ s.targetedBoards ∧ s.headIn b h = some n := by
  rw [mem_targetedBoards, headIn_eq_some]
  constructor
  · rintro ⟨x, hx, hst, hr⟩
    exact ⟨⟨x, hx, hst⟩, x, hx, hr⟩
  · rintro ⟨⟨x, hx, hst⟩, y, hy, hr⟩
    obtain rfl := Option.some.inj (hx.symm.trans hy)
    exact ⟨x, hx, hst, hr⟩

theorem staysAt_iff {s : State} {b : Fin 4} {n : Nat} : s.StaysAt b n ↔ ∃ h, s.cancelTargeted.headIn b h = some n := by
  refine exists_congr fun h => ?_
  have hhead := headIn_foldl_cancelReservation s.targetedBoards s b h
  rw [State.cancelTargeted, hhead]
  constructor
  · rintro ⟨x, hx, hst, hr⟩
    have hmem : h ∉ s.targetedBoards := fun hmem => by
      obtain ⟨y, hy, hyst⟩ := (mem_targetedBoards s h).1 hmem
      exact hst (Option.some.inj (hx.symm.trans hy) ▸ hyst)
    rw [if_neg hmem]
    exact headIn_eq_some.2 ⟨x, hx, hr⟩
  · intro hn
    obtain ⟨hmem, hn⟩ := Option.ite_none_left_eq_some.1 hn
    obtain ⟨x, hx, hr⟩ := headIn_eq_some.1 hn
    exact ⟨x, hx, fun hst => hmem ((mem_targetedBoards s h).2 ⟨x, hx, hst⟩), hr⟩

/-- A warm restart indexes a bay again to a slot that a board still holds of it, if there is one (R162). -/
theorem reservedHead_cancelTargeted (s : State) (b : Fin 4) :
    (∃ n, s.cancelTargeted.reservedHead b = some n ∧ s.StaysAt b n)
      ∨ (s.cancelTargeted.reservedHead b = none ∧ ∀ n, ¬ s.StaysAt b n) := by
  cases hhead : s.cancelTargeted.reservedHead b with
  | some n => exact .inl ⟨n, rfl, staysAt_iff.2 (headIn_of_reservedHead hhead)⟩
  | none =>
    refine .inr ⟨rfl, fun n hn => ?_⟩
    obtain ⟨h, hn⟩ := staysAt_iff.1 hn
    exact nomatch (headIn_of_reservedHead_none hhead h).symm.trans hn

/-- With no TARGETED board in the bay nothing is cancelled in it. -/
theorem cancelTargeted_bay_of_none {s : State} {b : Fin 4} (h : ∀ g n, ¬ s.GivenBack b g n) :
    s.cancelTargeted.bays[b] = s.bays[b] :=
  bay_foldl_of_none fun g hg => Option.eq_none_iff_forall_ne_some.2 fun n hn => h g n (givenBack_iff.2 ⟨hg, hn⟩)

/-- With one TARGETED board in the bay its reservation is cancelled and no other. -/
theorem cancelTargeted_bay_of_one {s : State} {b : Fin 4} {h : BoardHandle} {n : Nat} (hn : s.GivenBack b h n)
    (hone : ∀ g k, s.GivenBack b g k → g = h) : s.cancelTargeted.bays[b] = s.bays[b].cancelAt n := by
  obtain ⟨hmem, hhead⟩ := givenBack_iff.1 hn
  exact bay_foldl_of_one hmem hhead fun g hg hne =>
    Option.eq_none_iff_forall_ne_some.2 fun k hk => hne (hone g k (givenBack_iff.2 ⟨hg, hk⟩))

/-! ### The bay decided (R162) -/

/-- The fields of a bay that its state before the restart does not decide. -/
theorem warm_bay_fields (before : BayState) (head : Option Nat) (b : Bay) :
    (b.warm before head).next = b.next ∧ (b.warm before head).go = b.go ∧ (b.warm before head).confirm = b.confirm
      ∧ (b.warm before head).action = none ∧ (b.warm before head).actionTimer = none
      ∧ (b.warm before head).settleTimer = none ∧ (b.warm before head).current = b.current := by
  unfold Bay.warm
  cases before <;> cases head <;> exact ⟨rfl, rfl, rfl, rfl, rfl, rfl, rfl⟩

/-- A bay that is to be indexed, is indexed or stands settled (R162). -/
def BayState.Indexed (st : BayState) : Prop := st = .indexWanted ∨ st = .indexing ∨ st = .settling ∨ st = .atSlot

theorem warm_bay_indexed {before : BayState} (h : before.Indexed) (head : Option Nat) (b : Bay) :
    (b.warm before head).state = (if head.isSome then .indexWanted else .active) ∧ (b.warm before head).target = head := by
  obtain rfl | rfl | rfl | rfl := h <;> cases head <;> exact ⟨rfl, rfl⟩

theorem warm_bay_other {before : BayState} (h : ¬ before.Indexed) (head : Option Nat) (b : Bay) :
    (b.warm before head).state = (if before = .exchanging then .faulted else b.state)
      ∧ (b.warm before head).target = b.target := by
  cases before
  case indexWanted | indexing | settling | atSlot => exact absurd (by simp [BayState.Indexed]) h
  all_goals exact ⟨rfl, rfl⟩

/-- In every bay the work of the elevator is given up; the NEXT record, GO and the confirm window stay (R162). -/
theorem warmBays_fields (s : State) (b : Fin 4) :
    s.warmBays.bays[b].next = s.bays[b].next ∧ s.warmBays.bays[b].go = s.bays[b].go
      ∧ s.warmBays.bays[b].confirm = s.bays[b].confirm ∧ s.warmBays.bays[b].action = none
      ∧ s.warmBays.bays[b].actionTimer = none ∧ s.warmBays.bays[b].settleTimer = none := by
  have hfrom := cancelTargeted_cancelledFrom s b
  obtain ⟨hnext, hgo, hconfirm, haction, hactionTimer, hsettleTimer, -⟩ :=
    warm_bay_fields s.bays[b].state (s.cancelTargeted.reservedHead b) s.cancelTargeted.bays[b]
  rw [bay_warmBays]
  exact ⟨hnext.trans hfrom.next, hgo.trans hfrom.go, hconfirm.trans hfrom.confirm, haction, hactionTimer, hsettleTimer⟩

/-- A CURRENT record changes by the cancelled reservations alone. -/
theorem warmBays_current (s : State) (b : Fin 4) : s.warmBays.bays[b].current = s.cancelTargeted.bays[b].current := by
  obtain ⟨-, -, -, -, -, -, hcurrent⟩ :=
    warm_bay_fields s.bays[b].state (s.cancelTargeted.reservedHead b) s.cancelTargeted.bays[b]
  rw [bay_warmBays]
  exact hcurrent

/-- A bay that was indexed asks for the index again when a board still holds a slot of it, and is ACTIVE otherwise (R162). -/
theorem warmBays_indexed {s : State} {b : Fin 4} (h : s.bays[b].state.Indexed) :
    (∃ n, s.StaysAt b n ∧ s.warmBays.bays[b].state = .indexWanted ∧ s.warmBays.bays[b].target = some n)
      ∨ ((∀ n, ¬ s.StaysAt b n) ∧ s.warmBays.bays[b].state = .active ∧ s.warmBays.bays[b].target = none) := by
  obtain ⟨hstate, htarget⟩ := warm_bay_indexed h (s.cancelTargeted.reservedHead b) s.cancelTargeted.bays[b]
  rw [bay_warmBays, hstate, htarget]
  obtain ⟨n, hhead, hn⟩ | ⟨hhead, hnone⟩ := reservedHead_cancelTargeted s b
  · exact .inl ⟨n, hn, by rw [hhead]; rfl, hhead⟩
  · exact .inr ⟨hnone, by rw [hhead]; rfl, hhead⟩

/-- Any other bay keeps its target, and its state unless it was EXCHANGING (R162). -/
theorem warmBays_other {s : State} {b : Fin 4} (h : ¬ s.bays[b].state.Indexed) :
    s.warmBays.bays[b].state = (if s.bays[b].state = .exchanging then .faulted else s.bays[b].state)
      ∧ s.warmBays.bays[b].target = s.bays[b].target := by
  obtain ⟨hstands, hkept⟩ := (cancelTargeted_cancelledFrom s b).stands.resolve_right fun hw => h (.inl hw)
  obtain ⟨hstate, htarget⟩ := warm_bay_other h (s.cancelTargeted.reservedHead b) s.cancelTargeted.bays[b]
  rw [bay_warmBays, hstate, htarget, hstands, hkept]
  exact ⟨rfl, rfl⟩

end Sys2Proof.Machine
end

section
/-! RESTART WARM (R183, R184): the part it leaves, block by block and bay by bay, and the gate that refuses it. -/

namespace Sys2Proof.Machine

/-! ### The part after a warm restart (R184) -/

/-- Two states differ in the Panel Table and the bays alone. -/
structure SameButRecords (s t : State) : Prop where
  eq : t = { s with panels := t.panels, bays := t.bays }

theorem SameButRecords.refl (s : State) : SameButRecords s s := ⟨rfl⟩

theorem SameButRecords.trans {s t u : State} (h : SameButRecords s t) (k : SameButRecords t u) : SameButRecords s u := by
  have hu := k.eq
  rw [h.eq] at hu
  exact ⟨hu⟩

theorem setBay_sameButRecords (s : State) (b : Fin 4) (r : Bay) : SameButRecords s (s.setBay b r) := ⟨rfl⟩

theorem modifyBoard_sameButRecords (s : State) (h : BoardHandle) (f : BoardRecord → BoardRecord) :
    SameButRecords s (s.modifyBoard h f) := by
  unfold State.modifyBoard
  split
  · exact ⟨rfl⟩
  · exact .refl s

theorem cancelReservation_sameButRecords (s : State) (h : BoardHandle) : SameButRecords s (s.cancelReservation h) := by
  cases hb : (s.board h).bind (fun x => x.reservation) with
  | none => rw [cancelReservation_of_none hb]; exact .refl s
  | some r =>
    obtain ⟨x, hx, hr⟩ := Option.bind_eq_some_iff.1 hb
    rw [cancelReservation_of_some hx hr]
    exact (setBay_sameButRecords s _ _).trans (modifyBoard_sameButRecords _ h _)

theorem foldl_sameButRecords {α : Type} {f : State → α → State} (hf : ∀ s a, SameButRecords s (f s a)) (l : List α)
    (s : State) : SameButRecords s (l.foldl f s) := by
  induction l generalizing s with
  | nil => exact .refl s
  | cons a rest ih => exact (hf s a).trans (ih _)

/-- The bays of a warm restart: reservations and bay records alone (R140, R162). -/
theorem warmBays_sameButRecords (s : State) : SameButRecords s s.warmBays := by
  have hcancelled : SameButRecords s s.cancelTargeted :=
    foldl_sameButRecords cancelReservation_sameButRecords s.targetedBoards s
  unfold State.warmBays
  exact hcancelled.trans (foldl_sameButRecords (fun t b => setBay_sameButRecords t b _) bayNumbers _)

/-- Every block but the Panel Table and the bays in a warm restart (R19, R53, R94, R120, R140, R167, R184, R191). -/
theorem warmRestart_eq (s : State) : warmRestart s = { s with
    panels := (warmRestart s).panels
    runs := Vector.replicate 4 .idle
    hold := .empty
    bays := s.warmBays.bays
    staging := .closed
    lines := mapVec Line.restarted s.lines
    spindleA := s.spindleA.warm
    spindleB := s.spindleB.warm
    gripper := ⟨.ready, none, none⟩
    causes := ⟨false, s.guardLevel, true⟩
    fault := { s.fault with armed := true, pendingSet := 0, locked := false }
    notices := NoticeUnit.cold } := by
  unfold warmRestart
  rw [(warmBays_sameButRecords s).eq]
  rfl

/-! ### RESTART WARM (R183) -/

theorem foldl_ovr {α : Type} {f : State → α → State} {o : Bool}
    (hf : ∀ s a, f { s with ovr := o } a = { f s a with ovr := o }) (l : List α) (s : State) :
    l.foldl f { s with ovr := o } = { l.foldl f s with ovr := o } := by
  induction l generalizing s with
  | nil => rfl
  | cons a rest ih => rw [List.foldl_cons, List.foldl_cons, hf, ih]

/-- The bays of a warm restart do not read the port's OVR mark. -/
theorem warmBays_ovr (s : State) (o : Bool) : ({ s with ovr := o } : State).warmBays = { s.warmBays with ovr := o } := by
  have hcancelled : ({ s with ovr := o } : State).cancelTargeted = { s.cancelTargeted with ovr := o } :=
    foldl_ovr (fun t h => cancelReservation_ovr t o h) s.targetedBoards s
  rw [State.warmBays, hcancelled]
  exact foldl_ovr (fun _ _ => rfl) bayNumbers s.cancelTargeted

theorem warmRestart_ovr (s : State) (o : Bool) : warmRestart { s with ovr := o } = { warmRestart s with ovr := o } := by
  unfold warmRestart
  rw [warmBays_ovr]
  generalize s.warmBays = u
  rfl

/-- RESTART WARM is taken in NORMAL, and in LOCKDOWN when both context records are recoverable (R183). -/
theorem exec_restartWarm_taken {s : State} (h : PortOpen s)
    (hrec : s.fault.locked = true → recoverable s.fault.primary = true ∧ recoverable s.fault.lockdownRec = true) :
    exec .restartWarm s = .next ((warmRestart s).answered .restart .ok []) := by
  refine exec_changes (warmRestart s) h (.inr rfl) rfl ?_
  rw [← warmRestart_ovr]
  exact if_neg fun hn => hn.2 (hrec hn.1)

theorem flag_eq (b : Bool) : flag b = [if b then 1 else 0] := by
  cases b <;> rfl

/-- In LOCKDOWN a context record that is not recoverable bars it (R183). -/
theorem exec_restartWarm_refused {s : State} (h : PortOpen s) (hl : s.fault.locked = true)
    (hrec : recoverable s.fault.primary = false ∨ recoverable s.fault.lockdownRec = false) :
    exec .restartWarm s = .next (s.answered .restart .notRecoverable
      (flag (recoverable s.fault.primary) ++ flag (recoverable s.fault.lockdownRec))) :=
  exec_answered h (.inr rfl) rfl (if_pos ⟨hl, fun ⟨hp, hr⟩ => by simp [hp, hr] at hrec⟩)

/-- Settles O6: the blocks one by one, then each bay by its state before the restart, then the gate of R183. -/
theorem warmRestartResult : Obligations.WarmRestartResult := by
  refine ⟨fun s hopen hrec => ?_, fun s hopen hl hrec => ?_⟩
  · have hexec := exec_restartWarm_taken hopen hrec
    rw [warmRestart_eq] at hexec
    refine ⟨_, hexec, rfl, rfl, rfl, rfl, rfl, rfl, fun e => ?_, rfl, fun l => ?_, fun sp => ?_, rfl, rfl, rfl, rfl, rfl, rfl,
      rfl, rfl, rfl, rfl, rfl, rfl, rfl, hopen.1, rfl, rfl, warmBays_fields s, fun b => ?_⟩
    · simp [State.answered]
    · simp [State.answered, State.line, Line.restarted, Line.cold]
    · cases sp <;> rfl
    · intro was now stays given indexed
      have hother : ¬ was.state.Indexed → now.state = (if was.state = .exchanging then .faulted else was.state)
          ∧ now.target = was.target := warmBays_other
      have hcurrent : now.current = s.cancelTargeted.bays[b].current := warmBays_current s b
      refine ⟨fun hin ⟨n, hn⟩ => ?_, fun hin hnone => ?_, fun hst => ?_, fun hst => ?_, fun hnone => ?_, fun hnone => ?_,
        fun h n m hn hone hm => ?_⟩
      · obtain ⟨k, hk, hstate, htarget⟩ | ⟨hnone, -⟩ := warmBays_indexed hin
        · exact ⟨hstate, k, hk, htarget⟩
        · exact absurd hn (hnone n)
      · obtain ⟨k, hk, -⟩ | ⟨-, hstate, htarget⟩ := warmBays_indexed hin
        · exact absurd hk (hnone k)
        · exact ⟨hstate, htarget⟩
      · obtain ⟨hstate, htarget⟩ := hother (by simp [BayState.Indexed, hst])
        exact ⟨hstate.trans (if_pos hst), htarget⟩
      · have hout : ¬ was.state.Indexed ∧ was.state ≠ .exchanging := by
          obtain hst | hst | hst | hst := hst <;> simp [BayState.Indexed, hst]
        obtain ⟨hstate, htarget⟩ := hother hout.1
        exact ⟨hstate.trans (if_neg hout.2), htarget⟩
      · rw [hcurrent, cancelTargeted_bay_of_none hnone]
      · exact hcurrent.trans ((cancelTargeted_cancelledFrom s b).current hnone)
      · have hbay : now.current = some (m.cancel n) := by
          rw [hcurrent, cancelTargeted_bay_of_one hn hone, cancelAt_eq]
          exact congrArg (Option.map _) hm
        exact ⟨_, hbay, rfl, rfl, rfl, rfl, length_slots_cancel n, fun i x => slot_cancel n⟩
  · rw [exec_restartWarm_refused hopen hl hrec, flag_eq, flag_eq]
    rfl

end Sys2Proof.Machine
end

section
/-! The queue and the RESET input in every command: no owning block writes them, the arrivals and the events inside the part leave
them, and RESET and power-on leave the queue (file 00, "Taking an event"; R185). -/

namespace Sys2Proof.Machine

/-- The queue of waiting commands and the RESET input are the same in two states. -/
def SameQueue (s t : State) : Prop := t.pending = s.pending ∧ t.resetAsserted = s.resetAsserted

theorem SameQueue.refl (s : State) : SameQueue s s := ⟨rfl, rfl⟩

theorem SameQueue.trans {s t u : State} (h : SameQueue s t) (k : SameQueue t u) : SameQueue s u :=
  ⟨k.1.trans h.1, k.2.trans h.2⟩

/-! ### Host commands -/

/-- The restarts that a host asks for keep what waits (R184, R185). -/
theorem restart_sameQueue (form : Byte) (s : State) : SameQueue s (restart form s).1 := by
  have hwarm : SameQueue s (warmRestart s) := by
    rw [warmRestart_eq]
    exact ⟨rfl, rfl⟩
  unfold restart restartWarm
  repeat' split
  case isTrue.isFalse => exact hwarm
  all_goals exact .refl s

theorem configSet_sameQueue (item : Byte) (value : Word) (s : State) : SameQueue s (configSet item value s).1 := by
  simp only [configSet]
  repeat' split
  all_goals exact .refl s

/-- No host command's block writes the queue or the RESET input. -/
theorem commandOn_sameQueue (name : CommandName) (p : List Byte) (s : State) : SameQueue s (commandOn name p s).1 := by
  cases name
  case restart => exact restart_sameQueue _ s
  case configSet => exact configSet_sameQueue _ _ s
  all_goals
    simp only [commandOn, recipeBegin, recipeSite, recipeZone, recipeEnd, recipeDrop, recipeRead, panelAdmit, admitInto,
      panelRetire, retire, State.advanceQueue, panelRead, boardRead, tabRead, decideVerdict, tabResolve, boardResolve,
      bitChange, stationClear, clearSpindle, clearGripper, zoneSet, magStage, magGo, magUnstage, magRead, magRelease, bayRoute,
      bayExchange, bayClear, clearBay, pauseCommand, resumeCommand, configRead, noticeRead, noticeWrite, noticeAct,
      faultRead, faultAck]
    repeat' split
    all_goals simp [SameQueue]

theorem acceptFrame_sameQueue (s : State) (name : CommandName) (p : List Byte) :
    SameQueue s (s.acceptFrame name (commandBlock name p)) := by
  simp only [State.acceptFrame, commandBlock]
  split
  · exact .refl s
  split
  · next c hc =>
    obtain ⟨-, hc⟩ := Option.ite_none_right_eq_some.1 hc
    obtain rfl := Option.some.inj hc
    have hcmd := commandOn_sameQueue name p { s with ovr := false }
    unfold State.deliver
    split
    · next t a ht => rw [ht] at hcmd; exact hcmd
    · next t ht => rw [ht] at hcmd; exact hcmd
  · exact .refl s

theorem takeCommandOr_sameQueue (s : State) (name : CommandName) (p : List Byte) :
    SameQueue s (s.takeCommandOr name (commandBlock name p)) := by
  unfold State.takeCommandOr
  split
  · exact .refl s
  split
  · exact .refl s
  · exact acceptFrame_sameQueue s name p

/-- A transaction ends in nothing, in OVR, in a refusal or in a command (R186, R187). -/
theorem transact_sameQueue (bytes : List Byte) (s : State) : SameQueue s (transact bytes s) := by
  simp only [transact, examineFrame]
  repeat' split
  case h_2 name _ => exact acceptFrame_sameQueue s name _
  all_goals exact .refl s

/-! ### Station requests -/

theorem setAside_sameQueue (s : State) (cands : List BoardHandle) : SameQueue s (setAside s cands) := by
  induction cands generalizing s with
  | nil => exact .refl s
  | cons h rest ih =>
    refine SameQueue.trans ?_ (ih _)
    split <;> simp [SameQueue]

theorem walkBay_sameQueue (b : Fin 4) (m : Magazine) (s : State) (cands : List BoardHandle) :
    SameQueue s (walkBay b m s cands).1 := by
  induction cands generalizing s with
  | nil => exact .refl s
  | cons h rest ih =>
    simp only [walkBay]
    split
    · exact ih s
    split
    · exact SameQueue.trans (by simp [SameQueue]) (ih _)
    split <;> simp [SameQueue, State.fillUp]

theorem walkBays_sameQueue (cands : List BoardHandle) (s : State) (bays : List (Fin 4)) :
    SameQueue s (walkBays cands s bays).1 := by
  induction bays generalizing s with
  | nil => exact .refl s
  | cons b rest ih =>
    simp only [walkBays]
    split
    · exact ih s
    next m _ =>
      have hwalk := walkBay_sameQueue b m s (cands.filter (fun h => decide (s.destinationOf h = some b)))
      split
      · next t c ht => rwa [ht] at hwalk
      · next t ht => rw [ht] at hwalk; exact hwalk.trans (ih t)

theorem offerPick_sameQueue (s : State) : SameQueue s (offerPick s).1 := by
  have hwalk := (setAside_sameQueue s s.pickCandidates).trans
    (walkBays_sameQueue s.pickCandidates _ (setAside s s.pickCandidates).bayOrder)
  simp only [offerPick]
  split
  · next t c ht =>
    rw [ht] at hwalk
    split
    · exact hwalk.trans (by simp [givePick, SameQueue])
    · exact hwalk
  · next t ht => rwa [ht] at hwalk

theorem pollBay_sameQueue (s : State) (b : Fin 4) : SameQueue s (pollBay s b).1 := by
  simp only [pollBay, State.giveAction]
  repeat' split
  all_goals simp [SameQueue]

theorem pollAll_sameQueue (s : State) (bays : List (Fin 4)) : SameQueue s (pollAll s bays).1 := by
  induction bays generalizing s with
  | nil => exact .refl s
  | cons b rest ih => exact (pollBay_sameQueue s b).trans (ih _)

theorem bayDone_sameQueue (bay action ok : Byte) (s : State) : SameQueue s (bayDone bay action ok s).1 := by
  unfold bayDone
  split
  · simp only [bayDoneIndex, doneIndex]
    repeat' split
    all_goals simp [SameQueue]
  split
  · simp only [bayDoneExchange, doneExchange]
    repeat' split
    all_goals simp [SameQueue]
  · exact .refl s

theorem onSpindle_sameQueue (l : LineId) (r : Spindle → Request) (s : State) (hr : ∀ sp, SameQueue s (r sp s).1) :
    SameQueue s (onSpindle l r s).1 := by
  cases l
  case spindleA => exact hr .a
  case spindleB => exact hr .b
  all_goals exact .refl s

/-- No station request's block writes the queue or the RESET input. -/
theorem requestBlock_sameQueue (l : LineId) (name : RequestName) (f : List Byte) (s : State) :
    SameQueue s (requestBlock l name f s).1 := by
  cases name
  case nextTab | tabDone | tabFault =>
    refine onSpindle_sameQueue l _ s fun sp => ?_
    simp only [nextTab, State.wear, offerTab, assign, tabDone, finishTab, tabFault, failTab, State.loseTab]
    repeat' split
    all_goals simp [SameQueue]
  case progress => cases l <;> exact .refl s
  case nextPick =>
    simp only [requestBlock, nextPick]
    repeat' split
    case h_2.isFalse.isFalse => exact offerPick_sameQueue s
    all_goals exact .refl s
  case bayPoll => exact pollAll_sameQueue s bayNumbers
  case bayDone => exact bayDone_sameQueue _ _ _ s
  all_goals
    simp only [requestBlock, holdOn, placeCheck, placed, placeBoard, dropped, dropBoard, fiducial, checkFiducial, rejectRange,
      acceptFiducial, siteMark, State.beginHold]
    repeat' split
    all_goals simp [SameQueue]

theorem examine_sameQueue (s : State) (l : LineId) (code : Byte) (name : RequestName) (f : List Byte) :
    SameQueue s (s.examine l code (requestBlock l name f)) := by
  unfold State.examine
  split
  · exact .refl s
  split
  · exact .refl s
  split
  · exact .refl s
  · have hreq := SameQueue.trans (s := s) (t := s.reloadWatchdog l) (by simp [SameQueue]) (requestBlock_sameQueue l name f (s.reloadWatchdog l))
    split
    · next t r ht => rw [ht] at hreq; exact hreq
    · next t ht => rwa [ht] at hreq

theorem takeRequest_sameQueue (s : State) (l : LineId) (name : RequestName) (f : List Byte) :
    SameQueue s (s.takeRequest l name (requestBlock l name f)) := by
  unfold State.takeRequest
  split
  · exact .refl s
  · exact examine_sameQueue (s.frameComplete l) l _ name f

/-- PROGRESS on a line that has no such code is answered UNKNOWN (R86, R88). -/
theorem foreignProgress_sameQueue (s : State) (l : LineId) :
    SameQueue s ((s.frameComplete l).answerUnknown l RequestName.progress.byte) := by
  simp [SameQueue]

theorem frameArrives_sameQueue (l : LineId) (bytes : List Byte) (s : State) : SameQueue s (frameArrives l bytes s) := by
  unfold frameArrives State.examineBytes
  repeat' split
  case h_2.isFalse => exact examine_sameQueue (s.frameComplete l) l _ _ _
  all_goals simp [SameQueue]

theorem receiveByte_sameQueue (l : LineId) (byte : Byte) (framingError : Bool) (s : State) :
    SameQueue s (receiveByte l byte framingError s) := by
  simp only [receiveByte]
  repeat' split
  case h_3.isFalse.isTrue => exact frameArrives_sameQueue l _ s
  all_goals exact .refl s

/-! ### Events inside the part -/

theorem visit_sameQueue (e : Fin 4) (s : State) : SameQueue s (visitZone e s) ∧ SameQueue s (visitPickPoint e s)
    ∧ SameQueue s (visitTab e s) := by
  refine ⟨?_, ?_, ?_⟩
  all_goals
    simp only [visitZone, visitPickPoint, visitTab]
    repeat' split
    all_goals simp [SameQueue]

theorem endRun_sameQueue (e : Fin 4) (s : State) : SameQueue s (endRun e s) := by
  cases ha : s.activeRun e with
  | none => rw [endRun, ha]; exact .refl s
  | some vpr =>
    by_cases hv : vpr.1.position = .finished
    · rw [endRun_finished ha hv]
      simp [SameQueue, State.alignedBy, State.raiseMask]
    · simp only [endRun, ha, hv, if_false]
      exact .refl s

theorem endValidation_sameQueue (s : State) : SameQueue s (endValidation s) := by
  unfold endValidation
  repeat' split
  all_goals exact .refl s

theorem expireGap_sameQueue (l : LineId) (s : State) : SameQueue s (expireGap l s) := by
  unfold expireGap
  repeat' split
  all_goals exact .refl s

theorem expireHold_sameQueue (s : State) : SameQueue s (expireHold s) := by
  unfold expireHold
  repeat' split
  all_goals simp [SameQueue]

theorem expireSpindle_sameQueue (sp : Spindle) (s : State) : SameQueue s (expireSpindle sp s) := by
  simp only [expireSpindle, State.loseTab]
  repeat' split
  all_goals simp [SameQueue]

theorem expireGripper_sameQueue (s : State) : SameQueue s (expireGripper s) := by
  simp only [expireGripper, expireBoard]
  repeat' split
  all_goals simp [SameQueue]

theorem expireBay_sameQueue (b : Fin 4) (s : State) : SameQueue s (expireAction b s) ∧ SameQueue s (expireSettle b s)
    ∧ SameQueue s (expireWindow b s) := by
  refine ⟨?_, ?_, ?_⟩
  all_goals
    simp only [expireAction, State.failAction, expireSettle, expireWindow]
    repeat' split
    all_goals simp [SameQueue]

/-- Every edge of a sample goes to its block, and none writes the queue (R164). -/
theorem takeEdge_sameQueue (s : State) (i : Fin 7) (level : Bool) : SameQueue s (s.takeEdge i level) := by
  refine takeEdge_induction (.refl s) (fun f => ?_) (fun b => ?_) i
  · simp only [State.clampEdge, State.clampFalls]
    repeat' split
    all_goals simp [SameQueue]
  · unfold State.sensorEdge
    split <;> simp [SameQueue]

theorem takeEdges_sameQueue (s : State) (after : Vector FilterRecord 7) (found : List (Fin 7)) :
    SameQueue s (s.takeEdges after found) := by
  induction found generalizing s with
  | nil => exact .refl s
  | cons i rest ih => exact (takeEdge_sameQueue s i _).trans (ih _)

theorem samplePins_sameQueue (raw : BitVec 7) (s : State) : SameQueue s (samplePins raw s) := by
  simp only [samplePins]
  split
  · exact takeEdges_sameQueue _ _ _
  · exact .refl s

theorem takeEvent_sameQueue {s : State} {event : State → State} (he : SameQueue s (event s)) :
    SameQueue s (s.takeEvent event) := by
  unfold State.takeEvent
  split
  · exact .refl s
  · exact he

/-! ### Every command -/

/-- A row that stands for a frame is taken as its frame is. -/
theorem exec_frame_sameQueue {c : Instr} (h : ((hostCommand c).isSome || (stationRequest c).isSome) = true) (s : State) :
    ∃ t, exec c s = .next t ∧ SameQueue s t := by
  rcases Bool.or_eq_true_iff.1 h with hhost | hstation
  · obtain ⟨name, hname⟩ := Option.isSome_iff_exists.1 hhost
    exact ⟨_, exec_host_frame hname s, takeCommandOr_sameQueue s name _⟩
  · obtain ⟨⟨l, name, f⟩, hname⟩ := Option.isSome_iff_exists.1 hstation
    exact ⟨_, exec_station_frame hname s, takeRequest_sameQueue s l name f⟩

/-- Every command but RESET and power-on goes on with the queue and the RESET input as they were. -/
theorem exec_sameQueue {c : Instr} (hassert : c ≠ .resetAssert) (hrelease : c ≠ .resetRelease) (hpower : c ≠ .powerOn)
    (s : State) : ∃ t, exec c s = .next t ∧ SameQueue s t := by
  have kept : ∀ {event : State → State}, SameQueue s (event s) →
      ∃ t, Host.Outcome.next (φ := Fault) (ρ := Refusal) (s.takeEvent event) = .next t ∧ SameQueue s t :=
    fun h => ⟨_, rfl, takeEvent_sameQueue h⟩
  cases c
  case validationEnd => exact kept (endValidation_sameQueue s)
  case zoneVisit e => exact kept (visit_sameQueue e s).1
  case pickPointVisit e => exact kept (visit_sameQueue e s).2.1
  case tabVisit e => exact kept (visit_sameQueue e s).2.2
  case correctionRunEnd e => exact kept (endRun_sameQueue e s)
  case holdExpiry => exact kept (expireHold_sameQueue s)
  case gapTimerExpiry l => exact kept (expireGap_sameQueue l s)
  case stationFrame l bytes => exact kept (frameArrives_sameQueue l bytes s)
  case stationLineByte l byte framingError => exact kept (receiveByte_sameQueue l byte framingError s)
  case frameTransmitted l => exact kept (event := endTransmission l) (.refl s)
  case progress l =>
    cases l
    case vision => exact ⟨_, rfl, takeEvent_sameQueue (foreignProgress_sameQueue s .vision)⟩
    case elevator => exact ⟨_, rfl, takeEvent_sameQueue (foreignProgress_sameQueue s .elevator)⟩
    all_goals exact exec_frame_sameQueue rfl s
  case spindleWatchdogExpiry sp => exact kept (expireSpindle_sameQueue sp s)
  case gripperWatchdogExpiry => exact kept (expireGripper_sameQueue s)
  case actionTimerExpiry b => exact kept (expireBay_sameQueue b s).1
  case settleTimerExpiry b => exact kept (expireBay_sameQueue b s).2.1
  case confirmWindowExpiry b => exact kept (expireBay_sameQueue b s).2.2
  case sample raw => exact kept (samplePins_sameQueue raw s)
  case commandFrame bytes => exact kept (transact_sameQueue bytes s)
  case resetAssert => exact absurd rfl hassert
  case resetRelease => exact absurd rfl hrelease
  case powerOn => exact absurd rfl hpower
  all_goals exact exec_frame_sameQueue rfl s

/-- Settles O2: a frame or an event leaves the queue, and so do RESET and power-on, which write the cold values beside it. -/
theorem everyCommandGoesOnAndKeepsTheQueue : Obligations.EveryCommandGoesOnAndKeepsTheQueue := by
  intro c s
  by_cases hassert : c = .resetAssert
  · subst hassert
    exact ⟨assertReset s, rfl, rfl⟩
  by_cases hrelease : c = .resetRelease
  · subst hrelease
    exact ⟨{ coldValues s with resetAsserted := false }, rfl, rfl⟩
  by_cases hpower : c = .powerOn
  · subst hpower
    exact ⟨coldValues s, rfl, rfl⟩
  obtain ⟨t, ht, hqueue, -⟩ := exec_sameQueue hassert hrelease hpower s
  exact ⟨t, ht, hqueue⟩

end Sys2Proof.Machine
end

section
/-! What the host configures and reads over the command port: the fifteen items of CONFIG-SET and CONFIG-READ (R165, R190), the six
actions of NOTICE-WRITE (R192), ATN and the status byte (R189, R191, R194). -/

namespace Sys2Proof.Machine

/-! ### The settings (R190) -/

/-- The value taken is the value written, held between the bounds of its range. -/
theorem valueTaken_eq (i : Fin 14) (v : Nat) : valueTaken i v = min (max (itemRange i).1 v) (itemRange i).2 := by
  have hrange : (itemRange i).1 ≤ (itemRange i).2 := by revert i; decide
  unfold valueTaken clampTo
  split
  · omega
  split <;> omega

theorem code_pickModeOf {v : Nat} (h : v ≤ 2) : (pickModeOf v).code = v := by
  interval_cases v <;> rfl

/-- A setting reads back as the value of its range that was written. -/
theorem read_write_same (c : Settings) (i : Fin 14) {v : Nat} (h : v ≤ (itemRange i).2) : (c.write i v).read i = v := by
  match i with
  | 0 | 2 | 3 | 7 | 8 | 9 | 10 | 11 | 12 | 13 => rfl
  | 1 =>
    have hv : v = 0 ∨ v = 1 := by
      change v ≤ 1 at h
      omega
    obtain rfl | rfl := hv <;> rfl
  | 4 =>
    change v ≤ 4 at h
    change (fin? 4 v).elim 4 Fin.val = v
    cases hv : fin? 4 v with
    | none =>
      rw [fin?_eq_none] at hv
      exact (Nat.le_antisymm h hv).symm
    | some b => exact fin?_eq_some.1 hv
  | 5 => exact code_pickModeOf h
  | 6 => exact Nat.mod_eq_of_lt (Nat.lt_succ_of_le h)

/-- Each item writes a field of its own: the other settings stay. -/
theorem read_write_ne (c : Settings) {i j : Fin 14} (h : j ≠ i) (v : Nat) : (c.write i v).read j = c.read j := by
  fin_cases i
  all_goals
    fin_cases j
    all_goals first | exact absurd rfl h | rfl

/-- CONFIG-SET of a setting takes the clamped value and answers it. -/
theorem configSet_setting (s : State) (i : Fin 14) (value : Word) :
    configSet (BitVec.ofNat 8 i) value s =
      (s.configure (s.settings.write i (valueTaken i value.toNat)),
        some (.ok (BitVec.ofNat 8 i :: u32 (valueTaken i value.toNat)))) := by
  simp only [configSet, fin?_ofNat i (by decide), configAnswer, u8_toNat]
  rfl

/-- Item 14 takes the low seven bits as the class enables. -/
theorem configSet_enables (s : State) (value : Word) :
    configSet 14 value s = ({ s with fault := { s.fault with enables := value.setWidth 7 } },
      some (.ok (14 :: u32 (value.setWidth 7).toNat))) := by
  have hbits : BitVec.ofNat 7 value.toNat = value.setWidth 7 := BitVec.eq_of_toNat_eq (by simp)
  rw [← hbits]
  rfl

theorem configSet_range (s : State) (value : Word) {item : Byte} (h : 14 < item.toNat) :
    configSet item value s = (s, some (.bare .range)) := by
  have hitem : item ≠ 14 := fun he => absurd h (by subst he; decide)
  simp only [configSet, fin?_eq_none.2 h.le, if_neg hitem]

/-- Settles O14: a setting, the class enables and an item that is none, written and read. -/
theorem configItems : Obligations.ConfigItems := by
  refine ⟨by decide, fun s value ⟨hopen, hnormal⟩ => ⟨fun i => ?_, ?_, ?_, fun item hitem => ⟨?_, ?_⟩⟩⟩
  · have htaken := valueTaken_eq i value.toNat
    refine ⟨s.settings.write i (valueTaken i value.toNat), ?_, ?_, fun j hj => read_write_ne s.settings hj _, ?_⟩
    · rw [← htaken]
      exact exec_changes (s.configure (s.settings.write i (valueTaken i value.toNat))) hopen (.inl hnormal) rfl
        (configSet_setting { s with ovr := false } i value)
    · rw [← htaken]
      exact read_write_same s.settings i (valueTaken_inRange i _).2
    · exact exec_answered hopen (.inl hnormal) rfl (configRead_setting { s with ovr := false } i)
  · exact exec_changes { s with fault := { s.fault with enables := value.setWidth 7 } } hopen (.inl hnormal) rfl
      (configSet_enables { s with ovr := false } value)
  · exact exec_answered hopen (.inl hnormal) rfl (configRead_enables { s with ovr := false })
  · exact exec_answered hopen (.inl hnormal) rfl (configSet_range { s with ovr := false } value hitem)
  · exact exec_answered hopen (.inl hnormal) rfl (configRead_range { s with ovr := false } item hitem)

/-! ### NOTICE-WRITE (R192) -/

/-- The action of a NOTICE-WRITE row, delivered in NORMAL, and its answer. -/
theorem exec_noticeAct {c : Instr} {s : State} {a : NoticeAction} {mask : Word} (h : PortNormal s)
    (hexec : exec c s = .next (s.takeCommand .noticeWrite (noticeAct a mask))) :
    exec c s = .next (({ s with notices := s.notices.act a mask } : State).answered .noticeWrite .ok
      (u32 (s.notices.act a mask).flags.toNat ++ [if (s.notices.act a mask).atn then 1 else 0])) := by
  rw [← flag_eq]
  exact exec_changes { s with notices := s.notices.act a mask } h.1 (.inl h.2) hexec rfl

/-- Settles O15, action by action. -/
theorem noticeWriteActions : Obligations.NoticeWriteActions := fun _ _ h =>
  ⟨exec_noticeAct (a := .set) h rfl, exec_noticeAct (a := .clear) h rfl, exec_noticeAct (a := .enable) h rfl,
    exec_noticeAct (a := .disable) h rfl, exec_noticeAct (a := .groupEnable) h rfl, exec_noticeAct (a := .groupDisable) h rfl⟩

/-! ### ATN (R191) -/

/-- Bits that a group's mask selects are not all clear exactly when one of the group's bits is set. -/
theorem and_mask_ne_zero_iff {w lo hi : Nat} {x mask : BitVec w} (hmask : ∀ i, mask.getLsbD i = decide (lo ≤ i ∧ i < hi)) :
    x &&& mask ≠ 0 ↔ ∃ i, lo ≤ i ∧ i < hi ∧ x.getLsbD i = true := by
  constructor
  · intro hne
    by_contra hnone
    refine hne (BitVec.eq_of_getLsbD_eq fun i _ => ?_)
    simp only [not_exists, not_and, Bool.not_eq_true] at hnone
    rw [BitVec.getLsbD_and, hmask, show (0 : BitVec w).getLsbD i = false by simp]
    by_cases hin : lo ≤ i ∧ i < hi
    · rw [hnone i hin.1 hin.2, Bool.false_and]
    · rw [decide_eq_false hin, Bool.and_false]
  · rintro ⟨i, hlo, hhi, hx⟩ hzero
    have hbit := congrArg (·.getLsbD i) hzero
    simp [hmask, hlo, hhi, hx] at hbit

/-- A mask of 26 bits is read bit by bit. -/
theorem mask_bits {mask : BitVec 26} {lo hi : Nat} (hhi : hi ≤ 26)
    (h : ∀ i : Fin 26, mask.getLsbD i = decide (lo ≤ i.val ∧ i.val < hi)) (i : Nat) :
    mask.getLsbD i = decide (lo ≤ i ∧ i < hi) := by
  by_cases hi26 : i < 26
  · exact h ⟨i, hi26⟩
  · rw [BitVec.getLsbD_of_ge _ _ (by omega)]
    exact (decide_eq_false (by omega)).symm

/-- A group's summary: one of its flags is set and enabled. -/
theorem summary_iff (n : NoticeUnit) {mask : BitVec 26} {lo hi : Nat} (hhi : hi ≤ 26)
    (h : ∀ i : Fin 26, mask.getLsbD i = decide (lo ≤ i.val ∧ i.val < hi)) :
    n.flags &&& n.enables &&& mask ≠ 0 ↔
      ∃ i, lo ≤ i ∧ i < hi ∧ n.flags.getLsbD i = true ∧ n.enables.getLsbD i = true := by
  rw [and_mask_ne_zero_iff (mask_bits hhi h)]
  simp only [BitVec.getLsbD_and, Bool.and_eq_true]

theorem atn_iff (n : NoticeUnit) : n.atn = true ↔
    (n.flags &&& n.enables &&& 0xF ≠ 0 ∧ n.groupEnables.getLsbD 0 = true)
    ∨ (n.flags &&& n.enables &&& 0x3F0 ≠ 0 ∧ n.groupEnables.getLsbD 1 = true)
    ∨ (n.flags &&& n.enables &&& 0xC00 ≠ 0 ∧ n.groupEnables.getLsbD 2 = true)
    ∨ (n.flags &&& n.enables &&& 0xF000 ≠ 0 ∧ n.groupEnables.getLsbD 3 = true)
    ∨ (n.flags &&& n.enables &&& 0x3FF0000 ≠ 0 ∧ n.groupEnables.getLsbD 4 = true) := by
  simp only [NoticeUnit.atn, NoticeUnit.summaries, groupMasks, List.map_cons, List.map_nil, List.zipIdx_cons, List.zipIdx_nil,
    List.any_cons, List.any_nil, Bool.or_eq_true, Bool.and_eq_true, decide_eq_true_eq, Bool.false_eq_true, or_false]

/-! ### The status byte (R189, R194) -/

/-- Eight marks at the weights of a byte's bits are the bits of the byte. -/
theorem getLsbD_ofNat_marks : ∀ a b c d e f g h : Bool,
    let byte : Byte := BitVec.ofNat 8 (a.toNat * 128 + b.toNat * 64 + c.toNat * 32 + d.toNat * 16 + e.toNat * 8 + f.toNat * 4
      + g.toNat * 2 + h.toNat)
    byte.getLsbD 7 = a ∧ byte.getLsbD 6 = b ∧ byte.getLsbD 5 = c ∧ byte.getLsbD 4 = d ∧ byte.getLsbD 3 = e ∧ byte.getLsbD 2 = f
      ∧ byte.getLsbD 1 = g ∧ byte.getLsbD 0 = h := by
  decide

theorem stagingOpen_iff (s : State) : s.stagingOpen = true ↔ s.staging ≠ .closed := by
  unfold State.stagingOpen
  cases s.staging <;> simp [Staging.number]

/-- Settles O16: the status byte bit by bit, and ATN group by group. -/
theorem atnSummarisesEnabledFlags : Obligations.AtnSummarisesEnabledFlags := by
  refine ⟨fun s => ?_, fun n => ?_⟩
  · obtain ⟨hbusy, hovr, hpaused, hquiet, hlocked, harmed, hatn, hstaging⟩ := getLsbD_ofNat_marks s.busy s.ovr s.causes.any
      (decide (s.pauseState = .paused)) s.fault.locked s.fault.armed s.notices.atn s.stagingOpen
    refine ⟨hbusy, hovr, ?_, ?_, hlocked, harmed, hatn, ?_⟩
    · rw [← causes_any_iff, ← hpaused]
      rfl
    · rw [← decide_eq_true_iff (p := s.pauseState = .paused), ← hquiet]
      rfl
    · rw [← stagingOpen_iff, ← hstaging]
      rfl
  · rw [atn_iff, summary_iff n (lo := 0) (hi := 4) (by decide) (by decide),
      summary_iff n (lo := 4) (hi := 10) (by decide) (by decide), summary_iff n (lo := 10) (hi := 12) (by decide) (by decide),
      summary_iff n (lo := 12) (hi := 16) (by decide) (by decide), summary_iff n (lo := 16) (hi := 26) (by decide) (by decide)]
    simp only [Nat.zero_le, true_and]

end Sys2Proof.Machine
end

section
/-! Transactions taken whole (R186, R187, R194): the reads and the frames cut short, which alter nothing, a complete frame in the
order of R187, and the frame of a command, which has the effect of its row. -/

namespace Sys2Proof.Machine

/-! ### Command codes (R194) -/

/-- A command's byte names the command, and is no status read and no fetch. -/
theorem command_byte (name : CommandName) :
    commandOf name.byte = some name ∧ name.byte ≠ Config.statusRead ∧ name.byte ≠ Config.fetch := by
  cases name <;> decide

/-! ### A transaction from selection to deselection (R186, R187) -/

/-- COMMAND_FRAME, while RESET is negated. -/
theorem exec_commandFrame {s : State} (hr : s.resetAsserted = false) (bytes : List Byte) :
    exec (.commandFrame bytes) s = .next (transact bytes s) :=
  congrArg Host.Outcome.next (takeEvent_taken s _ hr)

/-- A transaction without effect has none while RESET is asserted either. -/
theorem exec_commandFrame_idle {bytes : List Byte} {s : State} (h : transact bytes s = s) :
    exec (.commandFrame bytes) s = .next s := by
  refine congrArg Host.Outcome.next ?_
  unfold State.takeEvent
  split
  · rfl
  · exact h

/-- A status read and a fetch alter nothing (R186). -/
theorem transact_read {code : Byte} (h : code = 0xA5 ∨ code = 0xA6) (bytes : List Byte) (s : State) :
    transact (code :: bytes) s = s := if_pos h

/-- A code alone is no frame yet (R187). -/
theorem transact_code (code : Byte) (s : State) : transact [code] s = s := by
  simp [transact]

/-- A frame whose check byte is not in does nothing (R187). -/
theorem transact_short (code len : Byte) {body : List Byte} (h : body.length ≤ len.toNat) (s : State) :
    transact (code :: len :: body) s = s := by
  have hcut := transact_cut_short code len body s (body.length + 2) (by omega)
  rwa [List.take_of_length_le (by simp)] at hcut

/-- The frame of a payload, whole and with whatever follows it, is examined without what follows (R187). -/
theorem transact_complete {code : Byte} (hread : code ≠ 0xA5) (hfetch : code ≠ 0xA6) {payload : List Byte}
    (hlen : payload.length ≤ 255) (check : Byte) (extra : List Byte) (s : State) :
    transact (code :: BitVec.ofNat 8 payload.length :: (payload ++ check :: extra)) s =
      examineFrame code payload (code :: BitVec.ofNat 8 payload.length :: (payload ++ [check])) s := by
  have hbyte : (BitVec.ofNat 8 payload.length).toNat = payload.length := by
    rw [BitVec.toNat_ofNat]
    omega
  have hwhole : (payload ++ check :: extra).take (payload.length + 1) = payload ++ [check] := by
    rw [List.take_length_add_append, List.take_succ_cons, List.take_zero]
  have hlong : ¬ (payload ++ check :: extra).length < payload.length + 1 := by
    simp
  simp only [transact, hbyte, hwhole, List.take_left', if_neg hlong]
  exact if_neg (not_or.2 ⟨hread, hfetch⟩)

/-! ### Tests 2 and 3 of R187 -/

/-- A refusal by the port itself clears OVR and places an answer; BSY was clear. -/
theorem placeAnswer_open {s : State} (h : PortOpen s) (code : Byte) (refusal : HostCode) :
    { s with ovr := false }.placeAnswer code (.bare refusal) =
      { s with ovr := false, answer := ⟨s.answer.sequence + 1, code, some refusal, []⟩ } := by
  simp [State.placeAnswer, Answer.bare, h.2]

/-- A frame whose sum is not 0 is answered BADFRAME under its own code. -/
theorem examineFrame_badFrame {s : State} (h : PortOpen s) (code : Byte) (payload : List Byte) {whole : List Byte}
    (hsum : sumBytes whole ≠ 0) : examineFrame code payload whole s =
      { s with ovr := false, answer := ⟨s.answer.sequence + 1, code, some .badFrame, []⟩ } := by
  rw [examineFrame, if_neg (by simp [h.2]), if_pos hsum, placeAnswer_open h]

/-- A good frame whose code is no command code is answered UNKNOWN. -/
theorem examineFrame_unknown {s : State} (h : PortOpen s) {code : Byte} (payload : List Byte) {whole : List Byte}
    (hsum : sumBytes whole = 0) (hcode : commandOf code = none) : examineFrame code payload whole s =
      { s with ovr := false, answer := ⟨s.answer.sequence + 1, code, some .unknown, []⟩ } := by
  rw [examineFrame, if_neg (by simp [h.2]), if_neg (not_not.2 hsum), hcode]
  exact placeAnswer_open h code .unknown

/-! ### The frame of a command -/

/-- The frame of a command passes tests 2 and 3 of R187, and arrives at the port as its row does. -/
theorem exec_commandFrameBytes (name : CommandName) {payload : List Byte} (hlen : payload.length ≤ 255) (extra : List Byte)
    (s : State) : exec (.commandFrame (commandFrameBytes name payload ++ extra)) s =
      .next (s.takeCommandOr name (commandBlock name payload)) := by
  obtain ⟨hname, hread, hfetch⟩ := command_byte name
  have hsum := sumBytes_checkByte (name.byte :: BitVec.ofNat 8 payload.length :: payload)
  refine congrArg Host.Outcome.next ?_
  unfold State.takeEvent State.takeCommandOr
  split
  · rfl
  · simp only [commandFrameBytes, List.append_assoc, List.cons_append, List.nil_append] at hsum ⊢
    rw [transact_complete hread hfetch hlen]
    simp only [examineFrame, hsum, hname]
    rfl

theorem payloadFits_iff (payload : List Byte) : payloadFits payload = true ↔ payload.length ≤ 255 :=
  decide_eq_true_iff

/-- Every well-formed row's payload fits a frame: where its fields have fixed widths it is short. -/
theorem length_hostPayload {c : Instr} (h : c.wellFormed = true) : (hostPayload c).length ≤ 255 := by
  cases c
  case recipeBegin p | recipeSite p | recipeZone p | bayRoute p => exact (payloadFits_iff p).1 h
  all_goals exact Nat.le_of_ble_eq_true rfl

/-- Settles O10: the frame and the row arrive at the port with the same command. -/
theorem commandFramesActAsTheirRows : Obligations.CommandFramesActAsTheirRows := by
  intro c name extra s hrow hfits
  rw [exec_commandFrameBytes name (length_hostPayload hfits), exec_host_frame hrow]

/-! ### Test 5 of R187, and the codes that RESTART and NOTICE-WRITE refuse -/

/-- A payload that has not its command's length is LENGTH, unless LOCKDOWN refuses the command (R179). -/
theorem exec_frame_length {s : State} {name : CommandName} {payload : List Byte} (h : PortOpen s)
    (hl : s.fault.locked = false ∨ name.takenInLockdown = true) (hlen : payload.length ≤ 255)
    (hbad : payloadLengthOk name payload = false) :
    exec (.commandFrame (commandFrameBytes name payload)) s = .next (s.answered name .length []) := by
  have hnone : commandBlock name payload = none := by rw [commandBlock, hbad]; rfl
  rw [← List.append_nil (commandFrameBytes name payload), exec_commandFrameBytes name hlen, hnone,
    takeCommandOr_length s name h hl]

/-- A frame whose command leaves the state and answers a code alone. -/
theorem exec_frame_refused {s : State} {name : CommandName} {payload : List Byte} {code : HostCode} (h : PortOpen s)
    (hl : s.fault.locked = false ∨ name.takenInLockdown = true) (hlen : payload.length ≤ 255)
    (hgood : payloadLengthOk name payload = true)
    (hcommand : commandOn name payload { s with ovr := false } = ({ s with ovr := false }, some (.bare code))) :
    exec (.commandFrame (commandFrameBytes name payload)) s = .next (s.answered name code []) := by
  have hsome : commandBlock name payload = some (commandOn name payload) := by rw [commandBlock, hgood]; rfl
  rw [← List.append_nil (commandFrameBytes name payload), exec_commandFrameBytes name hlen, hsome]
  exact congrArg Host.Outcome.next (takeCommand_answered s name _ code [] h hl hcommand)

/-- A command whose layout has one length takes a payload of that length alone. -/
theorem payloadLengthOk_of_length {name : CommandName} {n : Nat} (h : name.length = some n) (payload : List Byte) :
    payloadLengthOk name payload = decide (payload.length = n) := by
  have hfixed : payloadLengthOk name payload = decide (name.length = some payload.length) := by
    cases name
    case recipeBegin | recipeSite | recipeZone | bayRoute => cases h
    all_goals rfl
  simp only [hfixed, h, Option.some.injEq, eq_comm]

/-- RESTART with a form other than its two (R183). -/
theorem restart_range {form : Byte} (h : 1 < form.toNat) (s : State) : restart form s = (s, some (.bare .range)) := by
  have hzero : form ≠ 0 := fun he => absurd h (by subst he; decide)
  have hone : form ≠ 1 := fun he => absurd h (by subst he; decide)
  simp only [restart, if_neg hzero, if_neg hone]

/-- NOTICE-WRITE with an action other than its six (R192). -/
theorem noticeWrite_range {action : Byte} (h : 5 < action.toNat) (mask : Word) (s : State) :
    noticeWrite action mask s = (s, some (.bare .range)) := by
  have hnone : noticeActionOf action = none := by
    unfold noticeActionOf
    repeat rw [if_neg fun he => absurd h (by subst he; decide)]
  simp only [noticeWrite, hnone]

end Sys2Proof.Machine
end

section
/-! The command port byte by byte (R186, R187, R193): a transaction clocked with nothing beside it, what each byte does and shows,
and the events that abandon a transaction. -/

namespace Sys2Proof.Machine

/-! ### A frame takes effect with its check byte (R187) -/

/-- Before its check byte the frame has done nothing. -/
theorem transact_of_frameEnds {bytes : List Byte} {byte : Byte} (h : frameEnds (bytes ++ [byte]) = true) (s : State) :
    transact bytes s = s := by
  match bytes, h with
  | [], h => cases h
  | [code], _ => exact transact_code code s
  | code :: len :: body, h =>
    obtain ⟨-, -, hbody⟩ := (frameEnds_iff code len (body ++ [byte])).1 h
    rw [List.length_append, List.length_singleton] at hbody
    exact transact_short code len (by omega) s

/-- Any other byte adds nothing to what the bytes before it did. -/
theorem transact_snoc {bytes : List Byte} {byte : Byte} (h : frameEnds (bytes ++ [byte]) = false) (s : State) :
    transact (bytes ++ [byte]) s = transact bytes s := by
  match bytes, h with
  | [], _ => exact transact_code byte s
  | [code], _ => exact (transact_short code byte (Nat.zero_le _) s).trans (transact_code code s).symm
  | code :: len :: body, h =>
    by_cases hread : code = 0xA5 ∨ code = 0xA6
    · exact (transact_read hread _ s).trans (transact_read hread _ s).symm
    have hother : ¬ body.length = len.toNat := fun he => by
      rw [Bool.eq_false_iff] at h
      exact h ((frameEnds_iff code len (body ++ [byte])).2
        ⟨fun hc => hread (.inl hc), fun hc => hread (.inr hc), by simp [he]⟩)
    rcases Nat.lt_or_ge body.length len.toNat with hshort | hlong
    · have hstill : (body ++ [byte]).length ≤ len.toNat := by simpa using hshort
      exact (transact_short code len hstill s).trans (transact_short code len hshort.le s).symm
    · have htake := transact_take code len (body ++ [byte]) s (body.length + 2) (by omega)
      have hbefore : (code :: len :: (body ++ [byte])).take (body.length + 2) = code :: len :: body := by simp
      rw [hbefore] at htake
      exact htake.symm

/-! ### A transaction clocked byte by byte -/

/-- A byte that the port takes, at the part: the frame it ends takes effect. -/
theorem part_clock_taking (m : PortState) (byte : Byte) (h : m.selection.taking m.part = true) :
    (m.next (.clock byte)).part =
      if frameEnds (m.selection.received ++ [byte]) then transact (m.selection.received ++ [byte]) m.part else m.part := by
  have hr := ((taking_iff _ _).1 h).2
  rw [next_clock_taking m byte h, exec_commandFrame hr]
  rfl

/-- The part and its port after bytes clocked with nothing beside them: the part as the transaction so far leaves it (R187). -/
theorem clocked_eq {s : State} (hr : s.resetAsserted = false) (bytes : List Byte) :
    s.clocked bytes = ⟨transact bytes s, ⟨bytes, s.answer, false, bytes.length⟩⟩ := by
  induction bytes using List.reverseRecOn with
  | nil => simp only [State.clocked, State.selected, hr]; rfl
  | append_singleton bytes byte ih =>
    have hlast : s.clocked (bytes ++ [byte]) = (s.clocked bytes).next (.clock byte) := by
      simp [State.clocked, PortState.after]
    have htaking : (s.clocked bytes).selection.taking (s.clocked bytes).part = true := by
      rw [ih, taking_iff]
      exact ⟨rfl, (transact_sameQueue bytes s).2.trans hr⟩
    have hpart : ((s.clocked bytes).next (.clock byte)).part = transact (bytes ++ [byte]) s := by
      rw [part_clock_taking _ byte htaking, ih]
      split
      next hends => rw [transact_of_frameEnds hends s]
      next hends => exact (transact_snoc (Bool.eq_false_iff.2 hends) s).symm
    have hselection : ((s.clocked bytes).next (.clock byte)).selection = ⟨bytes ++ [byte], s.answer, false, bytes.length + 1⟩ := by
      rw [next_clock_taking _ byte htaking, ih]
      cases bytes <;> rfl
    rw [hlast, List.length_append, List.length_singleton, ← hpart, ← hselection]

/-- What position i shows is read off the transaction before it (R186). -/
theorem getElem?_shiftedOut {s : State} (hr : s.resetAsserted = false) {bytes : List Byte} {i : Nat} (hi : i < bytes.length) :
    (s.shiftedOut bytes)[i]? =
      some ((⟨bytes.take i, s.answer, false, i⟩ : Selection).output (transact (bytes.take i) s)) := by
  have hclocked := clocked_eq hr (bytes.take i)
  rw [List.length_take, Nat.min_eq_left hi.le] at hclocked
  rw [State.clocked] at hclocked
  rw [State.shiftedOut, getElem?_outputs_clocks _ bytes i hi, hclocked]

/-- Position by position, what a transaction of two bytes or more shows (R186). -/
theorem shiftedOut_positions {s : State} (hr : s.resetAsserted = false) (code len : Byte) (rest : List Byte) {i : Nat}
    (hi : i < (code :: len :: rest).length) :
    (code ≠ 0xA5 → code ≠ 0xA6 → (s.shiftedOut (code :: len :: rest))[i]? =
        some (if i < len.toNat + 3 then s.statusByte else (transact (code :: len :: rest) s).statusByte))
      ∧ (code = 0xA5 → (s.shiftedOut (code :: len :: rest))[i]? = some s.statusByte)
      ∧ (code = 0xA6 → (s.shiftedOut (code :: len :: rest))[i]? =
          some (if i = 0 then s.statusByte else s.answer.fetchBytes.getD (i - 1) 0)) := by
  have htaking : ∀ bytes found clocked,
      (⟨bytes, found, false, clocked⟩ : Selection).taking (transact bytes s) = true := fun bytes _ _ =>
    (taking_iff _ _).2 ⟨rfl, (transact_sameQueue bytes s).2.trans hr⟩
  have hstatus : code ≠ 0xA6 → (s.shiftedOut (code :: len :: rest))[i]? =
      some (transact ((code :: len :: rest).take i) s).statusByte := fun hfetch => by
    rw [getElem?_shiftedOut hr hi, output_status _ _ (htaking _ _ _)]
    cases i with
    | zero => exact nofun
    | succ i => simpa using hfetch
  refine ⟨fun _ hfetch => ?_, fun hread => ?_, fun hfetch => ?_⟩
  · rw [hstatus hfetch]
    split
    next hcut => rw [transact_cut_short code len rest s i hcut]
    next hwhole => rw [transact_take code len rest s i (Nat.le_of_not_lt hwhole)]
  · subst hread
    rw [hstatus (by decide)]
    cases i with
    | zero => rfl
    | succ i => rw [List.take_succ_cons, transact_read (.inl rfl)]
  · subst hfetch
    rw [getElem?_shiftedOut hr hi]
    cases i with
    | zero => rw [output_status _ _ (htaking _ _ _) (by simp)]; rfl
    | succ i =>
      have hin : i ≤ (len :: rest).length := Nat.le_of_lt (Nat.lt_of_succ_lt_succ hi)
      rw [output_fetch _ _ ((len :: rest).take i) (htaking ((0xA6 :: len :: rest).take (i + 1)) _ _) List.take_succ_cons,
        List.length_take, Nat.min_eq_left hin]
      rfl

/-! ### One byte clocked (R186, R187, R193) -/

/-- A byte that the port does not take abandons the transaction and leaves the part (R186, R193). -/
theorem after_clock_idle {m : PortState} (h : m.selection.taking m.part = false) (byte : Byte) :
    (m.after [.clock byte]).part = m.part ∧ (m.after [.clock byte]).selection.abandoned = true := by
  change (m.next (.clock byte)).part = m.part ∧ (m.next (.clock byte)).selection.abandoned = true
  rw [next_clock_idle m byte h]
  exact ⟨rfl, rfl⟩

/-- While RESET is asserted the output is low, and the byte abandons the transaction. -/
theorem clock_reset (m : PortState) (byte : Byte) (hr : m.part.resetAsserted = true) :
    m.outputs [.clock byte] = [0] ∧ (m.after [.clock byte]).part = m.part
      ∧ (m.after [.clock byte]).selection.abandoned = true := by
  refine ⟨?_, after_clock_idle (by simp [Selection.taking, hr]) byte⟩
  rw [outputs_clock, output_reset _ _ hr]

/-- After an abandoned transaction a byte has no effect, and what it shows is free (log entry 31). -/
theorem clock_abandoned (m : PortState) (byte : Byte) (hr : m.part.resetAsserted = false)
    (ha : m.selection.abandoned = true) :
    m.outputs [.clock byte] = [Config.idleOutput m.selection.clocked] ∧ (m.after [.clock byte]).part = m.part
      ∧ (m.after [.clock byte]).selection.abandoned = true := by
  refine ⟨?_, after_clock_idle (by simp [Selection.taking, ha]) byte⟩
  rw [outputs_clock, output_abandoned _ _ hr ha]

/-- Bytes that end no frame are fewer than two, a read's, or not as many as the length byte says. -/
theorem frameEnds_eq_false {bytes : List Byte} (h : ∀ code len body, bytes = code :: len :: body →
    code = 0xA5 ∨ code = 0xA6 ∨ body.length ≠ len.toNat + 1) : frameEnds bytes = false := by
  match bytes, h with
  | [], _ | [_], _ => rfl
  | code :: len :: body, h =>
    rw [Bool.eq_false_iff]
    intro hends
    obtain ⟨hread, hfetch, hbody⟩ := (frameEnds_iff code len body).1 hends
    obtain hcode | hcode | hother := h code len body rfl
    · exact hread hcode
    · exact hfetch hcode
    · exact hother hbody

section

variable {m : PortState} (htaking : m.selection.taking m.part = true) (byte : Byte)
include htaking

/-- A byte of a transaction that stands joins those before it; the first finds the answer buffer. -/
theorem selection_clock_taking : (m.after [.clock byte]).selection = { m.selection with
    received := m.selection.received ++ [byte]
    found := if m.selection.received.isEmpty then m.part.answer else m.selection.found
    clocked := m.selection.clocked + 1 } :=
  congrArg PortState.selection (next_clock_taking m byte htaking)

/-- What a byte shows, the first of the transaction and the later ones. -/
theorem output_clock_taking :
    (m.selection.received = [] → m.outputs [.clock byte] = [m.part.statusByte])
      ∧ ∀ first rest, m.selection.received = first :: rest → m.outputs [.clock byte] =
          [if first = 0xA6 then m.selection.found.fetchBytes.getD rest.length 0 else m.part.statusByte] := by
  refine ⟨fun hnone => ?_, fun first rest hsome => ?_⟩
  · rw [outputs_clock, output_status _ _ htaking (by simp [hnone])]
  · rw [outputs_clock]
    split
    next hfetch => rw [output_fetch _ _ rest htaking (hfetch ▸ hsome)]
    next hfetch => rw [output_status _ _ htaking (by simpa [hsome] using hfetch)]

/-- A frame takes effect with its check byte (R187). -/
theorem exec_clock_frame {code len : Byte} {body : List Byte} (hbytes : m.selection.received ++ [byte] = code :: len :: body)
    (hread : code ≠ 0xA5) (hfetch : code ≠ 0xA6) (hbody : body.length = len.toNat + 1) :
    exec (.commandFrame (m.selection.received ++ [byte])) m.part = .next (m.after [.clock byte]).part := by
  have hends : frameEnds (m.selection.received ++ [byte]) = true :=
    hbytes ▸ (frameEnds_iff code len body).2 ⟨hread, hfetch, hbody⟩
  have hpart := part_clock_taking m byte htaking
  rw [if_pos hends] at hpart
  rw [exec_commandFrame ((taking_iff _ _).1 htaking).2, ← hpart]
  rfl

/-- Any other byte leaves the part. -/
theorem part_clock_other (h : ∀ code len body, m.selection.received ++ [byte] = code :: len :: body →
    code = 0xA5 ∨ code = 0xA6 ∨ body.length ≠ len.toNat + 1) : (m.after [.clock byte]).part = m.part := by
  have hpart := part_clock_taking m byte htaking
  rwa [frameEnds_eq_false h] at hpart

end

/-! ### Commands and steps beside the transaction (R193) -/

theorem goesOn_of_next {o : Result} {s t : State} (h : o = .next t) : o = .next (goesOn o s) := by
  rw [h]
  rfl

/-- A command goes on at the part whatever stands at the port. -/
theorem exec_take (m : PortState) (c : Instr) : exec c m.part = .next (m.after [.take c]).part := by
  obtain ⟨t, ht, -⟩ := everyCommandGoesOnAndKeepsTheQueue c m.part
  exact goesOn_of_next ht

/-- So does a step, with a command or with a tick. -/
theorem step_after (m : PortState) : Machine.step m.part = .next (m.after [.step]).part := by
  cases hq : m.part.pending with
  | nil => exact goesOn_of_next (step_idle _ hq)
  | cons c rest =>
    obtain ⟨t, ht, -⟩ := everyCommandGoesOnAndKeepsTheQueue c { m.part with pending := rest }
    exact goesOn_of_next ((stepTakesFrontCommand c rest m.part hq).trans ht)

/-- RESET and power-on cut the transaction, and nothing else does. -/
theorem cutsTransaction_iff (c : Instr) : cutsTransaction c = true ↔ c = .resetAssert ∨ c = .resetRelease ∨ c = .powerOn :=
  decide_eq_true_iff

/-- A command that cuts no transaction leaves the selection. -/
theorem selection_take (m : PortState) {c : Instr} (h : cutsTransaction c = false) :
    (m.after [.take c]).selection = m.selection := by
  simp [PortState.after, PortState.next, Selection.past, h]

/-- The command of a step is taken at the selection as it is beside one. -/
theorem selection_step_cons (m : PortState) {c : Instr} {rest : List Instr} (h : m.part.pending = c :: rest) :
    (m.after [.step]).selection = (m.after [.take c]).selection := by
  simp [PortState.after, PortState.next, h]

/-- A tick leaves the selection. -/
theorem selection_step_nil (m : PortState) (h : m.part.pending = []) : (m.after [.step]).selection = m.selection := by
  simp [PortState.after, PortState.next, h]

/-! ### Once abandoned (R193) -/

theorem after_abandoned (m : PortState) (events : List PortEvent) (h : m.selection.abandoned = true) :
    (m.after events).selection.abandoned = true := by
  induction events generalizing m with
  | nil => exact h
  | cons e rest ih => exact ih (m.next e) (next_abandoned m e h)

/-- The later bytes of an abandoned transaction have no effect. -/
theorem part_clocks_abandoned (m : PortState) (events : List PortEvent) (h : m.selection.abandoned = true)
    (hclocks : ∀ e ∈ events, ∃ byte, e = .clock byte) : (m.after events).part = m.part := by
  induction events generalizing m with
  | nil => rfl
  | cons e rest ih =>
    obtain ⟨byte, rfl⟩ := hclocks e List.mem_cons_self
    have hlater := ih (m.next (.clock byte)) (next_abandoned m _ h) fun e he => hclocks e (List.mem_cons_of_mem _ he)
    exact hlater.trans (after_clock_idle (by simp [Selection.taking, h]) byte).1

/-! ### The fetch form (R194) -/

theorem fetchBytes_eq (a : AnswerBuffer) : ∃ check, sumBytes a.fetchBytes = 0 ∧ a.fetchBytes =
    a.sequence :: BitVec.ofNat 8 ((a.fields.length + 2) / 256) :: BitVec.ofNat 8 (a.fields.length + 2) :: a.command
      :: (match a.code with
        | some c => BitVec.ofNat 8 c.code
        | none => 0xFF) :: a.fields ++ [check] :=
  ⟨_, sumBytes_checkByte _, rfl⟩

/-! ### The obligation, clause by clause -/

/-- The frames with a payload that their command does not take (R183, R187, R192). -/
theorem exec_frame_wrong_payload {name : CommandName} {payload : List Byte} {s : State} (hopen : PortOpen s)
    (hlen : payload.length ≤ 255) :
    (s.fault.locked = false ∨ name.takenInLockdown = true →
        (∀ n, name.length = some n → payload.length ≠ n →
          exec (.commandFrame (commandFrameBytes name payload)) s = .next (s.answered name .length []))
        ∧ (name = .bayRoute → payload = [] ∨ payload.length % 2 = 1 ∨ 32 < payload.length →
          exec (.commandFrame (commandFrameBytes name payload)) s = .next (s.answered name .length [])))
      ∧ (∀ form : Byte, name = .restart → payload = [form] → 1 < form.toNat →
          exec (.commandFrame (commandFrameBytes name payload)) s = .next (s.answered name .range []))
      ∧ ∀ (action : Byte) (mask : List Byte), s.fault.locked = false → name = .noticeWrite → payload = action :: mask →
          mask.length = 4 → 5 < action.toNat →
          exec (.commandFrame (commandFrameBytes name payload)) s = .next (s.answered name .range []) := by
  refine ⟨fun hl => ⟨fun n hname hn => ?_, fun hname hbad => ?_⟩, fun form hname hp hform => ?_,
    fun action mask hnormal hname hp hmask haction => ?_⟩
  · exact exec_frame_length hopen hl hlen ((payloadLengthOk_of_length hname payload).trans (decide_eq_false hn))
  · subst hname
    exact exec_frame_length hopen hl hlen (routeLength_eq_false hbad)
  · subst hname hp
    exact exec_frame_refused hopen (.inr rfl) hlen rfl (restart_range hform _)
  · subst hname hp
    refine exec_frame_refused hopen (.inl hnormal) hlen ?_ (noticeWrite_range haction _ _)
    exact (payloadLengthOk_of_length rfl _).trans (decide_eq_true (congrArg Nat.succ hmask))

/-- Settles O11: the transactions taken whole, the fetch form, the transaction byte by byte, and the port beside the part. -/
theorem framesThatReachNoCommand : Obligations.FramesThatReachNoCommand := by
  refine ⟨fun bytes code len s => ?_, fun code check payload s hopen hlen hread hfetch => ?_,
    fun name payload s hopen hlen => ?_, fetchBytes_eq, fun code len rest s t hr => ?_, fun m byte => ?_,
    fun m c => ?_, fun m events ha => ⟨after_abandoned m events ha, part_clocks_abandoned m events ha⟩⟩
  · exact ⟨exec_commandFrame_idle (transact_read (.inl rfl) bytes s), exec_commandFrame_idle (transact_read (.inr rfl) bytes s),
      exec_commandFrame_idle (transact_code code s), fun hshort => exec_commandFrame_idle (transact_short code len hshort s)⟩
  · have hexamined := transact_complete hread hfetch hlen check [] s
    intro bytes
    refine ⟨fun hsum => ?_, fun hsum hcode => ?_⟩
    · exact (exec_commandFrame hopen.1 bytes).trans
        (congrArg _ (hexamined.trans (examineFrame_badFrame hopen code payload hsum)))
    · exact (exec_commandFrame hopen.1 bytes).trans
        (congrArg _ (hexamined.trans (examineFrame_unknown hopen payload hsum hcode)))
  · obtain ⟨hlength, hform, haction⟩ := exec_frame_wrong_payload (name := name) hopen hlen
    intro refused lengths
    refine ⟨fun hl => ⟨fun n hn => (hlength hl).1 n ?_, (hlength hl).2⟩, hform, haction⟩
    have hlayouts : ∀ x ∈ lengths, x.1.length = some x.2 := by decide
    exact hlayouts (name, n) hn
  · intro bytes hexec
    rw [exec_commandFrame hr] at hexec
    obtain rfl := Host.Outcome.next.inj hexec
    refine ⟨congrArg PortState.part (clocked_eq hr bytes), length_outputs_clocks _ bytes,
      fun i hi => shiftedOut_positions hr code len rest hi⟩
  · refine ⟨clock_reset m byte, clock_abandoned m byte, fun hr ha => ?_⟩
    have htaking : m.selection.taking m.part = true := (taking_iff _ _).2 ⟨ha, hr⟩
    obtain ⟨hfirst, hlater⟩ := output_clock_taking htaking byte
    rw [selection_clock_taking htaking byte]
    exact ⟨rfl, ha, fun hnone => ⟨hfirst hnone, by simp [hnone]⟩,
      fun first rest hsome => ⟨by simp [hsome], hlater first rest hsome⟩,
      fun code len body => exec_clock_frame htaking byte, part_clock_other htaking byte⟩
  · refine ⟨exec_take m c, fun hcut => next_take_cut m c ((cutsTransaction_iff c).2 hcut), fun hassert hrelease hpower => ?_,
      step_after m, fun rest => selection_step_cons m, selection_step_nil m⟩
    refine selection_take m (Bool.eq_false_iff.2 fun hcut => ?_)
    obtain hc | hc | hc := (cutsTransaction_iff c).1 hcut
    · exact hassert hc
    · exact hrelease hc
    · exact hpower hc

end Sys2Proof.Machine
end
